-- ==== Sys2Proof/Word.lean ====
section
/-! DEFINITION. Word types of the UZ64 (R9, R10, R38): bytes, words, and their plainest conversions.
Every multi-byte value is little-endian (R10). -/

namespace Sys2Proof

/-- One byte (type U8 of R38). -/
abbrev Byte := BitVec 8
/-- A raw byte string: an entry value, a frame, a page (types OCTETS, STRING and RECORD of R38). -/
abbrev Bytes := List Byte
/-- Bits of an IEEE 754 binary32 value (type F32 of R38). -/
abbrev F32 := BitVec 32
/-- Bits of an IEEE 754 binary64 value (the internal arithmetic of R156, R175, R196). -/
abbrev F64 := BitVec 64

/-- The byte `n mod 256`. -/
def byte (n : Nat) : Byte := BitVec.ofNat 8 n

/-- `n` as `k` little-endian bytes, modulo `256 ^ k` (R10). -/
def leBytes : Nat → Nat → Bytes
  | 0, _ => []
  | k + 1, n => byte n :: leBytes k (n / 256)

/-- The unsigned value of little-endian bytes (R10). -/
def leNat : Bytes → Nat
  | [] => 0
  | b :: bs => b.toNat + 256 * leNat bs

/-- The two's complement value of `w` bits holding `n` (types I8 to I64 of R38). -/
def toSigned (w n : Nat) : Int :=
  let m := n % 2 ^ w
  if m < 2 ^ (w - 1) then (m : Int) else (m : Int) - 2 ^ w

/-- The `w`-bit two's complement pattern of an integer. -/
def ofSigned (w : Nat) (i : Int) : Nat := (i % 2 ^ w).toNat

/-- Bit `i` of a natural number (R9). -/
def bitOf (n i : Nat) : Bool := n.testBit i

/-- The weight of bit `i` when `b` holds, else 0: status words are sums of these. -/
def bitVal (b : Bool) (i : Nat) : Nat := if b then 2 ^ i else 0

end Sys2Proof
end

