-- ==== Sys2Proof/Machine/Types.lean ====
section
/-! DEFINITION. The plain data the parts of the State are made of: conditions, storage, audit and seals, dictionary protocol,
bus, time and power. -/

namespace Sys2Proof.Machine

/-- A numbered instance bank, read with a fallback outside it. -/
def vAt {α : Type} {n : Nat} (v : Vector α n) (i : Nat) (d : α) : α := if h : i < n then v[i] else d
/-- A numbered instance bank with one instance changed; outside it nothing changes. -/
def vUpd {α : Type} {n : Nat} (v : Vector α n) (i : Nat) (f : α → α) : Vector α n :=
  if h : i < n then v.set i (f v[i]) else v

/-! ## Conditions (R15, R22) -/

/-- One raised condition: its code, whether its cause is present, and the tick at which the cause became absent. -/
structure Cond where
  code : Nat
  cause : Bool
  since : Nat
  deriving DecidableEq, Repr

/-! ## Persistent storage (R404 to R419) -/

/-- The writers of R33 and R34. -/
inductive Writer where
  | core | metrology | loop | kiln | hamper | display
  deriving DecidableEq, Repr

/-- One copy of a two-copy record (R410): its sequence, its data, and whether its check holds. -/
structure Copy where
  seq : BitVec 32
  data : Bytes
  ok : Bool
  deriving DecidableEq, Repr

/-- A two-copy record (R410, R411). `use` is 0 for the default, 1 for the copy in slot 0, 2 for the copy in slot 1. -/
structure Rec where
  id : Nat
  slot0 : Option Copy
  slot1 : Option Copy
  use : Nat
  deriving DecidableEq, Repr

/-- What a Hamper write changes: bytes at an address, a record, a cell of a loop's learning memory (M and E, R256), the row of a trace
set for the sample at a tick (R270). -/
inductive Target where
  | bytes (addr : Nat) (data : Bytes)
  | record (id : Nat) (data : Bytes)
  | cell (loop j : Nat) (m e : F32)
  | row (set ts : Nat)
  deriving DecidableEq, Repr

/-- A target with the place it goes to: for a record, the copy and its slot (R411). -/
inductive Placed where
  | bytes (addr : Nat) (data : Bytes)
  | copy (id slot : Nat) (c : Copy)
  | cell (loop j : Nat) (m e : F32)
  | row (set ts : Nat)
  deriving DecidableEq, Repr

/-- One pending page write: the engine that issued it, its R34 class (0 journal to 5 trace), and its target (R34). -/
structure PendWrite where
  writer : Writer
  cls : Nat
  target : Target
  deriving DecidableEq, Repr

/-- One image of a journalled operation, with the writer that submits it (R413). -/
structure Image where
  writer : Writer
  target : Target
  deriving DecidableEq, Repr

/-- The journal pages after its commit record (R413): operation sequence and page count of the target list; the image pages written so far,
each with its target page, of which the first `count` are the operation's; what those place; and the reference count at which the operation
was done. The commit record is one of the two-copy records. -/
structure Journal where
  listSeq : BitVec 32
  count : Nat
  pages : List (Nat × Bytes)
  placed : List Placed
  doneAt : Option Nat
  deriving DecidableEq, Repr

/-- One copy of the remap table (R407, R410): its sequence, the logical page each spare used so far was given to, none for a spare that
did not read back, and whether its check holds. -/
structure RemapCopy where
  seq : BitVec 32
  table : List (Option Nat)
  ok : Bool
  deriving DecidableEq, Repr

/-- The remap table (R405, R407): its two copies, the copy in use as in `Rec`, and the table in use. -/
structure Remap where
  slot0 : Option RemapCopy
  slot1 : Option RemapCopy
  use : Nat
  table : List (Option Nat)
  deriving DecidableEq, Repr

/-- How a loss of power finds a write that a warning or a reset entry cut short (R411, R415): an operation without its commit record, a
committed one without the record of its end, a period update with so many limbs written, a copy of the remap table. -/
inductive Cut where
  | rollBack
  | commit
  | carry (done : Nat)
  | remap
  deriving DecidableEq, Repr

/-- The period update run last (R417): the reference count, the marker's record as its state-1 write left it, and the records of the limbs
before their writes, in order. -/
structure Update where
  ref : Nat
  marker : Rec
  before : List Rec
  deriving DecidableEq, Repr

/-- The Hamper and its controller. -/
structure Storage where
  /-- The bytes of the rings, seal slots, firmware slots and test pages, in canonical form (R33). -/
  mem : List Host.Cell
  /-- Two-copy records, ascending by number (R409). -/
  recs : List Rec
  journal : Journal
  /-- Page writes issued and not yet done, in issue order (R34). -/
  pend : List PendWrite
  remap : Remap
  /-- Logical pages that read uncorrectable (R404). -/
  bad : List Nat
  /-- Pages that showed corrected errors in scrubs: page and the ticks of those scrubs (R406). -/
  scrubHits : List (Nat × Nat)
  /-- Tick at which the running scrub cycle began, and its period in hours; 0 before the first since reset. -/
  scrubStart : Nat
  scrubHours : Nat
  /-- The page that the scrub has read with a corrected error and not yet rewritten (R406). -/
  scrubDue : Option Nat
  /-- What the read-back of the coming page writes shows: true where the page differs (R405). Beyond its end pages read back as written;
  the operands of commands set it (log 75). -/
  tape : List Bool
  /-- What the coming page reads of start-up and engines show, one hexadecimal digit a page in the form of `KdpReq.ecc` (R404; log 46). -/
  shows : Nat
  update : Option Update
  cut : Option Cut
  /-- For each page without a printed layout that has been written, a number that changes with every write of it (log 23). -/
  marks : List (Nat × Nat)
  deriving DecidableEq, Repr

/-! ## Audit and seals (R278 to R312) -/

/-- A requester (R49), or the device itself where an audit entry says so. -/
inductive Requester where
  | service
  | node (segment id : Nat)
  | device
  deriving DecidableEq, Repr

/-- Which attempt or wait a seal request is in (R295). -/
inductive SealPhase where
  | queued
  | signing (attempt : Nat)
  /-- the first attempt failed and the TRNG is halted: the second waits for it (R295, R303) -/
  | failedOnce
  | retry (since : Nat)
  /-- signed and verified during a power-fail warning, commit held (R295) -/
  | held
  deriving DecidableEq, Repr

/-- A seal request in the Kiln queue (R286, R292): kind 0 daily, 1 billing, 2 event, 3 on-demand, 4 attestation. -/
structure SealReq where
  kind : Nat
  reasons : Nat
  time : Nat
  /-- the bound record, where the trigger binds one -/
  bound : Option Nat
  /-- the challenge and the requester of an attestation -/
  challenge : Bytes
  who : Requester
  /-- signed again after an interruption (seal flag 7) -/
  again : Bool
  /-- it holds one of the 8 places; else it waits in the kept list (R293) -/
  placed : Bool
  phase : SealPhase
  /-- header at signing start, signature -/
  header : Bytes
  sig : Bytes
  started : Nat
  deriving DecidableEq, Repr

/-- What the device knows of one stored seal. -/
structure SealMeta where
  slot : Nat
  seq : Nat
  kind : Nat
  last : Option Nat
  auditSeq : Nat
  digest : Bytes
  epoch : Nat
  reasons : Nat
  header : Bytes
  valid : Bool
  deriving DecidableEq, Repr

/-- An attestation statement held for its requester (R307). -/
structure Statement where
  who : Requester
  value : Bytes
  ready : Nat
  deriving DecidableEq, Repr

/-- The Kiln: queue, stored seals, statements, TRNG and key store. -/
structure Kiln where
  queue : List SealReq
  seals : List SealMeta
  statements : List Statement
  /-- ticks of accepted on-demand requests (R291) -/
  onDemand : List Nat
  trngHalted : Option Nat
  keyFault : Bool
  /-- billing seals omitted (flag 9) and records lost (flag 6), for the next stored seal -/
  billingOmitted : Bool
  recordsLost : Bool
  /-- security counter cells blown (R315) -/
  counter : Nat
  deriving DecidableEq, Repr

/-- The audit log (R308): entries ever written, and the head (R281). -/
structure Audit where
  count : Nat
  head : Bytes
  deriving DecidableEq, Repr

/-! ## Dictionary protocol (R49 to R79) -/

/-- Where a message came from and where its answer goes: the service port, or a path of the bus (0 to 3). -/
inductive Chan where
  | service
  | bus (path : Nat)
  deriving DecidableEq, Repr

/-- The address part of a received KDP message: channel, identifier fields, flags and route extension (R57, R59, R331). -/
structure KdpAddr where
  chan : Chan
  cls : Nat
  svc : Nat
  dst : Nat
  src : Nat
  tag : Nat
  flags : Nat
  /-- reference counter at the start of frame, bit rate switch and error state indicator, as a bus frame carries them (R362) -/
  sof : Nat
  brs : Bool
  esi : Bool
  deriving DecidableEq, Repr

/-- A received KDP message: header fields and the bytes after the header, padding included (R57, R58).
`badPage` says which of the pages programmed from its writing on read back differently (R405): bit i the i-th of them; `hwFault`
whether the owning hardware reports a fault at step 13 of R44; `ecc` what the pages read from its reading on show (R404, R423), one
hexadecimal digit a page: bit 0 a corrected error, bit 1 an uncorrectable one, bit 3 a CRC mismatch. -/
structure KdpReq where
  addr : KdpAddr
  op : Nat
  index : Nat
  sub : Nat
  seq : Nat
  len : Nat
  body : Bytes
  badPage : Nat
  hwFault : Bool
  ecc : Nat
  deriving DecidableEq, Repr

/-- A live snapshot (R50): its requester, its group's first entry, the frozen members, the freeze instant and tick. -/
structure Snap where
  who : Requester
  group : Nat
  vals : List Bytes
  frozen : Nat
  tick : Nat
  deriving DecidableEq, Repr

/-- How a requester's last snapshot of a group ended, while that is remembered (R53). -/
structure SnapEnd where
  who : Requester
  group : Nat
  evicted : Bool
  deriving DecidableEq, Repr

/-- A segmented transfer (R63, R65). -/
inductive TransferKind where
  /-- total, CRC-32C, bytes received, next segment, window granted, segments since the acknowledgement, last segment's tick,
  and, of a window that went out of sequence and whose rest is discarded (R66), how far past the segment wanted its last
  segment lay and its end lies -/
  | writing (total : Nat) (crc : BitVec 32) (got : Bytes) (next window since lastTick : Nat) (gap : Option (Nat × Nat))
  /-- value, first unacknowledged segment, segments sent, window limit, whether it started with a read-snapshot -/
  | reading (value : Bytes) (acked sent limit : Nat)
  deriving DecidableEq, Repr

/-- One open transfer (R62). -/
structure Transfer where
  who : Requester
  addr : KdpAddr
  routeSrc : Nat
  routeDst : Nat
  index : Nat
  sub : Nat
  deadline : Nat
  kind : TransferKind
  deriving DecidableEq, Repr

/-- What a queued frame is, for the rules that treat kinds apart (R336). -/
inductive FrameKind where
  | response (who : Requester) (tag : Nat)
  | publication (map : Nat)
  | pubCopy (map : Nat)
  | forwarded
  | heartbeat
  | timeRef (pair : Nat)
  | timeFollow (pair : Nat)
  | raw (mailbox : Nat) (byPath : Bool)
  deriving DecidableEq, Repr

/-- A frame: identifier, 29-bit, FD and bit-rate-switch flags, data bytes, reference counter when it joined its queue. -/
structure Frame where
  kind : FrameKind
  id : Nat
  ext : Bool
  fd : Bool
  brs : Bool
  data : Bytes
  queued : Nat
  deriving DecidableEq, Repr

/-- A frame received on a bus path (R332, R362): identifier, format flags, data, reference counter at its start of frame. -/
structure RxFrame where
  path : Nat
  id : Nat
  ext : Bool
  fd : Bool
  brs : Bool
  esi : Bool
  data : Bytes
  sof : Nat
  deriving DecidableEq, Repr

/-- Publication map n at run time (R72): enable instant, last transmission, deferred trigger, last transmitted change
item, tag count, periods already fired. -/
structure PubMap where
  enabledAt : Nat
  lastTx : Option Nat
  deferred : Bool
  lastValue : Option Bytes
  count : Nat
  fired : Nat
  deriving DecidableEq, Repr

/-- Subscription map n at run time (R74, R75): tick of its last matching publication; whether a reception timeout and a mismatch
are still to be made good by a publication that is written. -/
structure SubMap where
  last : Nat
  late : Bool
  mismatch : Bool
  deriving DecidableEq, Repr

/-- The dictionary protocol engine. -/
structure Kdp where
  snaps : List Snap
  ended : List SnapEnd
  transfers : List Transfer
  /-- messages received and not yet taken, in order of reception (R42, R79, R336) -/
  wait : List KdpReq
  /-- outgoing service-port frames, oldest first, at most 16 (R77, R79) -/
  serviceQ : List Frame
  /-- responses and segments that wait for a place among the 16 (R79) -/
  serviceWait : List Frame
  /-- ticks of discarded service-port frames in the last second (R78) -/
  discards : List Nat
  pubs : Vector PubMap 64
  /-- the subscription maps (R74, R75) -/
  subs : Vector SubMap 64
  /-- condition events waiting for the event trigger: one bit per subsystem nibble (R72) -/
  events : Nat
  deriving DecidableEq, Repr

/-! ## Bus (R327 to R371) -/

/-- A pending trip frame (R349): channel, state, origin, hops, tag, origin segment. -/
structure TripFrame where
  channel : Nat
  asserted : Bool
  tag : Nat
  originNode : Nat
  hops : Nat
  originSegment : Nat
  src : Nat
  /-- order of the state change among all trip frames this node has queued (R351) -/
  order : Nat
  /-- reference counter when it joined the trip queue -/
  queued : Nat
  deriving DecidableEq, Repr

/-- One bus path. -/
structure PathSt where
  /-- transmit and receive error counters (R338) -/
  txErr : Nat
  rxErr : Nat
  busOff : Bool
  ackErrors : Nat
  lonely : Bool
  echoErrors : Nat
  passiveSince : Option Nat
  passiveTooLong : Bool
  /-- transceiver status bits of 1108+p.0E -/
  xcvr : Nat
  quiet : Bool
  /-- tick of the last valid frame received, and the sources heard with their ticks -/
  lastHeard : Nat
  heard : List (Nat × Nat)
  /-- since when the path passes self-test (R344) -/
  passSince : Option Nat
  queue : List Frame
  trips : List TripFrame
  /-- frames that left a queue without completing since the path last ended an attempt, with the reference counter then: one of
  them may be in transmission (R335) -/
  left : List ((TripFrame ⊕ Frame) × Nat)
  /-- the frame aborted at a hand-over, to be sent first (R345) -/
  first : Option Frame
  /-- last trip frame of each channel completed: channel and completion order -/
  tripsDone : List (Nat × Nat)
  /-- frames kept against duplicates: source, identifier, data, tick (R346) -/
  recent : List (Nat × Nat × Bytes × Nat)
  deriving DecidableEq, Repr

/-- One redundant pair, with the settings in use since the last reset (R330). -/
structure PairSt where
  enabled : Bool
  nodeId : Nat
  segment : Nat
  mask : Nat
  nominal : Nat
  data : Nat
  tdc : Nat
  /-- end of the joining listen, while joining (R347) -/
  joinEnd : Option Nat
  silent : Bool
  holder : Option Nat
  expiry : Nat
  renewed : Nat
  lease : Nat
  preferred : Nat
  revertHold : Nat
  passiveLimit : Nat
  hbPending : Bool
  hbCount : Nat
  deriving DecidableEq, Repr

/-- A remote trip source (R352). -/
structure RemoteSource where
  segment : Nat
  node : Nat
  channel : Nat
  tag : Nat
  asserted : Bool
  deriving DecidableEq, Repr

/-- The bus. -/
structure Bus where
  paths : Vector PathSt 4
  pairs : Vector PairSt 2
  bridging : Bool
  /-- a setting of R330 has been written since the last reset (1100.06) -/
  resetNeeded : Bool
  remotes : List RemoteSource
  /-- channels held asserted because the table was full -/
  stuck : Nat
  tripCounter : Nat
  /-- local channels asserted, with the tag of their last frame, for the refresh (R350) -/
  localTags : List (Nat × Nat)
  refreshAt : Nat
  /-- order number of trip state changes, for R351 -/
  tripOrder : Nat
  deriving DecidableEq, Repr

/-! ## Time (R372 to R403) -/

/-- The reference side of time: ticks, reference counter, capture of the last RTC seconds edge, halt, slew, add/skip. -/
structure Clock where
  /-- 1 ms ticks since the power-on reset (R121) -/
  tick : Nat
  /-- reference periods since the power-on reset (R24) -/
  ref : Nat
  /-- reference counter at the last RTC seconds edge, in reference periods (R372); may lie before the reset -/
  edge : Int
  /-- halt: release deadline, device time and reference counter at the halt (R380) -/
  halt : Option (Nat × Nat × Nat)
  setValue : Option Nat
  /-- remaining slew in 1/64 of a reference period: one RTC cycle is 46 875 of them (R376, R382) -/
  slew : Int
  /-- add/skip accumulator, in parts of one RTC cycle times 1 048 576 (R376) -/
  skipAcc : Int
  /-- time source (R378), error bound in ns with unknown as none (R379) -/
  source : Nat
  bound : Option Nat
  /-- whether the untrusted state of R373 is held -/
  lossHeld : Bool
  /-- end of the first 64 s and whether the first trim was set (R376) -/
  trimmed : Bool
  /-- the drift bin in use when the core was last reset was learned (R379) -/
  binGood : Bool
  rtcWindowAt : Nat
  /-- running sums for the speed index: sum over the last 1 000 ticks as per-second partials -/
  speedRing : List Nat
  lastMinute : Nat
  localOffset : Int
  /-- a 2902 entry was written: local time is worked out anew at the next tick (R392) -/
  localDue : Bool
  deriving DecidableEq, Repr

/-- A reference frame waiting for its follow-up: source, tag, quality, stratum, period units, device time of its start of
frame in reference periods, and the reference count then (R388). -/
structure HalfPair where
  src : Nat
  tag : Nat
  quality : Nat
  stratum : Nat
  units : Nat
  stamp : Int
  sof : Nat
  deriving DecidableEq, Repr

/-- Network time (R386 to R391). -/
structure NetTime where
  /-- reference frames of incomplete pairs, one a source -/
  halves : List HalfPair
  lastTag : Option (Nat × Nat)
  pending : Option Int
  confirms : Nat
  lastPair : Option Nat
  period : Nat
  /-- tick of the last frame of a better master, for each pair the device is master on (R387) -/
  better : Vector (Option Nat) 2
  sendTag : Vector Nat 2
  /-- follow-up owed on a pair: tag, start-of-frame device time in reference periods, quality and stratum of the reference frame, and
  the reference count at which that frame had completed (R386) -/
  owed : Vector (Option (Nat × Int × Nat × Nat × Nat)) 2
  /-- the whole multiple of the reference period last reached, sent in or passed over (R387) -/
  lastSent : Vector Nat 2
  /-- start of the running hour of follower data: network time and reference counter, both in reference periods (R377) -/
  devFrom : Option (Int × Nat)
  /-- hourly reference deviations of the last 30 days, newest first, with the device time in seconds at which each was learned; windows
  of follower data in each temperature bin -/
  hours : List (Nat × F32)
  binWindows : Vector Nat 16
  deriving DecidableEq, Repr

/-- A user alarm (R385): its due instant, in local ms for kinds 1 and 2 and in device ms for kind 0, and the local date of its
last firing. -/
structure AlarmSt where
  due : Option Nat
  lastDate : Option Nat
  deriving DecidableEq, Repr

/-! ## The Thermos domain (R467) -/

/-- One tamper input (R311, R312): the settings the Thermos domain uses, whether it is active, and the activations not yet
logged: time of the first and of the last in ms, and how many. -/
structure TamperIn where
  enable : Bool
  level : Bool
  active : Bool
  first : Option Nat
  last : Nat
  count : Nat
  deriving DecidableEq, Repr

/-- The Thermos domain. -/
structure Thermos where
  secs : Nat
  frac : Nat
  tamper : Vector TamperIn 2
  stopped : Bool
  firstSwitch : Option (Nat × Bool)
  lastSwitch : Option Nat
  scratch : Bytes
  onBackup : Bool
  trim : Int
  /-- the check word over the configuration and scratch cells (R467) -/
  check : BitVec 16
  /-- whether time was trusted when the core was last reset (R469) -/
  trusted : Bool
  deriving DecidableEq, Repr

/-- Activation and trial of the running image (R319, R322): tick of the reset an activation asked for, tick at which the running
image started. -/
structure UpdateSt where
  resetAt : Option Nat
  runSince : Nat
  deriving DecidableEq, Repr

/-! ## Power and phase (R465, R481, R484) -/

/-- Where the device stands: Off, Backup, held in reset with main power, running, or in recovery (R323). -/
inductive Phase where
  | off | backup | held | up | recovery
  deriving DecidableEq, Repr

/-- Power supervision and start-up progress. -/
structure Power where
  phase : Phase
  /-- reset cause latched for the next start-up (R485) -/
  cause : Nat
  /-- reset entry in progress: its start in reference periods and cause (R484) -/
  entry : Option (Nat × Nat)
  /-- power-fail warning: start instant in reference periods (R461) -/
  warning : Option Nat
  /-- bit 0 returns at the next whole second after a brown-out -/
  validAt : Option Nat
  metrologyValid : Bool
  /-- start instant tick, whether step 8 has ended, whether the 2 s limit was judged (R488) -/
  started : Nat
  step8 : Bool
  /-- reference fault and its start (R28) -/
  refFault : Bool
  thermal : Bool
  coreMv : Nat
  raiseAt : Option Nat
  /-- Quiet in force (R465), and the reference count at which it began -/
  quiet : Bool
  quietAt : Nat
  /-- the converter spread in effect (R459) -/
  spread : Bool
  supplyLow : Option Nat
  fallback : Bool
  tamperMark : Bool
  deadlineMiss : Bool
  runningSlot : Nat
  /-- milliseconds since the watchdog was last serviced (R490) -/
  watchdog : Nat
  /-- whether the 2 s limit of R488 has been judged; start-up not yet complete (R481) -/
  limitJudged : Bool
  starting : Bool
  /-- the output FAULT_N is asserted (R323) -/
  faultN : Bool
  deriving DecidableEq, Repr

/-! ## What a lane shot senses (R147, R154, R165) -/

/-- One shot as the timed island senses it: the calibration counts n1 and n2; in mode 1 the half-cycles at the receiver as (time
in ps, amplitude in µV); in mode 2 whether the comparator stood above threshold at the start; the zero crossings of one polarity,
or the comparator's crossing, as (coarse edges, taps); the reference capacitor's event (mode 2); the peak in µV. -/
structure ShotIn where
  n1 : Nat
  n2 : Nat
  halves : List (Nat × Nat)
  level : Bool
  hits : List (Nat × Nat)
  refHit : Nat × Nat
  peak : Nat
  deriving DecidableEq, Repr

/-- What ended a transmission attempt: a bit error of the transmitter outside arbitration, a missing acknowledgement, another
error (R338, R339, R343). -/
inductive TxError where
  | bit | ack | other
  deriving DecidableEq, Repr

/-- What the monitor of a converter's reference sees (R136): the reference in use in microvolts, and its change over the last 1 ms. -/
structure MonitorIn where
  uv : Nat
  change : Nat
  deriving DecidableEq, Repr

/-- One measurement of the supply monitor (R458 to R460, R475, R478), in millivolts, milliwatts and thousandths of a degree
Celsius: VIN, VHOLD, VPORT, port rail power, high-voltage die temperature. -/
structure SupplyIn where
  vin : Nat
  vhold : Nat
  vport : Nat
  pport : Nat
  temp : Int
  deriving DecidableEq, Repr

end Sys2Proof.Machine
end

