-- ==== Sys2Proof/Syntax.lean ====
section
/-! DEFINITION. The commands the device takes: one constructor for each row of spec/opcode_table.json, in its order. An operand is
what the row's rule lets the command's sender choose or its environment decide: which instance, a message, a measured value, an
outcome (log 1). -/

namespace Sys2Proof

/-- A command. -/
inductive Instr where
  /-- TICK (R121). -/
  | tick (index : Nat) (cycles : Nat) (serviced : Bool)
  /-- CORE_SUPPLY_ADJUST (R20). -/
  | coreSupplyAdjust
  /-- CONDITION_CLEAR (R22). -/
  | conditionClear (code : Nat)
  /-- REFERENCE_OSCILLATOR_FAULT (R28). -/
  | referenceOscillatorFault
  /-- REFERENCE_RESTART (R491). -/
  | referenceRestart (cycles : Nat)
  /-- HAMPER_PAGE_WRITE (R408). -/
  | hamperPageWrite (differs : Bool)
  /-- SCRUB_PAGE (R406). -/
  | scrubPage (ecc : Nat) (differs : Bool)
  /-- READ (R65). -/
  | read (m : Machine.KdpReq)
  /-- SNAPSHOT_EXPIRY (R51). -/
  | snapshotExpiry
  /-- WRITE (R44). -/
  | write (m : Machine.KdpReq)
  /-- READ_SNAPSHOT (R54). -/
  | readSnapshot (m : Machine.KdpReq)
  /-- WRITE_INITIATE (R63). -/
  | writeInitiate (m : Machine.KdpReq)
  /-- SEGMENT (R63). -/
  | segment (m : Machine.KdpReq)
  /-- SEGMENT_ACKNOWLEDGEMENT (R65). -/
  | segmentAcknowledgement (m : Machine.KdpReq)
  /-- SEGMENT_WAIT_TIMEOUT (R63). -/
  | segmentWaitTimeout (who : Machine.Requester) (tag : Nat)
  /-- ABORT_TRANSFER (R67). -/
  | abortTransfer (m : Machine.KdpReq)
  /-- TRANSFER_TIMEOUT (R67). -/
  | transferTimeout (who : Machine.Requester) (tag : Nat)
  /-- DESCRIBE (R60). -/
  | describe (m : Machine.KdpReq)
  /-- UNKNOWN_OP (R60). -/
  | unknownOp (m : Machine.KdpReq)
  /-- PUBLICATION_RECEIVED (R74). -/
  | publicationReceived (f : Machine.RxFrame) (badPage : Nat) (hwFault : Bool)
  /-- SUBSCRIPTION_TIMEOUT (R75). -/
  | subscriptionTimeout (n : Nat)
  /-- PUBLICATION_PERIOD_TRIGGER (R72). -/
  | publicationPeriodTrigger (n : Nat)
  /-- PUBLICATION_CHANGE_TRIGGER (R72). -/
  | publicationChangeTrigger (n : Nat)
  /-- INHIBIT_TIME_END (R72). -/
  | inhibitTimeEnd (n : Nat)
  /-- PUBLICATION_MAP_ENABLE (R73). -/
  | publicationMapEnable (m : Machine.KdpReq)
  /-- SERVICE_PORT_SELECTION (R77). -/
  | servicePortSelection (bytes : Bytes) (badPage : Nat) (hwFault : Bool) (ecc : Nat)
  /-- PORT_MODE_WRITE (R85). -/
  | portModeWrite (m : Machine.KdpReq)
  /-- PORT_MODE_ENABLE (R85). -/
  | portModeEnable (n : Nat)
  /-- DIGITAL_FILTER_CHANGE (R90). -/
  | digitalFilterChange (n : Nat) (level : Bool) (edge : Nat)
  /-- GATE_WINDOW_END (R92). -/
  | gateWindowEnd (n : Nat)
  /-- STALL_TIMEOUT (R93). -/
  | stallTimeout (n : Nat)
  /-- PRESENCE_WINDOW_END (R94). -/
  | presenceWindowEnd (n : Nat)
  /-- SHUNT_OVERLOAD (R89). -/
  | shuntOverload (n : Nat)
  /-- SHUNT_RECLOSE (R89). -/
  | shuntReclose (n : Nat)
  /-- PWM_PERIOD_BOUNDARY (R98). -/
  | pwmPeriodBoundary (n : Nat)
  /-- OUTPUT_OVERLOAD_TIMEOUT (R97). -/
  | outputOverloadTimeout (n : Nat)
  /-- SWITCH_OVERCURRENT (R99). -/
  | switchOvercurrent (n : Nat)
  /-- SWITCH_RETRY (R99). -/
  | switchRetry (n : Nat)
  /-- SWITCH_RETRY_SUCCESS (R99). -/
  | switchRetrySuccess (n : Nat)
  /-- FAULT_RESET (R99). -/
  | faultReset (m : Machine.KdpReq)
  /-- DRIVER_OVER_TEMPERATURE (R99). -/
  | driverOverTemperature (n : Nat)
  /-- DRIVER_RESTART (R99). -/
  | driverRestart (n : Nat) (cooled : Nat)
  /-- ACTUATOR_RUN_END (R100). -/
  | actuatorRunEnd (n : Nat)
  /-- PORT_FAULT_CLEAR (R102). -/
  | portFaultClear (n : Nat) (t : Nat)
  /-- TRIP_RELEASE (R107). -/
  | tripRelease (m : Machine.KdpReq)
  /-- CONVERTER_TIMER_TRIGGER (R121). -/
  | converterTimerTrigger (set : Bool) (i : Nat)
  /-- PWM_EVENT_TRIGGER (R122). -/
  | pwmEventTrigger (n : Nat) (ev : Nat) (t : Nat)
  /-- SOFTWARE_TRIGGER (R120). -/
  | softwareTrigger (m : Machine.KdpReq)
  /-- TRIGGER_DELAY_END (R124). -/
  | triggerDelayEnd (k : Nat)
  /-- SLOT_END (R138). -/
  | slotEnd (k : Nat) (vin : Int) (vref : Nat)
  /-- CONVERTER_RUN (R126). -/
  | converterRun (m : Machine.KdpReq)
  /-- INJECT_CHANNEL (R130). -/
  | injectChannel (m : Machine.KdpReq)
  /-- RAW_MODE (R140). -/
  | rawMode (m : Machine.KdpReq)
  /-- METROLOGY_TAKES_RESULT (R139). -/
  | metrologyTakesResult (k : Nat) (compliance : Bool)
  /-- REFERENCE_OUT_OF_TOLERANCE (R136). -/
  | referenceOutOfTolerance (k : Nat) (m : Machine.MonitorIn)
  /-- SETTLING_COMPLETE (R137). -/
  | settlingComplete (k : Nat)
  /-- LANE_MEASUREMENT_START (R152). -/
  | laneMeasurementStart (k : Nat)
  /-- LANE_SHOT (R154). -/
  | laneShot (k : Nat) (i : Machine.ShotIn)
  /-- LANE_MEASUREMENT_END (R162). -/
  | laneMeasurementEnd (k : Nat)
  /-- LANE_RESULT_TAKEN (R156). -/
  | laneResultTaken (k : Nat)
  /-- LANE_RUN (R151). -/
  | laneRun (m : Machine.KdpReq)
  /-- ZERO_FLOW_CAPTURE (R161). -/
  | zeroFlowCapture (m : Machine.KdpReq)
  /-- CAL_N_CHANGE (R170). -/
  | calNChange (on : Bool)
  /-- SESSION_OPEN (R170). -/
  | sessionOpen (m : Machine.KdpReq)
  /-- SESSION_CLOSE (R182). -/
  | sessionClose (m : Machine.KdpReq)
  /-- SESSION_TIMEOUT (R172). -/
  | sessionTimeout
  /-- CAPTURE_START (R177). -/
  | captureStart (m : Machine.KdpReq)
  /-- METER_ENABLE (R191). -/
  | meterEnable (m : Machine.KdpReq)
  /-- COUNTER_ENABLE (R201). -/
  | counterEnable (m : Machine.KdpReq)
  /-- METERING_PERIOD_END (R196). -/
  | meteringPeriodEnd (m : Nat)
  /-- PULSE_COUNTER_SECOND (R201). -/
  | pulseCounterSecond (q : Nat)
  /-- INTERVAL_END (R206). -/
  | intervalEnd
  /-- LOOP_SAMPLE_INSTANT (R217). -/
  | loopSampleInstant (l : Nat)
  /-- LOOP_RELEASE (R218). -/
  | loopRelease (l : Nat)
  /-- LOOP_JOB_END (R229). -/
  | loopJobEnd (l : Nat)
  /-- LOOP_OUTPUT_INSTANT (R218). -/
  | loopOutputInstant (l : Nat)
  /-- LOOP_MODE_OFF (R235). -/
  | loopModeOff (m : Machine.KdpReq)
  /-- LOOP_MODE_MANUAL (R235). -/
  | loopModeManual (m : Machine.KdpReq)
  /-- LOOP_MODE_AUTO (R235). -/
  | loopModeAuto (m : Machine.KdpReq)
  /-- LOOP_MODE_HOLD (R235). -/
  | loopModeHold (m : Machine.KdpReq)
  /-- LOOP_MODE_SAFE (R235). -/
  | loopModeSafe (m : Machine.KdpReq)
  /-- GROUP_ENABLE (R250). -/
  | groupEnable (m : Machine.KdpReq)
  /-- GROUP_MEMBER_WRITE (R249). -/
  | groupMemberWrite (m : Machine.KdpReq)
  /-- REPETITIVE_ENABLE (R256). -/
  | repetitiveEnable (m : Machine.KdpReq)
  /-- CLEAR_MEMORY (R273). -/
  | clearMemory (m : Machine.KdpReq)
  /-- HIGH_WATER_FLUSH (R260). -/
  | highWaterFlush (l : Nat)
  /-- ZONE_EVALUATION (R262). -/
  | zoneEvaluation (z : Nat)
  /-- ZONE_ENABLE (R264). -/
  | zoneEnable (m : Machine.KdpReq)
  /-- PRESENCE_SAMPLE (R264). -/
  | presenceSample (z : Nat)
  /-- OCCUPIED_SET (R264). -/
  | occupiedSet (z : Nat)
  /-- OCCUPIED_CLEAR (R264). -/
  | occupiedClear (z : Nat)
  /-- ZONE_MODE_REQUEST (R263). -/
  | zoneModeRequest (m : Machine.KdpReq)
  /-- ZONE_BOOST_START (R263). -/
  | zoneBoostStart (m : Machine.KdpReq)
  /-- ZONE_REQUEST_END (R263). -/
  | zoneRequestEnd (m : Machine.KdpReq)
  /-- REQUEST_EXPIRY (R263). -/
  | requestExpiry (z : Nat)
  /-- BOOST_END (R263). -/
  | boostEnd (z : Nat)
  /-- ZONE_TRIP_RESET (R267). -/
  | zoneTripReset (m : Machine.KdpReq)
  /-- TRACE_ARM (R268). -/
  | traceArm (m : Machine.KdpReq)
  /-- TRACE_DISARM (R268). -/
  | traceDisarm (m : Machine.KdpReq)
  /-- TRACE_MANUAL_TRIGGER (R269). -/
  | traceManualTrigger (m : Machine.KdpReq)
  /-- ON_DEMAND_SEAL (R291). -/
  | onDemandSeal (m : Machine.KdpReq)
  /-- SIGNING_START (R295). -/
  | signingStart
  /-- SIGNING_COMPLETE (R295). -/
  | signingComplete (good : Bool)
  /-- SIGNING_RETRY (R295). -/
  | signingRetry
  /-- ATTESTATION_CHALLENGE (R306). -/
  | attestationChallenge (m : Machine.KdpReq)
  /-- ATTESTATION_STATEMENT_READ (R307). -/
  | attestationStatementRead (m : Machine.KdpReq)
  /-- STATEMENT_EXPIRY (R307). -/
  | statementExpiry (who : Machine.Requester)
  /-- TRNG_HEALTH_FAILURE (R303). -/
  | trngHealthFailure
  /-- TRNG_RETEST (R303). -/
  | trngRetest (pass : Bool)
  /-- TAMPER_ACTIVATION (R311). -/
  | tamperActivation (i : Nat) (cycles : Nat)
  /-- TAMPER_REARM (R311). -/
  | tamperRearm (i : Nat)
  /-- TAMPER_LOG (R312). -/
  | tamperLog (i : Nat)
  /-- UPDATE_REQUEST (R317). -/
  | updateRequest (m : Machine.KdpReq)
  /-- UPDATE_BLOCK (R318). -/
  | updateBlock (m : Machine.KdpReq)
  /-- UPDATE_CANCEL (R318). -/
  | updateCancel (m : Machine.KdpReq)
  /-- ACTIVATE (R319). -/
  | activate (m : Machine.KdpReq)
  /-- ACTIVATION_RESET (R319). -/
  | activationReset (busy : Bool)
  /-- CONFIRM (R322). -/
  | confirm (m : Machine.KdpReq)
  /-- CONFIRMATION_TIMEOUT (R322). -/
  | confirmationTimeout
  /-- ACKNOWLEDGE_FALLBACK (R321). -/
  | acknowledgeFallback (m : Machine.KdpReq)
  /-- TRIP_FRAME_RECEIVED (R352). -/
  | tripFrameReceived (f : Machine.RxFrame)
  /-- KDP_FORWARD (R358). -/
  | kdpForward (f : Machine.RxFrame)
  /-- RAW_FRAME_RECEIVED (R362). -/
  | rawFrameReceived (f : Machine.RxFrame)
  /-- REMOTE_FRAME_RECEIVED (R327). -/
  | remoteFrameReceived (p : Nat)
  /-- FRAME_COMPLETED (R335). -/
  | frameCompleted (p : Nat) (sof : Nat) (delay : Nat)
  /-- TRANSMISSION_ERROR (R338). -/
  | transmissionError (p : Nat) (e : Machine.TxError)
  /-- BUS_OFF_RECOVERY (R338). -/
  | busOffRecovery (p : Nat)
  /-- TRANSCEIVER_FAULT (R343). -/
  | transceiverFault (p : Nat) (bits : Nat)
  /-- ERROR_PASSIVE_LIMIT (R343). -/
  | errorPassiveLimit (p : Nat)
  /-- QUIET_PATH (R344). -/
  | quietPath (p : Nat)
  /-- LEASE_EXPIRY (R345). -/
  | leaseExpiry (i : Nat)
  /-- HEARTBEAT_DUE (R341). -/
  | heartbeatDue (i : Nat)
  /-- PAIR_JOIN (R347). -/
  | pairJoin (i : Nat)
  /-- TRIP_REFRESH (R350). -/
  | tripRefresh
  /-- CLEAR_REMOTE_SOURCES (R352). -/
  | clearRemoteSources (m : Machine.KdpReq)
  /-- MAILBOX_SEND (R363). -/
  | mailboxSend (m : Machine.KdpReq)
  /-- MAILBOX_CANCEL (R370). -/
  | mailboxCancel (m : Machine.KdpReq)
  /-- RTC_WINDOW (R377). -/
  | rtcWindow (periods : Nat)
  /-- HALT (R380). -/
  | halt (m : Machine.KdpReq)
  /-- HALT_RELEASE (R381). -/
  | haltRelease (m : Machine.KdpReq)
  /-- HALT_TIMEOUT (R381). -/
  | haltTimeout
  /-- TIME_REFERENCE_SEND (R387). -/
  | timeReferenceSend (i : Nat)
  /-- TIME_FOLLOW_UP_SEND (R386). -/
  | timeFollowUpSend (i : Nat)
  /-- TIME_REFERENCE_RECEIVED (R388). -/
  | timeReferenceReceived (f : Machine.RxFrame)
  /-- TIME_FOLLOW_UP_RECEIVED (R389). -/
  | timeFollowUpReceived (f : Machine.RxFrame)
  /-- HOLDOVER (R390). -/
  | holdover
  /-- MASTER_RESUME (R387). -/
  | masterResume (i : Nat)
  /-- SCHEDULE_MINUTE (R395). -/
  | scheduleMinute
  /-- DAYLIGHT_SAVING_CHANGE (R392). -/
  | daylightSavingChange
  /-- USER_ALARM (R385). -/
  | userAlarm (a : Nat)
  /-- TEST_WRITE (R422). -/
  | testWrite (m : Machine.KdpReq)
  /-- PAGE_INSPECT (R423). -/
  | pageInspect (m : Machine.KdpReq)
  /-- DISPLAY_ENABLE (R429). -/
  | displayEnable (m : Machine.KdpReq)
  /-- DISPLAY_DISABLE (R429). -/
  | displayDisable (m : Machine.KdpReq)
  /-- WINDOW_UPDATE (R433). -/
  | windowUpdate (m : Machine.KdpReq)
  /-- DISPLAY_FRAME_BOUNDARY (R434). -/
  | displayFrameBoundary (committed : Bool)
  /-- IMAGE_CHECK (R431). -/
  | imageCheck (corrupt : Bool)
  /-- METROLOGY_PAGE_CHANGE (R436). -/
  | metrologyPageChange
  /-- RAIL_FAULT (R439). -/
  | railFault
  /-- RAIL_RECOVERY (R439). -/
  | railRecovery
  /-- INDICATOR_STEP (R440). -/
  | indicatorStep (i : Nat)
  /-- INDICATOR_FAULT (R442). -/
  | indicatorFault (i : Nat) (kind : Nat)
  /-- HEALTH_HOUR (R450). -/
  | healthHour
  /-- PATH_LOSS_TIMEOUT (R450). -/
  | pathLossTimeout (i : Nat)
  /-- PATH_LOSS_CLEAR (R452). -/
  | pathLossClear (i : Nat)
  /-- HISTOGRAM_SAMPLE (R447). -/
  | histogramSample
  /-- LIFETIME_FLUSH (R448). -/
  | lifetimeFlush (differs : Bool)
  /-- DIE_TEMPERATURE_INJECT (R445). -/
  | dieTemperatureInject
  /-- ACKNOWLEDGE_DEADLINE_MISS (R454). -/
  | acknowledgeDeadlineMiss (m : Machine.KdpReq)
  /-- REFUSED_HAMPER_WRITE_READ (R454). -/
  | refusedHamperWriteRead (m : Machine.KdpReq)
  /-- POWER_FAIL_WARNING (R461). -/
  | powerFailWarning (t : Nat) (busy : Bool)
  /-- BROWN_OUT_END (R463). -/
  | brownOutEnd (t : Nat)
  /-- POWER_DOWN_RESET (R463). -/
  | powerDownReset (retained : Bool)
  /-- WARNING_TIMEOUT (R463). -/
  | warningTimeout (retained : Bool)
  /-- STATE_REQUEST (R465). -/
  | stateRequest (m : Machine.KdpReq)
  /-- SUPPLY_WARNING (R478). -/
  | supplyWarning (m : Machine.SupplyIn)
  /-- OVER_VOLTAGE (R458). -/
  | overVoltage (m : Machine.SupplyIn)
  /-- PORT_RAIL_LIMIT (R460). -/
  | portRailLimit (m : Machine.SupplyIn)
  /-- DIE_OVER_TEMPERATURE (R475). -/
  | dieOverTemperature (m : Machine.SupplyIn)
  /-- THERMAL_SHUTDOWN (R475). -/
  | thermalShutdown (m : Machine.SupplyIn) (retained : Bool)
  /-- THERMOS_SWITCH_TO_BACKUP (R467). -/
  | thermosSwitchToBackup (cycles : Nat)
  /-- THERMOS_SWITCH_TO_MAIN (R467). -/
  | thermosSwitchToMain (cycles : Nat)
  /-- BACKUP_MEASUREMENT (R468). -/
  | backupMeasurement (mv : Nat)
  /-- OSCILLATOR_STOPPED (R470). -/
  | oscillatorStopped
  /-- START_UP (R481). -/
  | startUp (cycles : Nat) (checkOk : Bool) (keyOk : Bool)
  /-- METROLOGY_VALID (R488). -/
  | metrologyValid
  /-- METROLOGY_VALID_TIMEOUT (R488). -/
  | metrologyValidTimeout (lead : Nat)
  /-- EXTERNAL_RESET (R484). -/
  | externalReset (busy : Bool)
  /-- WATCHDOG_EXPIRY (R490). -/
  | watchdogExpiry (busy : Bool)
  /-- RESET_ENTRY_END (R484). -/
  | resetEntryEnd
  /-- HEARTBEAT_LOSES_ARBITRATION (R341). -/
  | heartbeatLosesArbitration (i : Nat)
  /-- RECEIVE_ERROR (R338). -/
  | receiveError (p : Nat) (heavy : Bool)
  /-- TRANSCEIVER_FAULT_CLEARED (R343). -/
  | transceiverFaultCleared (p : Nat)
  /-- CURRENT_LIMIT_ACTS (R97). -/
  | currentLimitActs (n : Nat) (on : Bool)
  /-- THERMAL_RESTART (R475). -/
  | thermalRestart (temp : Int) (cycles : Nat) (checkOk : Bool) (keyOk : Bool)
  deriving DecidableEq, Repr

end Sys2Proof
end

