-- ==== Sys2Proof/Config.lean ====
section
/-! DEFINITION. What an implementation fixes and what the spec leaves open: opaque constants without a body (free values).
No proof can see a value of one, so a statement about one holds for every value. -/

namespace Sys2Proof

/-! ## Fresh free values (log 2) -/

/-- The k-th fresh free value: State counts how many have been used. -/
opaque Config.freeValue : Nat → BitVec 64
/-- The bits of the k-th NaN put on the wire: R39 and R232 say NaN and give no pattern (log 5). -/
opaque Config.nanBits : Nat → BitVec 32

/-! ## Values set at manufacture (log 7) -/

/-- 1000.05, the serial number. -/
opaque Config.serial : BitVec 128
/-- 1000.06, the hardware issue: [15:8] logic die, [7:0] package. -/
opaque Config.hardwareIssue : BitVec 16
/-- The device private key of R300: SK.seed, SK.prf and PK.seed, 48 bytes. -/
opaque Config.deviceSecret : Nat → Byte
/-- The key pair of Exlorex behind 2C00.03, in the same form. -/
opaque Config.makerSecret : Nat → Byte
/-- The key pair of Exlorex behind 2C00.04, in the same form. -/
opaque Config.firmwareSecret : Nat → Byte
/-- Instant of certification (R304). -/
opaque Config.certIssued : BitVec 64
/-- Random bytes of the certificate's signature. -/
opaque Config.certRandom : BitVec 128
/-- The image put in at manufacture (R314, log 12): payload length less 1, payload, and what its header leaves to the maker. -/
opaque Config.factorySize : BitVec 21
/-- Byte i of its payload. -/
opaque Config.factoryByte : Nat → Byte
/-- Its firmware version. -/
opaque Config.factoryVersion : BitVec 32
/-- Its security version. -/
opaque Config.factorySecurity : BitVec 8
/-- The minimum logic die issue it asks for. -/
opaque Config.factoryIssue : BitVec 8
/-- Its dictionary issue. -/
opaque Config.factoryDictionary : BitVec 16
/-- Random bytes of its signature. -/
opaque Config.factoryRandom : BitVec 128
/-- Device time of the audit log's origin entry, and whether time was untrusted then (R308, log 95). -/
opaque Config.originTime : BitVec 64
/-- Time was untrusted at that instant. -/
opaque Config.originUntrusted : Bool
/-- 2F03.01 to .10, the predicted speed index per voltage and temperature (R446). -/
opaque Config.predictedIndex : Nat → BitVec 32
/-- 2F28+k.01, the zero baseline of converter k. -/
opaque Config.zeroBaseline : Nat → BitVec 32
/-- 2F28+k.02, the reference baseline of converter k. -/
opaque Config.referenceBaseline : Nat → BitVec 32

/-! ## Circuits whose figures the spec does not give (log 8) -/

/-- Value of a port quantity per volt at the converter input, by port mode: front-end gains the spec does not give (R84,
R116; volts in modes 1, 5 to 7, 11, 12 and 15, millivolts in mode 8, milliamperes in mode 13). -/
opaque Config.frontGain : Nat → BitVec 64
/-- Voltage on VREFk in volts, for the external reference of converter k (R135). -/
opaque Config.externalRef : Nat → BitVec 64
/-- The band-pass filter of a presence port (R94): new memory and output from memory, input in mV, band low and high. -/
opaque Config.bandMemory : BitVec 64 → BitVec 64 → BitVec 32 → BitVec 32 → BitVec 64
/-- Output of the band-pass filter in mV. -/
opaque Config.bandOutput : BitVec 64 → BitVec 64 → BitVec 32 → BitVec 32 → BitVec 64

/-- What one load-capacitor step is worth beyond 0.6 ppm, in thousandths of a ppm modulo 601: the spec gives 0.6 to 1.2 ppm (R505,
log 21). -/
opaque Config.trimStep : Nat
/-- A higher trim makes the RTC slower (R375, log 21). -/
opaque Config.trimSlows : Bool

/-- The check word of the Thermos domain over the bytes of its configuration and scratch cells: its code is not given (R467, log 106). -/
opaque Config.checkWord : List Byte → BitVec 16

/-- SHA-256 of the header of the seal before this one where its slot is invalid and so counts as empty (R284, R296; log 2), byte by
byte, by the missing sequence. -/
opaque Config.lostLink : Nat → Nat → Byte

/-- The hash of a bound record that the ring has replaced, with the record after it, before its seal was signed (R287; log 2), byte by byte,
by its sequence. -/
opaque Config.lostHead : Nat → Nat → Byte

/-! ## The directory of the running image (log 10) -/

/-- Where the record with the given number lies in its area, the same place for both of its slots: the image fixes the directory (R409, log
10). -/
opaque Config.recordPage : Nat → Nat
/-- Where the limbs of the striped counters begin in the metrology area (R416, log 10). -/
opaque Config.limbBase : Nat
/-- Page within the last 16 KiB of a firmware slot that holds copy 0 or 1 of the slot's state (R314, log 10). -/
opaque Config.slotStatePage : Nat → BitVec 7
/-- The lowest directory ID in use (R409, R410; log 10). -/
opaque Config.idBase : Nat
/-- Place of cell j of loop l in the learning memory: the layout of the pool is not given (R256, log 102). -/
opaque Config.cellAddr : Nat → Nat → Nat
/-- Place of the row of a trace set for the sample at a tick in the trace buffers: their layout is not given (R270, log 23). -/
opaque Config.rowAddr : Nat → Nat → Nat
/-- A byte of a Hamper page whose layout the spec does not give: the learning memory, the trace buffers, spare pages that hold nothing
(log 23), and of a copy whose write was cut short; by the number of the write that left it and a byte address. -/
opaque Config.hiddenByte : Nat → Nat → Byte
/-- Level of a pixel of the metrology window: the built-in font is not given (R436, log 24); by page content, window width,
height and pixel number. -/
opaque Config.pageLevel : List Nat → Nat → Nat → Nat → BitVec 2
/-- Snapshot group number that describe reports for a group's first member (R60). -/
opaque Config.groupNumber : Nat → BitVec 16

/-- `n` bytes of a byte function. -/
def bytesOf (f : Nat → Byte) (n : Nat) : Bytes := (List.range n).map f

end Sys2Proof
end

