-- ==== Sys2Proof/Machine/DictTypes.lean ====
section
/-! DEFINITION. The vocabulary of the entry tables: types (R38), access (R12), attributes (R13), ranges (R39, R40). -/

namespace Sys2Proof.Machine

/-- Entry types (R38); a record carries the size its owning chapter's layout gives (log 4). -/
inductive EType where
  | bool | u8 | u16 | u32 | u64 | i8 | i16 | i32 | i64 | f32 | u128 | time | octets | str
  | record (size : Nat)
  deriving DecidableEq, Repr

/-- The type code the describe operation reports (R38). -/
def EType.code : EType → Nat
  | .bool => 0x01 | .u8 => 0x02 | .u16 => 0x03 | .u32 => 0x04 | .u64 => 0x05
  | .i8 => 0x06 | .i16 => 0x07 | .i32 => 0x08 | .i64 => 0x09 | .f32 => 0x0A
  | .u128 => 0x0B | .time => 0x0C | .octets => 0x0D | .str => 0x0E | .record _ => 0x0F

/-- The size in bytes of a fixed-size type (R38); none for OCTETS and STRING. -/
def EType.size : EType → Option Nat
  | .bool | .u8 | .i8 => some 1
  | .u16 | .i16 => some 2
  | .u32 | .i32 | .f32 => some 4
  | .u64 | .i64 | .time => some 8
  | .u128 => some 16
  | .octets | .str => none
  | .record n => some n

/-- Access values (R12). -/
inductive Access where
  | ro | rw | wo | const
  deriving DecidableEq, Repr

/-- The access code the describe operation reports (R60). -/
def Access.code : Access → Nat
  | .ro => 0 | .rw => 1 | .wo => 2 | .const => 3

/-- The Range column of an entry (R39, R40). Bounds of binary32 entries are in thousandths (log 4). -/
inductive Range where
  /-- every value of the type -/
  | any
  /-- unsigned, lo to hi, a multiple of step -/
  | nat (lo hi step : Nat)
  /-- unsigned, one extra value or lo to hi -/
  | natOr (extra lo hi : Nat)
  /-- signed, lo to hi, a multiple of step -/
  | int (lo hi : Int) (step : Nat)
  /-- an enumeration lo to hi (abort 0x0303) -/
  | enum (lo hi : Nat)
  /-- a listed enumeration (abort 0x0303) -/
  | oneOf (vs : List Nat)
  /-- a bit field: the bits that exist -/
  | mask (m : Nat)
  /-- binary32, lo to hi thousandths -/
  | flo (lo hi : Int)
  /-- binary32, lo to hi thousandths in steps: the binary32 value nearest to a multiple of the step (log 26) -/
  | floStep (lo hi : Int) (step : Nat)
  /-- binary32, zero or lo to hi thousandths -/
  | flo0 (lo hi : Int)
  /-- binary32, not negative -/
  | floMin
  /-- byte length of OCTETS and STRING -/
  | len (lo hi : Nat)
  deriving DecidableEq, Repr

/-- One row of an entry table: subindices `lo` to `hi`, with attribute bits as describe reports them
(bit 0 P, 1 A, 2 G, 3 M, 4 S, 5 X; R60) and the default's raw little-endian number. -/
structure Row where
  lo : Nat
  hi : Nat
  ty : EType
  acc : Access
  attrs : Nat
  range : Range
  dflt : Nat
  deriving DecidableEq, Repr

/-- One object: its first index, the number of instances at successive indices, its rows. -/
structure Obj where
  base : Nat
  count : Nat
  rows : List Row
  deriving DecidableEq, Repr

/-- Attribute P: persistent (R13). -/
def Row.isP (r : Row) : Bool := r.attrs.testBit 0
/-- Attribute A: audited (R13). -/
def Row.isA (r : Row) : Bool := r.attrs.testBit 1
/-- Attribute G: state-guarded (R13). -/
def Row.isG (r : Row) : Bool := r.attrs.testBit 2
/-- Attribute M: metrology-locked (R13). -/
def Row.isM (r : Row) : Bool := r.attrs.testBit 3
/-- Attribute S: snapshot group member (R13). -/
def Row.isS (r : Row) : Bool := r.attrs.testBit 4
/-- Attribute X: expert level (R13). -/
def Row.isX (r : Row) : Bool := r.attrs.testBit 5

/-- The longest value of an entry, in bytes (R40; reported by describe). -/
def Row.maxLen (r : Row) : Nat :=
  match r.ty.size, r.range with
  | some n, _ => n
  | none, .len _ hi => hi
  | none, _ => 0

/-- The shortest value of an entry, in bytes (R40). -/
def Row.minLen (r : Row) : Nat :=
  match r.ty.size, r.range with
  | some n, _ => n
  | none, .len lo _ => lo
  | none, _ => 0

end Sys2Proof.Machine
end

