-- ==== Sys2Proof/Machine/DictA.lean ====
section
/-! DEFINITION. The entry tables of the object dictionary (R37, R38, R81), one list of rows for each object, as the owning chapters give them: pubMap, subMap, ident, kdp, port, portX, conv, convX, sync, lane, laneX, cal, capture, convCal, laneCal. -/

namespace Sys2Proof.Machine

/-- Entry table of pubMap: index 1200, 64 instances. -/
def dPubMap : Obj := ⟨0x1200, 64, [
  ⟨0x00, 0x00, .u8, .const, 0, .any, 0x20⟩, -- Highest subindex
  ⟨0x01, 0x01, .bool, .rw, 3, .any, 0⟩, -- Enable
  ⟨0x02, 0x02, .u8, .rw, 7, (.mask 0x7), 0x01⟩, -- Trigger mask
  ⟨0x03, 0x03, .u32, .rw, 3, (.nat 10 3600000 1), 1000⟩, -- Period
  ⟨0x04, 0x04, .u16, .rw, 3, (.nat 0 65535 1), 0⟩, -- Inhibit time
  ⟨0x05, 0x05, .u8, .rw, 7, (.nat 1 16 1), 1⟩, -- Change item
  ⟨0x06, 0x06, .f32, .rw, 3, .floMin, 0x3f800000⟩, -- Change threshold
  ⟨0x07, 0x07, .u16, .rw, 3, .any, 0x0000⟩, -- Event subsystems
  ⟨0x08, 0x08, .u8, .rw, 7, (.oneOf [2, 3, 5]), 5⟩, -- Priority class
  ⟨0x09, 0x09, .u8, .ro, 1, .any, 0⟩, -- Content version
  ⟨0x0A, 0x0A, .u8, .rw, 7, (.nat 0 16 1), 0⟩, -- Number of items
  ⟨0x0B, 0x0B, .u32, .ro, 0, .any, 0⟩, -- Transmission count
  ⟨0x10, 0x1F, .u32, .rw, 7, .any, 0⟩, -- Item 1..16
  ⟨0x20, 0x20, .u32, .ro, 0, .any, 0⟩]⟩ -- Deferred count

/-- Entry table of subMap: index 1240, 64 instances. -/
def dSubMap : Obj := ⟨0x1240, 64, [
  ⟨0x00, 0x00, .u8, .const, 0, .any, 0x1F⟩, -- Highest subindex
  ⟨0x01, 0x01, .bool, .rw, 3, .any, 0⟩, -- Enable
  ⟨0x02, 0x02, .u16, .rw, 7, (.natOr 65535 0 65534), 0xFFFF⟩, -- Source segment
  ⟨0x03, 0x03, .u8, .rw, 7, (.nat 1 120 1), 1⟩, -- Source node
  ⟨0x04, 0x04, .u8, .rw, 7, (.nat 0 63 1), 0⟩, -- Source map
  ⟨0x05, 0x05, .u8, .rw, 7, (.nat 0 255 1), 0⟩, -- Expected content version
  ⟨0x06, 0x06, .u32, .rw, 3, (.natOr 0 10 3600000), 0⟩, -- Reception timeout
  ⟨0x07, 0x07, .u8, .rw, 7, (.nat 0 16 1), 0⟩, -- Number of items
  ⟨0x08, 0x08, .u8, .ro, 0, .any, 0⟩, -- State
  ⟨0x09, 0x09, .u32, .ro, 0, .any, 0⟩, -- Reception count
  ⟨0x0A, 0x0A, .u32, .ro, 0, .any, 0⟩, -- Rejected items
  ⟨0x10, 0x1F, .u32, .rw, 7, .any, 0⟩]⟩ -- Item 1..16

/-- Entry table of ident: index 1000, 1 instance. -/
def dIdent : Obj := ⟨0x1000, 1, [
  ⟨0x00, 0x00, .u8, .const, 0, .any, 0x0A⟩, -- Highest subindex
  ⟨0x01, 0x01, .str, .const, 0, (.len 0 16), 0⟩, -- Vendor
  ⟨0x02, 0x02, .str, .const, 0, (.len 0 16), 0⟩, -- Family
  ⟨0x03, 0x03, .str, .const, 0, (.len 0 16), 0⟩, -- Part
  ⟨0x04, 0x04, .str, .const, 0, (.len 0 16), 0⟩, -- Ordering code
  ⟨0x05, 0x05, .u128, .const, 0, .any, 0⟩, -- Serial number
  ⟨0x06, 0x06, .u16, .const, 0, .any, 0⟩, -- Hardware issue
  ⟨0x07, 0x07, .u32, .ro, 0, .any, 0⟩, -- Firmware version
  ⟨0x08, 0x08, .octets, .ro, 0, (.len 0 32), 0⟩, -- Firmware digest
  ⟨0x09, 0x09, .u8, .ro, 0, .any, 0⟩, -- Running slot
  ⟨0x0A, 0x0A, .u16, .ro, 0, .any, 0⟩]⟩ -- Dictionary issue

/-- Entry table of kdp: index 1010, 1 instance. -/
def dKdp : Obj := ⟨0x1010, 1, [
  ⟨0x00, 0x00, .u8, .const, 0, .any, 0x06⟩, -- Highest subindex
  ⟨0x01, 0x01, .u16, .rw, 3, (.nat 50 10000 1), 500⟩, -- Response timeout
  ⟨0x02, 0x02, .u8, .rw, 35, (.nat 1 16 1), 16⟩, -- Window granted
  ⟨0x03, 0x03, .u8, .ro, 0, .any, 0⟩, -- Open transfers
  ⟨0x04, 0x04, .u8, .ro, 0, .any, 0⟩, -- Live snapshots
  ⟨0x05, 0x05, .u32, .ro, 0, .any, 0⟩, -- Snapshot evictions
  ⟨0x06, 0x06, .u8, .rw, 3, (.mask 0x1), 0x00⟩]⟩ -- Service-port options

/-- Entry table of port: index 2000, 64 instances. -/
def dPort : Obj := ⟨0x2000, 64, [
  ⟨0x00, 0x00, .u8, .const, 0, .any, 0x14⟩, -- Highest subindex
  ⟨0x01, 0x01, .u8, .rw, 7, (.enum 0 15), 0⟩, -- Mode
  ⟨0x02, 0x02, .f32, .ro, 0, .any, 0x7fc00000⟩, -- Process value
  ⟨0x03, 0x03, .u16, .ro, 0, .any, 0x0000⟩, -- Status
  ⟨0x04, 0x04, .f32, .rw, 4, .any, 0x0⟩, -- Output value
  ⟨0x05, 0x05, .f32, .rw, 3, .any, 0x0⟩, -- Safe value
  ⟨0x06, 0x06, .u8, .rw, 7, (.enum 0 5), 2⟩, -- Sensor type
  ⟨0x07, 0x07, .u16, .rw, 7, (.nat 10 1000 1), 100⟩, -- Excitation current
  ⟨0x08, 0x08, .u8, .rw, 7, (.enum 0 1), 1⟩, -- Input variant
  ⟨0x09, 0x09, .u32, .rw, 3, (.nat 1 1000000 1), 10000⟩, -- Filter time
  ⟨0x0A, 0x0A, .bool, .ro, 0, .any, 0⟩, -- Digital state
  ⟨0x0B, 0x0B, .u32, .ro, 0, .any, 0⟩, -- Edge count
  ⟨0x0C, 0x0C, .f32, .ro, 0, .any, 0x7fc00000⟩, -- Secondary value
  ⟨0x0D, 0x0D, .u8, .rw, 3, (.enum 0 2), 1⟩, -- Slew rate
  ⟨0x0E, 0x0E, .f32, .rw, 3, (.flo (10000) 25000000), 0x447a0000⟩, -- PWM frequency
  ⟨0x0F, 0x0F, .u16, .ro, 0, .any, 0x0000⟩, -- Binding
  ⟨0x10, 0x10, .u16, .ro, 0, .any, 0x1000⟩, -- Fault code
  ⟨0x11, 0x11, .bool, .ro, 0, .any, 0⟩, -- Trip active
  ⟨0x12, 0x12, .bool, .wo, 6, (.nat 1 1 1), 0⟩, -- Trip release
  ⟨0x13, 0x13, .bool, .wo, 0, (.nat 1 1 1), 0⟩, -- Fault reset
  ⟨0x14, 0x14, .str, .rw, 3, (.len 0 16), 0⟩]⟩ -- Name

/-- Entry table of portX: index 2040, 64 instances. -/
def dPortX : Obj := ⟨0x2040, 64, [
  ⟨0x00, 0x00, .u8, .const, 0, .any, 0x20⟩, -- Highest subindex
  ⟨0x01, 0x01, .f32, .rw, 35, (.flo (200) 28000), 0x40e00000⟩, -- High threshold
  ⟨0x02, 0x02, .f32, .rw, 35, (.flo (0) 27800), 0x40800000⟩, -- Low threshold
  ⟨0x03, 0x03, .u8, .rw, 35, (.enum 0 2), 0⟩, -- Edge selection
  ⟨0x04, 0x04, .u8, .rw, 39, (.enum 0 1), 0⟩, -- Excitation mode
  ⟨0x05, 0x05, .u16, .rw, 39, (.nat 100 10000 1), 1000⟩, -- Excitation lead
  ⟨0x06, 0x06, .f32, .rw, 35, (.flo0 1000 10000000000), 0x0⟩, -- Open threshold
  ⟨0x07, 0x07, .f32, .rw, 35, (.flo0 100 100000000), 0x0⟩, -- Short threshold
  ⟨0x08, 0x08, .f32, .rw, 39, .any, 0x3a9374bc⟩, -- NTC coefficient A
  ⟨0x09, 0x09, .f32, .rw, 39, .any, 0x397619cd⟩, -- NTC coefficient B
  ⟨0x0A, 0x0A, .f32, .rw, 39, .any, 0x33b7f415⟩, -- NTC coefficient C
  ⟨0x0B, 0x0B, .u16, .rw, 35, (.nat 10 10000 1), 1000⟩, -- Gate time
  ⟨0x0C, 0x0C, .u8, .rw, 35, (.nat 1 8 1), 2⟩, -- Pulses per revolution
  ⟨0x0D, 0x0D, .u16, .rw, 35, (.nat 100 60000 1), 5000⟩, -- Stall timeout
  ⟨0x0E, 0x0E, .f32, .rw, 35, (.flo (100) 5000), 0x3e99999a⟩, -- Presence band low
  ⟨0x0F, 0x0F, .f32, .rw, 35, (.flo (500) 10000), 0x40400000⟩, -- Presence band high
  ⟨0x10, 0x10, .f32, .rw, 35, (.flo (50) 100000), 0x3f800000⟩, -- Presence threshold
  ⟨0x11, 0x11, .u8, .rw, 35, (.nat 1 8 1), 2⟩, -- Presence pulses
  ⟨0x12, 0x12, .u16, .rw, 35, (.nat 500 20000 1), 4000⟩, -- Presence window
  ⟨0x13, 0x13, .u8, .rw, 35, (.nat 0 10 1), 0⟩, -- PWM dither
  ⟨0x14, 0x14, .f32, .rw, 35, (.flo (1000) 10000), 0x41200000⟩, -- PWM high level
  ⟨0x15, 0x15, .u16, .rw, 35, (.nat 10 600 1), 120⟩, -- Actuator run time
  ⟨0x16, 0x16, .u16, .rw, 35, (.nat 0 10000 1), 200⟩, -- Actuator dead time
  ⟨0x17, 0x17, .u16, .rw, 35, (.nat 50 5000 1), 200⟩, -- Actuator minimum pulse
  ⟨0x18, 0x18, .u8, .rw, 39, (.natOr 255 0 63), 0xFF⟩, -- Trip source channel
  ⟨0x19, 0x19, .u8, .rw, 39, (.enum 0 1), 1⟩, -- Trip source level
  ⟨0x1A, 0x1A, .bool, .rw, 39, .any, 0⟩, -- Trip send on bus
  ⟨0x1B, 0x1B, .u8, .rw, 39, (.natOr 255 0 63), 0xFF⟩, -- Trip output channel
  ⟨0x1C, 0x1C, .f32, .rw, 39, .any, 0x0⟩, -- Trip value
  ⟨0x1D, 0x1D, .u8, .rw, 39, (.enum 0 1), 0⟩, -- Trip release mode
  ⟨0x1E, 0x1E, .f32, .ro, 0, .any, 0x7fc00000⟩, -- Terminal voltage
  ⟨0x1F, 0x1F, .f32, .ro, 0, .any, 0x7fc00000⟩, -- Terminal current
  ⟨0x20, 0x20, .u8, .ro, 0, .any, 0⟩]⟩ -- Retry count

/-- Entry table of conv: index 2100, 8 instances. -/
def dConv : Obj := ⟨0x2100, 8, [
  ⟨0x00, 0x00, .u8, .const, 0, .any, 0x0E⟩, -- Highest subindex
  ⟨0x01, 0x01, .bool, .rw, 7, .any, 0⟩, -- Run
  ⟨0x02, 0x02, .u8, .ro, 0, .any, 0⟩, -- State
  ⟨0x03, 0x03, .i32, .ro, 16, .any, 0⟩, -- Result
  ⟨0x04, 0x04, .u16, .ro, 16, .any, 0x0000⟩, -- Flags
  ⟨0x05, 0x05, .u32, .ro, 16, .any, 0⟩, -- Timestamp
  ⟨0x06, 0x06, .u8, .rw, 7, (.enum 0 8), 4⟩, -- Output rate
  ⟨0x07, 0x07, .u16, .rw, 7, (.mask 0xfff), 0x0000⟩, -- Scan mask
  ⟨0x08, 0x08, .u8, .rw, 7, (.enum 0 2), 0⟩, -- Reference
  ⟨0x09, 0x09, .bool, .ro, 0, .any, 0⟩, -- Settled
  ⟨0x0A, 0x0A, .u8, .rw, 7, (.natOr 255 0 3), 0xFF⟩, -- Sync set
  ⟨0x0B, 0x0B, .u32, .ro, 0, .any, 0⟩, -- Frames completed
  ⟨0x0C, 0x0C, .u32, .ro, 0, .any, 0⟩, -- Missed triggers
  ⟨0x0D, 0x0D, .u32, .ro, 0, .any, 0⟩, -- Overruns
  ⟨0x0E, 0x0E, .u32, .ro, 0, .any, 0⟩]⟩ -- Last frame duration

/-- Entry table of convX: index 2108, 8 instances. -/
def dConvX : Obj := ⟨0x2108, 8, [
  ⟨0x00, 0x00, .u8, .const, 0, .any, 0x0F⟩, -- Highest subindex
  ⟨0x01, 0x01, .u16, .rw, 39, (.nat 0 65535 1), 0⟩, -- Trigger delay
  ⟨0x02, 0x02, .u8, .rw, 39, (.enum 0 4), 3⟩, -- Trigger source
  ⟨0x03, 0x03, .u32, .rw, 39, (.nat 1 3600000 1), 1000⟩, -- Timer period
  ⟨0x04, 0x04, .u32, .rw, 39, (.nat 0 3599999 1), 0⟩, -- Timer phase
  ⟨0x05, 0x05, .u8, .rw, 39, (.nat 0 63 1), 0⟩, -- PWM port
  ⟨0x06, 0x06, .u8, .rw, 39, (.enum 0 1), 0⟩, -- PWM event
  ⟨0x07, 0x07, .u16, .rw, 39, (.nat 1 65535 1), 1⟩, -- PWM divider
  ⟨0x08, 0x08, .bool, .wo, 32, (.nat 1 1 1), 0⟩, -- Software trigger
  ⟨0x09, 0x09, .u8, .wo, 32, (.nat 0 11 1), 0⟩, -- Inject channel
  ⟨0x0A, 0x0A, .u8, .rw, 35, (.enum 0 8), 6⟩, -- Injected rate
  ⟨0x0B, 0x0B, .u8, .ro, 0, .any, 0⟩, -- Injected queue
  ⟨0x0C, 0x0C, .bool, .rw, 38, .any, 0⟩, -- Raw mode
  ⟨0x0D, 0x0D, .u8, .rw, 39, (.enum 0 2), 1⟩, -- Reference resistor
  ⟨0x0E, 0x0E, .i32, .ro, 0, .any, 2147483648⟩, -- Zero result
  ⟨0x0F, 0x0F, .i32, .ro, 0, .any, 2147483648⟩]⟩ -- Reference-check error

/-- Entry table of sync: index 2110, 4 instances. -/
def dSync : Obj := ⟨0x2110, 4, [
  ⟨0x00, 0x00, .u8, .const, 0, .any, 0x09⟩, -- Highest subindex
  ⟨0x01, 0x01, .u8, .rw, 39, (.enum 0 4), 0⟩, -- Trigger source
  ⟨0x02, 0x02, .u32, .rw, 39, (.nat 1 3600000 1), 1000⟩, -- Timer period
  ⟨0x03, 0x03, .u32, .rw, 39, (.nat 0 3599999 1), 0⟩, -- Timer phase
  ⟨0x04, 0x04, .u8, .rw, 39, (.nat 0 63 1), 0⟩, -- PWM port
  ⟨0x05, 0x05, .u8, .rw, 39, (.enum 0 1), 0⟩, -- PWM event
  ⟨0x06, 0x06, .u16, .rw, 39, (.nat 1 65535 1), 1⟩, -- PWM divider
  ⟨0x07, 0x07, .bool, .wo, 32, (.nat 1 1 1), 0⟩, -- Software trigger
  ⟨0x08, 0x08, .u8, .ro, 0, .any, 0x00⟩, -- Members
  ⟨0x09, 0x09, .u32, .ro, 0, .any, 0⟩]⟩ -- Triggers fired

/-- Entry table of lane: index 2120, 8 instances. -/
def dLane : Obj := ⟨0x2120, 8, [
  ⟨0x00, 0x00, .u8, .const, 0, .any, 0x17⟩, -- Highest subindex
  ⟨0x01, 0x01, .u8, .rw, 7, (.enum 0 2), 0⟩, -- Mode
  ⟨0x02, 0x02, .bool, .rw, 7, .any, 0⟩, -- Run
  ⟨0x03, 0x03, .u32, .rw, 7, (.nat 100 60000 1), 1000⟩, -- Measurement period
  ⟨0x04, 0x04, .f32, .ro, 16, .any, 0x7fc00000⟩, -- Volume flow
  ⟨0x05, 0x05, .f32, .ro, 16, .any, 0x7fc00000⟩, -- Path velocity
  ⟨0x06, 0x06, .f32, .ro, 16, .any, 0x7fc00000⟩, -- Sound speed
  ⟨0x07, 0x07, .u32, .ro, 16, .any, 0⟩, -- Upstream time
  ⟨0x08, 0x08, .u32, .ro, 16, .any, 0⟩, -- Downstream time
  ⟨0x09, 0x09, .i32, .ro, 16, .any, 0⟩, -- Transit difference
  ⟨0x0A, 0x0A, .u16, .ro, 16, .any, 0x0000⟩, -- Result flags
  ⟨0x0B, 0x0B, .u32, .ro, 16, .any, 0⟩, -- Timestamp
  ⟨0x0C, 0x0C, .u32, .ro, 0, .any, 0⟩, -- Skipped measurements
  ⟨0x0D, 0x0D, .u32, .ro, 0, .any, 0⟩, -- Measurements completed
  ⟨0x0E, 0x0E, .f32, .ro, 0, .any, 0x7fc00000⟩, -- Signal strength, upstream
  ⟨0x0F, 0x0F, .f32, .ro, 0, .any, 0x7fc00000⟩, -- Signal strength, downstream
  ⟨0x10, 0x17, .f32, .ro, 0, .any, 0x7fc00000⟩]⟩ -- Relative humidity, port 8k + 0 to 8k + 7

/-- Entry table of laneX: index 2128, 8 instances. -/
def dLaneX : Obj := ⟨0x2128, 8, [
  ⟨0x00, 0x00, .u8, .const, 0, .any, 0x2F⟩, -- Highest subindex
  ⟨0x01, 0x01, .u8, .rw, 39, (.nat 0 7 1), 0⟩, -- Upstream port
  ⟨0x02, 0x02, .u8, .rw, 39, (.nat 0 7 1), 1⟩, -- Downstream port
  ⟨0x03, 0x03, .u8, .rw, 39, .any, 0x00⟩, -- Capacitance mask
  ⟨0x04, 0x04, .u8, .rw, 39, (.nat 1 64 1), 64⟩, -- Shots
  ⟨0x05, 0x05, .u16, .rw, 39, (.nat 500 20000 1), 2000⟩, -- Shot interval
  ⟨0x06, 0x06, .u8, .rw, 35, (.nat 6 48 1), 24⟩, -- Burst divisor
  ⟨0x07, 0x07, .u8, .rw, 35, (.nat 1 32 1), 8⟩, -- Burst cycles
  ⟨0x08, 0x08, .u8, .rw, 35, (.enum 0 2), 2⟩, -- Burst amplitude
  ⟨0x09, 0x09, .u32, .rw, 35, (.nat 1000000 3900000000 1), 20000000⟩, -- Window start
  ⟨0x0A, 0x0A, .u32, .rw, 35, (.nat 1000000 4000000000 1), 200000000⟩, -- Window end
  ⟨0x0B, 0x0B, .f32, .rw, 35, (.flo (2000) 2000000), 0x41a00000⟩, -- Amplitude threshold
  ⟨0x0C, 0x0C, .u8, .rw, 35, (.nat 1 8 1), 4⟩, -- Stop hits
  ⟨0x0D, 0x0D, .u32, .rw, 35, (.nat 10 1000000 1), 2000⟩, -- Spread limit
  ⟨0x0E, 0x0E, .f32, .rw, 35, (.flo (300000) 3000000), 0x44a28000⟩, -- Sound speed minimum
  ⟨0x0F, 0x0F, .f32, .rw, 35, (.flo (300000) 3000000), 0x44d48000⟩, -- Sound speed maximum
  ⟨0x10, 0x10, .f32, .rw, 43, (.flo (5) 2000), 0x3dcccccd⟩, -- Path length
  ⟨0x11, 0x11, .f32, .rw, 43, (.flo (0) 80000), 0x0⟩, -- Path angle
  ⟨0x12, 0x12, .f32, .rw, 43, (.flo (5) 1000), 0x3ca3d70a⟩, -- Inner diameter
  ⟨0x13, 0x13, .f32, .rw, 43, (.flo (500) 1500), 0x3f800000⟩, -- Hydraulic factor
  ⟨0x14, 0x14, .u32, .rw, 43, (.nat 0 100000000 1), 0⟩, -- Dead time
  ⟨0x15, 0x15, .i32, .rw, 43, (.int (-1000000) 1000000 1), 0⟩, -- Zero-flow offset
  ⟨0x16, 0x16, .f32, .rw, 43, (.flo (0) 1000), 0x3ba3d70a⟩, -- Low-flow cut-off
  ⟨0x17, 0x17, .u8, .wo, 42, (.nat 1 64 1), 0⟩, -- Zero-flow capture
  ⟨0x18, 0x18, .u8, .rw, 35, (.enum 0 1), 1⟩, -- Charge resistor
  ⟨0x19, 0x19, .f32, .rw, 35, (.flo (0) 100000), 0x0⟩, -- Stray capacitance
  ⟨0x20, 0x27, .f32, .rw, 35, (.flo (0) 1000000), 0x43160000⟩, -- Capacitance at 0 %RH, port 8k + 0 to 8k + 7
  ⟨0x28, 0x2F, .f32, .rw, 35, (.flo (10) 10000), 0x3e99999a⟩]⟩ -- Sensitivity, port 8k + 0 to 8k + 7

/-- Entry table of cal: index 2180, 1 instance. -/
def dCal : Obj := ⟨0x2180, 1, [
  ⟨0x00, 0x00, .u8, .const, 0, .any, 0x0B⟩, -- Highest subindex
  ⟨0x01, 0x01, .bool, .rw, 6, .any, 0⟩, -- Session control
  ⟨0x02, 0x02, .u32, .ro, 0, .any, 0⟩, -- Time remaining
  ⟨0x03, 0x03, .bool, .ro, 0, .any, 0⟩, -- CAL_N asserted
  ⟨0x04, 0x04, .u32, .ro, 0, .any, 0⟩, -- Session owner
  ⟨0x05, 0x05, .time, .ro, 0, .any, 0⟩, -- Opened at
  ⟨0x06, 0x06, .u16, .ro, 0, .any, 0⟩, -- Changed coefficients
  ⟨0x07, 0x07, .u32, .ro, 1, .any, 0⟩, -- Sessions opened
  ⟨0x08, 0x08, .u32, .ro, 1, .any, 0⟩, -- Metrology epoch
  ⟨0x09, 0x09, .time, .ro, 1, .any, 0⟩, -- Last epoch change
  ⟨0x0A, 0x0A, .u8, .ro, 1, .any, 0⟩, -- Last close reason
  ⟨0x0B, 0x0B, .time, .ro, 1, .any, 0⟩]⟩ -- Last close time

/-- Entry table of capture: index 2181, 1 instance. -/
def dCapture : Obj := ⟨0x2181, 1, [
  ⟨0x00, 0x00, .u8, .const, 0, .any, 0x0B⟩, -- Highest subindex
  ⟨0x01, 0x01, .u8, .rw, 12, (.nat 0 63 1), 0⟩, -- Port
  ⟨0x02, 0x02, .u8, .rw, 12, (.enum 0 2), 0⟩, -- Point kind
  ⟨0x03, 0x03, .i64, .rw, 12, .any, 0⟩, -- Reference value
  ⟨0x04, 0x04, .u8, .rw, 12, (.nat 1 64 1), 32⟩, -- Samples
  ⟨0x05, 0x05, .u32, .rw, 12, (.nat 1 1000000 1), 2560⟩, -- Spread limit
  ⟨0x06, 0x06, .bool, .wo, 14, (.nat 1 1 1), 0⟩, -- Start
  ⟨0x07, 0x07, .u8, .ro, 0, .any, 0⟩, -- State
  ⟨0x08, 0x08, .u8, .ro, 16, .any, 0⟩, -- Samples kept
  ⟨0x09, 0x09, .i64, .ro, 16, .any, 0⟩, -- Mean
  ⟨0x0A, 0x0A, .u32, .ro, 16, .any, 0⟩, -- Standard deviation
  ⟨0x0B, 0x0B, .i64, .ro, 16, .any, 0⟩]⟩ -- Verify deviation

/-- Entry table of convCal: index 2190, 8 instances. -/
def dConvCal : Obj := ⟨0x2190, 8, [
  ⟨0x00, 0x00, .u8, .const, 0, .any, 0x3F⟩, -- Highest subindex
  ⟨0x01, 0x01, .u32, .ro, 1, .any, 0⟩, -- Calibration count
  ⟨0x02, 0x02, .time, .ro, 1, .any, 0⟩, -- Last calibration
  ⟨0x03, 0x03, .u32, .ro, 1, .any, 0⟩, -- Last calibration epoch
  ⟨0x10, 0x17, .i32, .rw, 43, (.int (-2000000) 2000000 1), 0⟩, -- Gain correction, channel 0..7
  ⟨0x18, 0x1F, .i32, .rw, 43, (.int (-1000000) 1000000 1), 0⟩, -- Offset, channel 0..7
  ⟨0x20, 0x27, .i64, .ro, 1, .any, 0⟩, -- Zero reference applied, channel 0..7
  ⟨0x28, 0x2F, .i64, .ro, 1, .any, 0⟩, -- Full-scale reference applied, channel 0..7
  ⟨0x30, 0x37, .i64, .ro, 1, .any, 0⟩, -- Zero mean measured, channel 0..7
  ⟨0x38, 0x3F, .i64, .ro, 1, .any, 0⟩]⟩ -- Full-scale mean measured, channel 0..7

/-- Entry table of laneCal: index 2198, 8 instances. -/
def dLaneCal : Obj := ⟨0x2198, 8, [
  ⟨0x00, 0x00, .u8, .const, 0, .any, 0x03⟩, -- Highest subindex
  ⟨0x01, 0x01, .u32, .ro, 1, .any, 0⟩, -- Calibration count
  ⟨0x02, 0x02, .time, .ro, 1, .any, 0⟩, -- Last calibration
  ⟨0x03, 0x03, .u32, .ro, 1, .any, 0⟩]⟩ -- Last calibration epoch

end Sys2Proof.Machine
end

