-- ==== Sys2Proof/Machine/DictB.lean ====
section
/-! DEFINITION. The entry tables of the object dictionary (R37, R38, R81), one list of rows for each object, as the owning chapters give them: meter, meterX, counter, tariff, billed, interval, fluid, loop, loopX, gainTable, group, rampRate, handOvers, rampCount, repetitive, trace, zone, zoneX. -/

namespace Sys2Proof.Machine

/-- Entry table of meter: index 2200, 16 instances. -/
def dMeter : Obj := ⟨0x2200, 16, [
  ⟨0x00, 0x00, .u8, .const, 0, .any, 0x37⟩, -- Highest subindex
  ⟨0x01, 0x01, .bool, .rw, 15, .any, 0⟩, -- Enable
  ⟨0x02, 0x02, .u8, .rw, 15, (.enum 0 2), 0⟩, -- Direction
  ⟨0x03, 0x03, .f32, .ro, 16, .any, 0x7fc00000⟩, -- Supply temperature
  ⟨0x04, 0x04, .f32, .ro, 16, .any, 0x7fc00000⟩, -- Return temperature
  ⟨0x05, 0x05, .f32, .ro, 16, .any, 0x7fc00000⟩, -- Temperature difference
  ⟨0x06, 0x06, .f32, .ro, 16, .any, 0x7fc00000⟩, -- Volume flow
  ⟨0x07, 0x07, .f32, .ro, 16, .any, 0x7fc00000⟩, -- Thermal power
  ⟨0x08, 0x08, .f32, .ro, 16, .any, 0x7fc00000⟩, -- Heat coefficient
  ⟨0x09, 0x09, .u16, .ro, 16, .any, 0x0000⟩, -- Meter status
  ⟨0x0A, 0x0A, .u8, .ro, 0, .any, 0⟩, -- Tariff in use
  ⟨0x0B, 0x0B, .u32, .ro, 1, .any, 0⟩, -- Error time
  ⟨0x0C, 0x0C, .u64, .ro, 1, .any, 0⟩, -- Volume total
  ⟨0x0D, 0x0D, .str, .rw, 3, (.len 0 16), 0⟩, -- Name
  ⟨0x10, 0x1F, .u32, .ro, 16, .any, 0⟩, -- Heating total, tariff t, quarters 0..3
  ⟨0x20, 0x2F, .u32, .ro, 16, .any, 0⟩, -- Cooling total, tariff t, quarters 0..3
  ⟨0x30, 0x33, .u128, .ro, 0, .any, 0⟩, -- Heating total, tariff 0..3
  ⟨0x34, 0x37, .u128, .ro, 0, .any, 0⟩]⟩ -- Cooling total, tariff 0..3

/-- Entry table of meterX: index 2210, 16 instances. -/
def dMeterX : Obj := ⟨0x2210, 16, [
  ⟨0x00, 0x00, .u8, .const, 0, .any, 0x0D⟩, -- Highest subindex
  ⟨0x01, 0x01, .u8, .rw, 47, (.natOr 255 0 63), 0xFF⟩, -- Supply port
  ⟨0x02, 0x02, .u8, .rw, 47, (.natOr 255 0 63), 0xFF⟩, -- Return port
  ⟨0x03, 0x03, .u8, .rw, 47, (.enum 0 1), 0⟩, -- Flow source kind
  ⟨0x04, 0x04, .u8, .rw, 47, (.nat 0 31 1), 0⟩, -- Flow source number
  ⟨0x05, 0x05, .u8, .rw, 47, (.enum 0 1), 1⟩, -- Installation point
  ⟨0x06, 0x06, .u8, .rw, 47, (.enum 0 4), 0⟩, -- Fluid
  ⟨0x07, 0x07, .f32, .rw, 47, (.flo (100) 4000), 0x3fcccccd⟩, -- Pressure
  ⟨0x08, 0x08, .u8, .rw, 47, (.oneOf [1, 2, 3, 4, 5, 6, 10, 12, 15, 20, 30, 60]), 10⟩, -- Metering period
  ⟨0x09, 0x09, .f32, .rw, 47, (.flo (0) 3000), 0x3d4ccccd⟩, -- ΔT threshold
  ⟨0x0A, 0x0A, .f32, .rw, 47, (.flo (1) 1000000), 0x42c80000⟩, -- Maximum flow
  ⟨0x0B, 0x0B, .u8, .rw, 47, (.enum 0 1), 0⟩, -- Reverse-flow handling
  ⟨0x0C, 0x0C, .u16, .rw, 47, (.nat 2 60 1), 10⟩, -- Stale limit
  ⟨0x0D, 0x0D, .u32, .ro, 0, .any, 0⟩]⟩ -- Displaced pairs

/-- Entry table of counter: index 2220, 32 instances. -/
def dCounter : Obj := ⟨0x2220, 32, [
  ⟨0x00, 0x00, .u8, .const, 0, .any, 0x0B⟩, -- Highest subindex
  ⟨0x01, 0x01, .bool, .rw, 15, .any, 0⟩, -- Enable
  ⟨0x02, 0x02, .u8, .rw, 47, (.natOr 255 0 63), 0xFF⟩, -- Source port
  ⟨0x03, 0x03, .u8, .rw, 47, (.enum 0 2), 2⟩, -- Unit
  ⟨0x04, 0x04, .f32, .rw, 47, (.flo (1) 1000000000), 0x3f800000⟩, -- Weight
  ⟨0x05, 0x05, .u64, .ro, 1, .any, 0⟩, -- Pulse total
  ⟨0x06, 0x06, .f32, .ro, 0, .any, 0x7fc00000⟩, -- Rate
  ⟨0x07, 0x07, .u32, .ro, 0, .any, 0⟩, -- Interval pulses
  ⟨0x08, 0x08, .u8, .ro, 0, .any, 0x00⟩, -- Status
  ⟨0x09, 0x09, .u8, .ro, 0, .any, 0xFF⟩, -- Bound meter
  ⟨0x0A, 0x0A, .str, .rw, 3, (.len 0 16), 0⟩, -- Name
  ⟨0x0B, 0x0B, .u64, .ro, 1, .any, 0⟩]⟩ -- Total at last billing

/-- Entry table of tariff: index 2240, 1 instance. -/
def dTariff : Obj := ⟨0x2240, 1, [
  ⟨0x00, 0x00, .u8, .const, 0, .any, 0x1B⟩, -- Highest subindex
  ⟨0x01, 0x01, .u8, .rw, 3, (.oneOf [1, 5, 15, 30, 60]), 15⟩, -- Interval length
  ⟨0x02, 0x02, .u8, .rw, 3, (.enum 0 1), 0⟩, -- Tariff source
  ⟨0x03, 0x03, .u8, .rw, 3, (.nat 0 3 1), 0⟩, -- Fixed tariff
  ⟨0x04, 0x04, .u8, .rw, 3, (.nat 0 63 1), 0⟩, -- Tariff program
  ⟨0x05, 0x05, .u8, .ro, 0, .any, 0⟩, -- Current tariff
  ⟨0x06, 0x06, .u8, .ro, 0, .any, 0⟩, -- Pending tariff
  ⟨0x07, 0x07, .u8, .rw, 3, (.enum 0 2), 0⟩, -- Billing mode
  ⟨0x08, 0x08, .u8, .rw, 3, (.nat 1 28 1), 1⟩, -- Billing day
  ⟨0x09, 0x09, .time, .ro, 0, .any, 0⟩, -- Next billing instant
  ⟨0x0A, 0x0A, .time, .ro, 1, .any, 0⟩, -- Last billing instant
  ⟨0x10, 0x1B, .u16, .rw, 3, (.natOr 0 101 1231), 0⟩]⟩ -- Billing date 1..12

/-- Entry table of billed: index 2242, 1 instance. -/
def dBilled : Obj := ⟨0x2242, 1, [
  ⟨0x00, 0x00, .u8, .const, 0, .any, 0x8F⟩, -- Highest subindex
  ⟨0x01, 0x01, .time, .ro, 17, .any, 0⟩, -- Billing instant
  ⟨0x02, 0x02, .u32, .ro, 17, .any, 0⟩, -- Billing count
  ⟨0x03, 0x03, .u64, .ro, 17, .any, 0⟩, -- Last record
  ⟨0x10, 0x8F, .u128, .ro, 17, .any, 0⟩]⟩ -- Total, meter m, direction d, tariff t

/-- Entry table of interval: index 2243, 1 instance. -/
def dInterval : Obj := ⟨0x2243, 1, [
  ⟨0x00, 0x00, .u8, .const, 0, .any, 0x04⟩, -- Highest subindex
  ⟨0x01, 0x01, .time, .ro, 0, .any, 0⟩, -- Interval start
  ⟨0x02, 0x02, .u64, .ro, 1, .any, 0⟩, -- Next sequence
  ⟨0x03, 0x03, .u16, .ro, 0, .any, 0x0000⟩, -- Flags so far
  ⟨0x04, 0x04, .u32, .ro, 0, .any, 0⟩]⟩ -- Records since reset

/-- Entry table of fluid: index 224C, 4 instances. -/
def dFluid : Obj := ⟨0x224C, 4, [
  ⟨0x00, 0x00, .u8, .const, 0, .any, 0x6F⟩, -- Highest subindex
  ⟨0x01, 0x01, .u8, .rw, 47, (.nat 0 32 1), 0⟩, -- Points
  ⟨0x02, 0x02, .str, .rw, 47, (.len 0 16), 0⟩, -- Name
  ⟨0x03, 0x03, .bool, .ro, 0, .any, 0⟩, -- Valid
  ⟨0x10, 0x2F, .f32, .rw, 47, (.flo (-40000) 200000), 0x0⟩, -- Temperature, point 0..31
  ⟨0x30, 0x4F, .f32, .rw, 47, (.flo (0) 1500000), 0x0⟩, -- Density, point 0..31
  ⟨0x50, 0x6F, .f32, .rw, 47, (.flo (-200000) 1000000), 0x0⟩]⟩ -- Specific enthalpy, point 0..31

/-- Entry table of loop: index 2300, 96 instances. -/
def dLoop : Obj := ⟨0x2300, 96, [
  ⟨0x00, 0x00, .u8, .const, 0, .any, 0x13⟩, -- Highest subindex
  ⟨0x01, 0x01, .u8, .rw, 7, (.enum 0 4), 0⟩, -- Mode
  ⟨0x02, 0x02, .f32, .rw, 1, .any, 0x41a80000⟩, -- Setpoint
  ⟨0x03, 0x03, .f32, .ro, 16, .any, 0x7fc00000⟩, -- Effective setpoint
  ⟨0x04, 0x04, .f32, .ro, 16, .any, 0x7fc00000⟩, -- Measurement
  ⟨0x05, 0x05, .f32, .ro, 16, .any, 0x7fc00000⟩, -- Computed output
  ⟨0x06, 0x06, .f32, .ro, 16, .any, 0x7fc00000⟩, -- Applied output
  ⟨0x07, 0x07, .u16, .ro, 16, .any, 0x0000⟩, -- Status
  ⟨0x08, 0x08, .f32, .rw, 1, .any, 0x0⟩, -- Manual output
  ⟨0x09, 0x09, .f32, .rw, 0, .any, 0x7fc00000⟩, -- Input register
  ⟨0x0A, 0x0A, .u8, .rw, 7, (.enum 0 2), 0⟩, -- Measurement source
  ⟨0x0B, 0x0B, .u8, .rw, 7, (.nat 0 63 1), 0⟩, -- Measurement number
  ⟨0x0C, 0x0C, .u8, .rw, 7, (.enum 0 4), 0⟩, -- Setpoint source
  ⟨0x0D, 0x0D, .u8, .rw, 7, (.nat 0 63 1), 0⟩, -- Setpoint source number
  ⟨0x0E, 0x0E, .u8, .rw, 7, (.natOr 255 0 63), 0xFF⟩, -- Output port
  ⟨0x0F, 0x0F, .u8, .rw, 7, (.enum 0 1), 0⟩, -- Action
  ⟨0x10, 0x10, .u8, .rw, 3, (.enum 0 3), 0⟩, -- Following-error action
  ⟨0x11, 0x11, .u32, .ro, 0, .any, 0⟩, -- Samples completed
  ⟨0x12, 0x12, .u32, .ro, 0, .any, 0⟩, -- Missed samples
  ⟨0x13, 0x13, .str, .rw, 3, (.len 0 16), 0⟩]⟩ -- Name

/-- Entry table of loopX: index 2400, 96 instances. -/
def dLoopX : Obj := ⟨0x2400, 96, [
  ⟨0x00, 0x00, .u8, .const, 0, .any, 0x23⟩, -- Highest subindex
  ⟨0x01, 0x01, .u32, .rw, 39, (.nat 1 3600000 1), 1000⟩, -- Sample period
  ⟨0x02, 0x02, .u32, .rw, 39, (.nat 0 3599999 1), 0⟩, -- Phase
  ⟨0x03, 0x03, .u32, .rw, 39, (.nat 0 3599999 1), 0⟩, -- Release delay
  ⟨0x04, 0x04, .u32, .rw, 39, (.nat 0 3600000 1), 0⟩, -- Output delay
  ⟨0x05, 0x05, .u8, .rw, 39, (.enum 0 1), 0⟩, -- Input age mode
  ⟨0x06, 0x06, .f32, .rw, 35, (.flo (0) 10000000), 0x3f800000⟩, -- Proportional gain
  ⟨0x07, 0x07, .f32, .rw, 35, (.flo (0) 1000000000), 0x42700000⟩, -- Integral time
  ⟨0x08, 0x08, .f32, .rw, 35, (.flo (0) 100000000), 0x0⟩, -- Derivative time
  ⟨0x09, 0x09, .f32, .rw, 35, (.flo (1000) 100000), 0x41200000⟩, -- Derivative filter
  ⟨0x0A, 0x0A, .f32, .rw, 35, (.flo (0) 1000), 0x3f800000⟩, -- Setpoint weight
  ⟨0x0B, 0x0B, .f32, .rw, 35, .any, 0x0⟩, -- Output bias
  ⟨0x0C, 0x0C, .f32, .rw, 35, .any, 0x0⟩, -- Output low limit
  ⟨0x0D, 0x0D, .f32, .rw, 35, .any, 0x42c80000⟩, -- Output high limit
  ⟨0x0E, 0x0E, .u8, .rw, 35, (.enum 0 1), 0⟩, -- Integrator limit source
  ⟨0x0F, 0x0F, .f32, .rw, 35, .any, 0x0⟩, -- Integrator low limit
  ⟨0x10, 0x10, .f32, .rw, 35, .any, 0x42c80000⟩, -- Integrator high limit
  ⟨0x11, 0x11, .u8, .rw, 39, (.enum 0 2), 0⟩, -- Gain-table mode
  ⟨0x12, 0x12, .u8, .rw, 35, (.enum 0 4), 0⟩, -- Scheduling variable
  ⟨0x13, 0x13, .u8, .rw, 39, (.natOr 255 0 63), 0xFF⟩, -- Auxiliary port
  ⟨0x14, 0x14, .f32, .rw, 35, .any, 0x3f800000⟩, -- Setpoint scale
  ⟨0x15, 0x15, .f32, .rw, 35, .any, 0x0⟩, -- Setpoint offset
  ⟨0x16, 0x16, .f32, .rw, 35, .any, 0xc9742400⟩, -- Setpoint low limit
  ⟨0x17, 0x17, .f32, .rw, 35, .any, 0x49742400⟩, -- Setpoint high limit
  ⟨0x18, 0x18, .f32, .rw, 35, (.flo (0) 100000000), 0x0⟩, -- Setpoint filter time
  ⟨0x19, 0x19, .f32, .rw, 35, (.flo (0) 1000000000), 0x0⟩, -- Setpoint rate limit
  ⟨0x1A, 0x1A, .u8, .rw, 35, (.enum 0 1), 0⟩, -- Frequency or duty
  ⟨0x1B, 0x1B, .f32, .rw, 35, (.flo (0) 1000000000), 0x0⟩, -- Following-error limit
  ⟨0x1C, 0x1C, .u32, .rw, 35, (.nat 1000 86400000 1), 600000⟩, -- Following-error timer
  ⟨0x1D, 0x1D, .f32, .rw, 35, .any, 0x0⟩, -- Safe output
  ⟨0x1E, 0x1E, .f32, .ro, 0, .any, 0x0⟩, -- Integral term
  ⟨0x1F, 0x1F, .f32, .ro, 0, .any, 0x0⟩, -- Derivative term
  ⟨0x20, 0x20, .f32, .ro, 0, .any, 0x3f800000⟩, -- Gain factor
  ⟨0x21, 0x21, .u8, .ro, 0, .any, 1⟩, -- Work units
  ⟨0x22, 0x22, .u8, .ro, 0, .any, 0⟩, -- Coincidence load
  ⟨0x23, 0x23, .u32, .ro, 0, .any, 0⟩]⟩ -- Last elapsed time

/-- Entry table of gainTable: index 2600, 96 instances. -/
def dGainTable : Obj := ⟨0x2600, 96, [
  ⟨0x00, 0x00, .u8, .const, 0, .any, 0x2F⟩, -- Highest subindex
  ⟨0x01, 0x01, .u8, .rw, 35, (.nat 0 16 1), 0⟩, -- Points
  ⟨0x02, 0x02, .bool, .ro, 0, .any, 0⟩, -- Valid
  ⟨0x10, 0x1F, .f32, .rw, 35, .any, 0x0⟩, -- x0..x15
  ⟨0x20, 0x2F, .f32, .rw, 35, .any, 0x0⟩]⟩ -- y0..y15

/-- Entry table of group: index 2700, 16 instances. -/
def dGroup : Obj := ⟨0x2700, 16, [
  ⟨0x00, 0x00, .u8, .const, 0, .any, 0x0E⟩, -- Highest subindex
  ⟨0x01, 0x01, .bool, .rw, 7, .any, 0⟩, -- Enable
  ⟨0x02, 0x02, .u8, .rw, 7, (.natOr 255 0 63), 0xFF⟩, -- Output port
  ⟨0x03, 0x08, .u8, .rw, 7, (.natOr 255 0 95), 0xFF⟩, -- Member 1..6
  ⟨0x09, 0x09, .f32, .rw, 35, (.flo (0) 100000000), 0x41200000⟩, -- Tracking time
  ⟨0x0A, 0x0A, .u8, .ro, 0, .any, 0xFF⟩, -- Winner
  ⟨0x0B, 0x0B, .f32, .ro, 0, .any, 0x7fc00000⟩, -- Applied output
  ⟨0x0C, 0x0C, .u32, .ro, 0, .any, 0⟩, -- Winner changes
  ⟨0x0D, 0x0D, .u8, .ro, 0, .any, 0x00⟩, -- Candidates
  ⟨0x0E, 0x0E, .str, .rw, 3, (.len 0 16), 0⟩]⟩ -- Name

/-- Entry table of rampRate: index 2710, 1 instance. -/
def dRampRate : Obj := ⟨0x2710, 1, [
  ⟨0x00, 0x00, .u8, .const, 0, .any, 0x60⟩, -- Highest subindex
  ⟨0x01, 0x60, .f32, .rw, 35, (.flo (0) 1000000000), 0x3f800000⟩]⟩ -- Transfer rate, L0..L95

/-- Entry table of handOvers: index 2711, 1 instance. -/
def dHandOvers : Obj := ⟨0x2711, 1, [
  ⟨0x00, 0x00, .u8, .const, 0, .any, 0x60⟩, -- Highest subindex
  ⟨0x01, 0x60, .u32, .ro, 0, .any, 0⟩]⟩ -- Hand-overs, L0..L95

/-- Entry table of rampCount: index 2712, 1 instance. -/
def dRampCount : Obj := ⟨0x2712, 1, [
  ⟨0x00, 0x00, .u8, .const, 0, .any, 0x60⟩, -- Highest subindex
  ⟨0x01, 0x60, .u32, .ro, 0, .any, 0⟩]⟩ -- Ramps started, L0..L95

/-- Entry table of repetitive: index 2500, 96 instances. -/
def dRepetitive : Obj := ⟨0x2500, 96, [
  ⟨0x00, 0x00, .u8, .const, 0, .any, 0x10⟩, -- Highest subindex
  ⟨0x01, 0x01, .bool, .rw, 3, .any, 0⟩, -- Enable
  ⟨0x02, 0x02, .u8, .rw, 7, (.enum 0 1), 0⟩, -- Calendar
  ⟨0x03, 0x03, .u32, .ro, 0, .any, 0⟩, -- Cells
  ⟨0x04, 0x04, .f32, .rw, 35, (.flo (0) 1000), 0x3f7ae148⟩, -- Forgetting factor
  ⟨0x05, 0x05, .f32, .rw, 35, (.flo (0) 10000), 0x3e99999a⟩, -- Learning gain
  ⟨0x06, 0x06, .u32, .rw, 39, (.nat 0 3145727 1), 0⟩, -- Lead
  ⟨0x07, 0x07, .f32, .rw, 35, (.flo (0) 1000000000), 0x41200000⟩, -- Contribution limit
  ⟨0x08, 0x08, .bool, .rw, 3, .any, 0⟩, -- Freeze
  ⟨0x09, 0x09, .bool, .wo, 6, (.nat 1 1 1), 0⟩, -- Clear memory
  ⟨0x0A, 0x0A, .u8, .ro, 0, .any, 0⟩, -- State
  ⟨0x0B, 0x0B, .u32, .ro, 0, .any, 0⟩, -- Current cell
  ⟨0x0C, 0x0C, .f32, .ro, 0, .any, 0x0⟩, -- Contribution
  ⟨0x0D, 0x0D, .time, .ro, 1, .any, 0⟩, -- High-water instant
  ⟨0x0E, 0x0E, .u64, .ro, 1, .any, 0⟩, -- Cells written
  ⟨0x0F, 0x0F, .u32, .rw, 0, (.nat 0 3145727 1), 0⟩, -- Window start
  ⟨0x10, 0x10, .octets, .ro, 0, (.len 0 65536), 0⟩]⟩ -- Memory window

/-- Entry table of trace: index 2780, 8 instances. -/
def dTrace : Obj := ⟨0x2780, 8, [
  ⟨0x00, 0x00, .u8, .const, 0, .any, 0x16⟩, -- Highest subindex
  ⟨0x01, 0x01, .bool, .rw, 6, .any, 0⟩, -- Arm
  ⟨0x02, 0x02, .u8, .rw, 7, (.nat 0 95 1), 0⟩, -- Loop
  ⟨0x03, 0x0A, .u8, .rw, 7, (.natOr 255 0 15), 0xFF⟩, -- Node 1..8
  ⟨0x0B, 0x0B, .u32, .rw, 7, (.nat 2 262136 1), 1000⟩, -- Depth
  ⟨0x0C, 0x0C, .u32, .rw, 7, (.nat 0 262135 1), 100⟩, -- Pre-trigger rows
  ⟨0x0D, 0x0D, .u16, .rw, 7, (.nat 1 1000 1), 1⟩, -- Decimation
  ⟨0x0E, 0x0E, .u8, .rw, 7, (.enum 0 4), 0⟩, -- Trigger kind
  ⟨0x0F, 0x0F, .u8, .rw, 7, (.nat 0 15 1), 0⟩, -- Trigger node
  ⟨0x10, 0x10, .f32, .rw, 7, .any, 0x0⟩, -- Trigger level
  ⟨0x11, 0x11, .u16, .rw, 7, .any, 0x0000⟩, -- Status mask
  ⟨0x12, 0x12, .bool, .wo, 0, (.nat 1 1 1), 0⟩, -- Manual trigger
  ⟨0x13, 0x13, .u8, .ro, 0, .any, 0⟩, -- State
  ⟨0x14, 0x14, .u32, .ro, 0, .any, 0⟩, -- Rows captured
  ⟨0x15, 0x15, .octets, .ro, 0, (.len 0 1048576), 0⟩, -- Data
  ⟨0x16, 0x16, .time, .ro, 0, .any, 0⟩]⟩ -- Trigger time

/-- Entry table of zone: index 2800, 32 instances. -/
def dZone : Obj := ⟨0x2800, 32, [
  ⟨0x00, 0x00, .u8, .const, 0, .any, 0x10⟩, -- Highest subindex
  ⟨0x01, 0x01, .bool, .rw, 7, .any, 0⟩, -- Enable
  ⟨0x02, 0x02, .u8, .rw, 7, (.oneOf [0, 1, 2, 3, 4, 5, 255]), 0xFF⟩, -- Mode request
  ⟨0x03, 0x03, .u32, .rw, 3, (.natOr 0 1 10080), 0⟩, -- Request duration
  ⟨0x04, 0x04, .u8, .ro, 0, .any, 0⟩, -- Effective mode
  ⟨0x05, 0x05, .u8, .ro, 0, .any, 0⟩, -- Mode reason
  ⟨0x06, 0x06, .bool, .ro, 0, .any, 0⟩, -- Occupied
  ⟨0x07, 0x07, .f32, .ro, 0, .any, 0x7fc00000⟩, -- Zone temperature
  ⟨0x08, 0x08, .f32, .ro, 0, .any, 0xf149f2ca⟩, -- Heating setpoint given
  ⟨0x09, 0x09, .f32, .ro, 0, .any, 0x7149f2ca⟩, -- Cooling setpoint given
  ⟨0x0A, 0x0A, .u16, .ro, 0, .any, 0x0000⟩, -- Status
  ⟨0x0B, 0x0B, .bool, .rw, 0, .any, 0⟩, -- Presence register
  ⟨0x0C, 0x0C, .bool, .wo, 6, (.nat 1 1 1), 0⟩, -- Trip reset
  ⟨0x0D, 0x0D, .time, .ro, 0, .any, 0⟩, -- Optimum start time
  ⟨0x0E, 0x0E, .time, .ro, 0, .any, 0⟩, -- Next Comfort start
  ⟨0x0F, 0x0F, .str, .rw, 3, (.len 0 16), 0⟩, -- Name
  ⟨0x10, 0x10, .time, .ro, 1, .any, 0⟩]⟩ -- Request expiry

/-- Entry table of zoneX: index 2820, 32 instances. -/
def dZoneX : Obj := ⟨0x2820, 32, [
  ⟨0x00, 0x00, .u8, .const, 0, .any, 0x1C⟩, -- Highest subindex
  ⟨0x01, 0x01, .u8, .rw, 35, (.natOr 255 0 63), 0xFF⟩, -- Schedule program
  ⟨0x02, 0x02, .u8, .rw, 35, (.enum 0 4), 2⟩, -- Default mode
  ⟨0x03, 0x03, .f32, .rw, 3, (.flo (-40000) 120000), 0x40e00000⟩, -- Heating setpoint, Protect to Boost
  ⟨0x04, 0x04, .f32, .rw, 3, (.flo (-40000) 120000), 0x41800000⟩, -- Heating setpoint, Protect to Boost
  ⟨0x05, 0x05, .f32, .rw, 3, (.flo (-40000) 120000), 0x41900000⟩, -- Heating setpoint, Protect to Boost
  ⟨0x06, 0x06, .f32, .rw, 3, (.flo (-40000) 120000), 0x41a80000⟩, -- Heating setpoint, Protect to Boost
  ⟨0x07, 0x07, .f32, .rw, 3, (.flo (-40000) 120000), 0x41b40000⟩, -- Heating setpoint, Protect to Boost
  ⟨0x08, 0x08, .f32, .rw, 3, (.flo (-40000) 120000), 0x420c0000⟩, -- Cooling setpoint, Protect to Boost
  ⟨0x09, 0x09, .f32, .rw, 3, (.flo (-40000) 120000), 0x41f00000⟩, -- Cooling setpoint, Protect to Boost
  ⟨0x0A, 0x0A, .f32, .rw, 3, (.flo (-40000) 120000), 0x41e00000⟩, -- Cooling setpoint, Protect to Boost
  ⟨0x0B, 0x0B, .f32, .rw, 3, (.flo (-40000) 120000), 0x41c00000⟩, -- Cooling setpoint, Protect to Boost
  ⟨0x0C, 0x0C, .f32, .rw, 3, (.flo (-40000) 120000), 0x41b80000⟩, -- Cooling setpoint, Protect to Boost
  ⟨0x0D, 0x10, .u8, .rw, 39, (.natOr 255 0 63), 0xFF⟩, -- Presence port 1..4
  ⟨0x11, 0x11, .bool, .rw, 39, .any, 0⟩, -- Use presence register
  ⟨0x12, 0x12, .u32, .rw, 35, (.nat 0 3600000 100), 0⟩, -- On-delay
  ⟨0x13, 0x13, .u32, .rw, 35, (.nat 0 86400000 100), 900000⟩, -- Hold-off
  ⟨0x14, 0x14, .u8, .rw, 35, (.enum 0 2), 1⟩, -- Presence action
  ⟨0x15, 0x15, .u8, .rw, 35, (.natOr 255 0 63), 0xFF⟩, -- Zone temperature port
  ⟨0x16, 0x16, .bool, .rw, 35, .any, 0⟩, -- Optimum start
  ⟨0x17, 0x17, .u16, .rw, 35, (.nat 10 720 1), 180⟩, -- Maximum lead
  ⟨0x18, 0x18, .f32, .rw, 35, (.flo (100) 20000), 0x40000000⟩, -- Heating rate
  ⟨0x19, 0x19, .f32, .rw, 35, (.flo (100) 20000), 0x40000000⟩, -- Cooling rate
  ⟨0x1A, 0x1A, .f32, .rw, 35, (.flo (0) 1000), 0x3e800000⟩, -- Rate weight
  ⟨0x1B, 0x1B, .u32, .rw, 35, (.nat 60000 86400000 1), 3600000⟩, -- Boost time
  ⟨0x1C, 0x1C, .u8, .rw, 35, (.enum 0 4), 1⟩]⟩ -- Trip mode

end Sys2Proof.Machine
end

