-- ==== Sys2Proof/Machine/DictC.lean ====
section
/-! DEFINITION. The entry tables of the object dictionary (R37, R38, R81), one list of rows for each object, as the owning chapters give them: recordRing, sealStore, kiln, keys, attest, auditLog, tamper, slot, update, boot, address, timing, basket, path, tripRx, bridge, routes, forwardMaps, rxMail, txMail, time, trim, localTime, exceptions, alarm, netTime, program, storage, testPages, pageInspect, display, bands, waveforms, window, metroWindow, indicatorPick, indicator, health, thresholds, raiseTimes, characterisation, histograms, lifetime, pathLife, regionLife, errorRate, drift, power, backup, scratch. -/

namespace Sys2Proof.Machine

/-- Entry table of recordRing: index 2B00, 1 instance. -/
def dRecordRing : Obj := ⟨0x2B00, 1, [
  ⟨0x00, 0x00, .u8, .const, 0, .any, 0x08⟩, -- Highest subindex
  ⟨0x01, 0x01, .u64, .ro, 16, .any, 0xFFFFFFFFFFFFFFFF⟩, -- Oldest sequence
  ⟨0x02, 0x02, .u64, .ro, 16, .any, 0xFFFFFFFFFFFFFFFF⟩, -- Newest sequence
  ⟨0x03, 0x03, .octets, .ro, 16, (.len 0 32), 0⟩, -- Chain head
  ⟨0x04, 0x04, .u64, .rw, 0, .any, 0⟩, -- Record select
  ⟨0x05, 0x05, .octets, .ro, 0, (.len 0 512), 0⟩, -- Record
  ⟨0x06, 0x06, .u16, .rw, 0, (.nat 1 2048 1), 16⟩, -- Block length
  ⟨0x07, 0x07, .octets, .ro, 0, (.len 0 1048576), 0⟩, -- Record block
  ⟨0x08, 0x08, .u32, .ro, 0, .any, 0⟩]⟩ -- Records appended

/-- Entry table of sealStore: index 2B10, 1 instance. -/
def dSealStore : Obj := ⟨0x2B10, 1, [
  ⟨0x00, 0x00, .u8, .const, 0, .any, 0x0D⟩, -- Highest subindex
  ⟨0x01, 0x01, .u64, .ro, 1, .any, 0⟩, -- Next sequence
  ⟨0x02, 0x02, .u64, .ro, 0, .any, 0xFFFFFFFFFFFFFFFF⟩, -- Oldest rolling sequence
  ⟨0x03, 0x03, .u16, .ro, 1, .any, 0⟩, -- Pinned slots used
  ⟨0x04, 0x04, .u64, .rw, 0, .any, 0⟩, -- Seal select
  ⟨0x05, 0x05, .octets, .ro, 0, (.len 0 8112), 0⟩, -- Seal
  ⟨0x06, 0x06, .octets, .ro, 0, (.len 0 256), 0⟩, -- Seal header
  ⟨0x07, 0x07, .u16, .ro, 0, .any, 0xFFFF⟩, -- Selected slot
  ⟨0x08, 0x08, .u64, .ro, 0, .any, 0xFFFFFFFFFFFFFFFF⟩, -- Latest seal
  ⟨0x09, 0x09, .u64, .ro, 0, .any, 0xFFFFFFFFFFFFFFFF⟩, -- Latest daily
  ⟨0x0A, 0x0A, .u64, .ro, 0, .any, 0xFFFFFFFFFFFFFFFF⟩, -- Latest billing
  ⟨0x0B, 0x0B, .u64, .ro, 0, .any, 0xFFFFFFFFFFFFFFFF⟩, -- Latest event
  ⟨0x0C, 0x0C, .u64, .ro, 0, .any, 0xFFFFFFFFFFFFFFFF⟩, -- Latest on-demand
  ⟨0x0D, 0x0D, .u32, .ro, 0, .any, 0⟩]⟩ -- Seals stored

/-- Entry table of kiln: index 2B20, 1 instance. -/
def dKiln : Obj := ⟨0x2B20, 1, [
  ⟨0x00, 0x00, .u8, .const, 0, .any, 0x0A⟩, -- Highest subindex
  ⟨0x01, 0x01, .bool, .wo, 0, (.nat 1 1 1), 0⟩, -- On-demand request
  ⟨0x02, 0x02, .u8, .ro, 0, .any, 0⟩, -- Queued requests
  ⟨0x03, 0x03, .u8, .ro, 0, .any, 0xFF⟩, -- Signing kind
  ⟨0x04, 0x04, .u16, .ro, 0, .any, 0x0000⟩, -- Pending event reasons
  ⟨0x05, 0x05, .u8, .ro, 0, .any, 0⟩, -- On-demand in last hour
  ⟨0x06, 0x06, .u32, .ro, 0, .any, 0⟩, -- Last signing time
  ⟨0x07, 0x07, .u32, .ro, 0, .any, 0⟩, -- Longest signing time
  ⟨0x08, 0x08, .octets, .ro, 0, (.len 0 32), 0⟩, -- Configuration digest
  ⟨0x09, 0x09, .u32, .ro, 1, .any, 0⟩, -- Self-verification failures
  ⟨0x0A, 0x0A, .u32, .ro, 1, .any, 0⟩]⟩ -- Re-signed seals

/-- Entry table of keys: index 2C00, 1 instance. -/
def dKeys : Obj := ⟨0x2C00, 1, [
  ⟨0x00, 0x00, .u8, .const, 0, .any, 0x05⟩, -- Highest subindex
  ⟨0x01, 0x01, .octets, .const, 0, (.len 0 32), 0⟩, -- Device public key
  ⟨0x02, 0x02, .octets, .const, 0, (.len 0 8112), 0⟩, -- Device certificate
  ⟨0x03, 0x03, .octets, .const, 0, (.len 0 32), 0⟩, -- Manufacturing public key
  ⟨0x04, 0x04, .octets, .const, 0, (.len 0 32), 0⟩, -- Firmware public key
  ⟨0x05, 0x05, .u8, .ro, 0, .any, 0⟩]⟩ -- Key store status

/-- Entry table of attest: index 2C10, 1 instance. -/
def dAttest : Obj := ⟨0x2C10, 1, [
  ⟨0x00, 0x00, .u8, .const, 0, .any, 0x03⟩, -- Highest subindex
  ⟨0x01, 0x01, .octets, .wo, 0, (.len 32 32), 0⟩, -- Challenge
  ⟨0x02, 0x02, .u8, .ro, 0, .any, 0⟩, -- State
  ⟨0x03, 0x03, .octets, .ro, 0, (.len 0 8112), 0⟩]⟩ -- Statement

/-- Entry table of auditLog: index 2C20, 1 instance. -/
def dAuditLog : Obj := ⟨0x2C20, 1, [
  ⟨0x00, 0x00, .u8, .const, 0, .any, 0x08⟩, -- Highest subindex
  ⟨0x01, 0x01, .u32, .ro, 16, .any, 0⟩, -- Oldest sequence
  ⟨0x02, 0x02, .u32, .ro, 16, .any, 0⟩, -- Newest sequence
  ⟨0x03, 0x03, .octets, .ro, 16, (.len 0 32), 0⟩, -- Audit head
  ⟨0x04, 0x04, .u32, .rw, 0, .any, 0⟩, -- Entry select
  ⟨0x05, 0x05, .octets, .ro, 0, (.len 0 64), 0⟩, -- Entry
  ⟨0x06, 0x06, .u16, .rw, 0, (.nat 1 16384 1), 256⟩, -- Block length
  ⟨0x07, 0x07, .octets, .ro, 0, (.len 0 1048576), 0⟩, -- Entry block
  ⟨0x08, 0x08, .u32, .ro, 0, .any, 0⟩]⟩ -- Entries written

/-- Entry table of tamper: index 2C30, 1 instance. -/
def dTamper : Obj := ⟨0x2C30, 1, [
  ⟨0x00, 0x00, .u8, .const, 0, .any, 0x0A⟩, -- Highest subindex
  ⟨0x01, 0x01, .bool, .rw, 3, .any, 0⟩, -- TAMP0 enable
  ⟨0x02, 0x02, .u8, .rw, 3, (.enum 0 1), 1⟩, -- TAMP0 active level
  ⟨0x03, 0x03, .bool, .rw, 3, .any, 0⟩, -- TAMP1 enable
  ⟨0x04, 0x04, .u8, .rw, 3, (.enum 0 1), 1⟩, -- TAMP1 active level
  ⟨0x05, 0x05, .u8, .ro, 0, .any, 0x00⟩, -- Input state
  ⟨0x06, 0x06, .u32, .ro, 1, .any, 0⟩, -- TAMP0 activations
  ⟨0x07, 0x07, .u32, .ro, 1, .any, 0⟩, -- TAMP1 activations
  ⟨0x08, 0x08, .time, .ro, 1, .any, 0⟩, -- TAMP0 last activation
  ⟨0x09, 0x09, .time, .ro, 1, .any, 0⟩, -- TAMP1 last activation
  ⟨0x0A, 0x0A, .u32, .ro, 1, .any, 0⟩]⟩ -- Tamper events

/-- Entry table of slot: index 2D00, 2 instances. -/
def dSlot : Obj := ⟨0x2D00, 2, [
  ⟨0x00, 0x00, .u8, .const, 0, .any, 0x07⟩, -- Highest subindex
  ⟨0x01, 0x01, .u8, .ro, 0, .any, 0⟩, -- State
  ⟨0x02, 0x02, .u32, .ro, 0, .any, 0⟩, -- Image length
  ⟨0x03, 0x03, .octets, .ro, 0, (.len 0 32), 0⟩, -- Image digest
  ⟨0x04, 0x04, .u32, .ro, 0, .any, 0⟩, -- Firmware version
  ⟨0x05, 0x05, .u16, .ro, 0, .any, 0⟩, -- Security version
  ⟨0x06, 0x06, .u8, .ro, 0, .any, 0⟩, -- Boot attempts left
  ⟨0x07, 0x07, .bool, .ro, 0, .any, 0⟩]⟩ -- Preferred

/-- Entry table of update: index 2D10, 1 instance. -/
def dUpdate : Obj := ⟨0x2D10, 1, [
  ⟨0x00, 0x00, .u8, .const, 0, .any, 0x06⟩, -- Highest subindex
  ⟨0x01, 0x01, (.record 36), .wo, 2, .any, 0⟩, -- Update request
  ⟨0x02, 0x02, .octets, .wo, 0, (.len 5 65540), 0⟩, -- Block
  ⟨0x03, 0x03, .u32, .ro, 0, .any, 0⟩, -- Acknowledged bytes
  ⟨0x04, 0x04, .bool, .wo, 6, (.nat 1 1 1), 0⟩, -- Activate
  ⟨0x05, 0x05, .bool, .wo, 6, (.nat 1 1 1), 0⟩, -- Cancel
  ⟨0x06, 0x06, .u8, .ro, 0, .any, 0⟩]⟩ -- Target slot

/-- Entry table of boot: index 2D20, 1 instance. -/
def dBoot : Obj := ⟨0x2D20, 1, [
  ⟨0x00, 0x00, .u8, .const, 0, .any, 0x06⟩, -- Highest subindex
  ⟨0x01, 0x01, .u8, .rw, 35, (.nat 1 10 1), 3⟩, -- Trial attempts
  ⟨0x02, 0x02, .u8, .rw, 35, (.enum 0 1), 0⟩, -- Confirmation policy
  ⟨0x03, 0x03, .bool, .wo, 6, (.nat 1 1 1), 0⟩, -- Confirm
  ⟨0x04, 0x04, .bool, .wo, 6, (.nat 1 1 1), 0⟩, -- Acknowledge fallback
  ⟨0x05, 0x05, .u32, .rw, 35, (.nat 60 86400 1), 600⟩, -- Confirmation time
  ⟨0x06, 0x06, .u16, .ro, 0, .any, 0⟩]⟩ -- Security counter

/-- Entry table of address: index 1100, 1 instance. -/
def dAddress : Obj := ⟨0x1100, 1, [
  ⟨0x00, 0x00, .u8, .const, 0, .any, 0x06⟩, -- Highest subindex
  ⟨0x01, 0x01, .u8, .rw, 3, (.nat 1 120 1), 1⟩, -- Upstream node ID
  ⟨0x02, 0x02, .u16, .rw, 3, (.nat 0 65534 1), 0x0000⟩, -- Upstream segment
  ⟨0x03, 0x03, .u8, .rw, 3, (.nat 1 120 1), 1⟩, -- Downstream node ID
  ⟨0x04, 0x04, .u16, .rw, 3, (.nat 0 65534 1), 0x0001⟩, -- Downstream segment
  ⟨0x05, 0x05, .u8, .ro, 0, .any, 1⟩, -- Upstream node ID in use
  ⟨0x06, 0x06, .bool, .ro, 0, .any, 0⟩]⟩ -- Reset required

/-- Entry table of timing: index 1101, 2 instances. -/
def dTiming : Obj := ⟨0x1101, 2, [
  ⟨0x00, 0x00, .u8, .const, 0, .any, 0x06⟩, -- Highest subindex
  ⟨0x01, 0x01, .u8, .rw, 3, (.enum 0 6), 4⟩, -- Nominal rate
  ⟨0x02, 0x02, .u8, .rw, 3, (.enum 0 3), 1⟩, -- Data rate
  ⟨0x03, 0x03, .u16, .rw, 3, (.nat 700 900 1), 875⟩, -- Nominal sample point
  ⟨0x04, 0x04, .u16, .rw, 3, (.nat 600 850 1), 750⟩, -- Data sample point
  ⟨0x05, 0x05, .u8, .rw, 35, (.enum 0 1), 1⟩, -- Transmitter delay compensation mode
  ⟨0x06, 0x06, .u8, .rw, 35, (.nat 0 63 1), 0⟩]⟩ -- Transmitter delay compensation offset

/-- Entry table of basket: index 1104, 2 instances. -/
def dBasket : Obj := ⟨0x1104, 2, [
  ⟨0x00, 0x00, .u8, .const, 0, .any, 0x0A⟩, -- Highest subindex
  ⟨0x01, 0x01, .u16, .rw, 3, (.nat 10 1000 1), 50⟩, -- Lease time
  ⟨0x02, 0x02, .u8, .rw, 3, (.enum 0 1), 0⟩, -- Preferred path
  ⟨0x03, 0x03, .u32, .rw, 3, (.natOr 0 1000 3600000), 10000⟩, -- Revert hold time
  ⟨0x04, 0x04, .u32, .rw, 3, (.nat 10 60000 1), 1000⟩, -- Error-passive limit
  ⟨0x05, 0x05, .u8, .ro, 0, .any, 0xFF⟩, -- Holder
  ⟨0x06, 0x06, .u32, .ro, 0, .any, 0⟩, -- Hand-overs
  ⟨0x07, 0x07, .u8, .ro, 0, .any, 0⟩, -- Last hand-over cause
  ⟨0x08, 0x08, .time, .ro, 0, .any, 0⟩, -- Last hand-over time
  ⟨0x09, 0x09, .u8, .rw, 3, (.enum 1 3), 0x03⟩, -- Path mask
  ⟨0x0A, 0x0A, .u32, .ro, 0, .any, 0⟩]⟩ -- Duplicates discarded

/-- Entry table of path: index 1108, 4 instances. -/
def dPath : Obj := ⟨0x1108, 4, [
  ⟨0x00, 0x00, .u8, .const, 0, .any, 0x0E⟩, -- Highest subindex
  ⟨0x01, 0x01, .u8, .ro, 0, .any, 0⟩, -- State
  ⟨0x02, 0x02, .bool, .ro, 0, .any, 0⟩, -- Holds Basket
  ⟨0x03, 0x03, .bool, .ro, 0, .any, 0⟩, -- Passes self-test
  ⟨0x04, 0x04, .u8, .ro, 0, .any, 0⟩, -- Transmit error counter
  ⟨0x05, 0x05, .u8, .ro, 0, .any, 0⟩, -- Receive error counter
  ⟨0x06, 0x06, .u32, .ro, 0, .any, 0⟩, -- Frames sent
  ⟨0x07, 0x07, .u32, .ro, 0, .any, 0⟩, -- Frames received
  ⟨0x08, 0x08, .u32, .ro, 0, .any, 0⟩, -- Error frames
  ⟨0x09, 0x09, .u32, .ro, 0, .any, 0⟩, -- Bus-off events
  ⟨0x0A, 0x0A, .u8, .ro, 0, .any, 0⟩, -- Transmit queue
  ⟨0x0B, 0x0B, .u8, .ro, 0, .any, 0⟩, -- Trip frames pending
  ⟨0x0C, 0x0C, .u32, .ro, 0, .any, 0⟩, -- Publications dropped
  ⟨0x0D, 0x0D, .u16, .ro, 0, .any, 0⟩, -- Measured transmitter delay
  ⟨0x0E, 0x0E, .u8, .ro, 0, .any, 0x00⟩]⟩ -- Transceiver status

/-- Entry table of tripRx: index 1110, 1 instance. -/
def dTripRx : Obj := ⟨0x1110, 1, [
  ⟨0x00, 0x00, .u8, .const, 0, .any, 0x05⟩, -- Highest subindex
  ⟨0x01, 0x01, .u64, .rw, 3, .any, 0⟩, -- Receive channel mask
  ⟨0x02, 0x02, .u16, .rw, 3, (.nat 100 10000 1), 1000⟩, -- Trip refresh period
  ⟨0x03, 0x03, .bool, .wo, 2, (.nat 1 1 1), 0⟩, -- Clear remote sources
  ⟨0x04, 0x04, .u64, .ro, 0, .any, 0⟩, -- Remotely asserted
  ⟨0x05, 0x05, .u32, .ro, 0, .any, 0⟩]⟩ -- Duplicate trips dropped

/-- Entry table of bridge: index 1300, 1 instance. -/
def dBridge : Obj := ⟨0x1300, 1, [
  ⟨0x00, 0x00, .u8, .const, 0, .any, 0x08⟩, -- Highest subindex
  ⟨0x01, 0x01, .bool, .rw, 3, .any, 0⟩, -- Bridge enable
  ⟨0x02, 0x02, .u16, .ro, 0, .any, 0⟩, -- Routes
  ⟨0x03, 0x03, .u16, .ro, 0, .any, 0⟩, -- Forwarded maps
  ⟨0x04, 0x04, .u64, .rw, 3, .any, 0⟩, -- Trip forward down
  ⟨0x05, 0x05, .u64, .rw, 3, .any, 0⟩, -- Trip forward up
  ⟨0x06, 0x06, .u32, .ro, 0, .any, 0⟩, -- Frames forwarded down
  ⟨0x07, 0x07, .u32, .ro, 0, .any, 0⟩, -- Frames forwarded up
  ⟨0x08, 0x08, .u32, .ro, 0, .any, 0⟩]⟩ -- Forwarded frames dropped

/-- Entry table of routes: index 1301, 1 instance. -/
def dRoutes : Obj := ⟨0x1301, 1, [
  ⟨0x00, 0x00, .u8, .const, 0, .any, 0x01⟩, -- Highest subindex
  ⟨0x01, 0x01, .octets, .rw, 3, (.len 0 2048), 0⟩]⟩ -- Route table

/-- Entry table of forwardMaps: index 1302, 1 instance. -/
def dForwardMaps : Obj := ⟨0x1302, 1, [
  ⟨0x00, 0x00, .u8, .const, 0, .any, 0x01⟩, -- Highest subindex
  ⟨0x01, 0x01, .octets, .rw, 3, (.len 0 1536), 0⟩]⟩ -- Forwarded-map table

/-- Entry table of rxMail: index 1400, 16 instances. -/
def dRxMail : Obj := ⟨0x1400, 16, [
  ⟨0x00, 0x00, .u8, .const, 0, .any, 0x0C⟩, -- Highest subindex
  ⟨0x01, 0x01, .bool, .rw, 3, .any, 0⟩, -- Enable
  ⟨0x02, 0x02, .u8, .rw, 7, (.enum 0 3), 0⟩, -- Path
  ⟨0x03, 0x03, .u32, .rw, 7, (.mask 0x1fffffff), 0⟩, -- Identifier
  ⟨0x04, 0x04, .u32, .rw, 7, (.mask 0x1fffffff), 0⟩, -- Mask
  ⟨0x05, 0x05, .u8, .rw, 7, (.mask 0xf), 0x0F⟩, -- Formats
  ⟨0x06, 0x06, .u32, .ro, 16, .any, 0⟩, -- Received identifier
  ⟨0x07, 0x07, .u8, .ro, 16, .any, 0⟩, -- Length
  ⟨0x08, 0x08, .octets, .ro, 16, (.len 0 64), 0⟩, -- Data
  ⟨0x09, 0x09, .u8, .ro, 16, .any, 0x00⟩, -- Flags
  ⟨0x0A, 0x0A, .u64, .ro, 16, .any, 0⟩, -- Timestamp
  ⟨0x0B, 0x0B, .u32, .ro, 0, .any, 0⟩, -- Frames taken
  ⟨0x0C, 0x0C, .u32, .ro, 0, .any, 0⟩]⟩ -- Overruns

/-- Entry table of txMail: index 1410, 8 instances. -/
def dTxMail : Obj := ⟨0x1410, 8, [
  ⟨0x00, 0x00, .u8, .const, 0, .any, 0x07⟩, -- Highest subindex
  ⟨0x01, 0x01, .u8, .rw, 3, (.enum 0 5), 4⟩, -- Path
  ⟨0x02, 0x02, .u32, .rw, 3, .any, 0x7C000000⟩, -- Identifier
  ⟨0x03, 0x03, .octets, .rw, 0, (.len 0 64), 0⟩, -- Data
  ⟨0x04, 0x04, .bool, .wo, 0, (.nat 1 1 1), 0⟩, -- Send
  ⟨0x05, 0x05, .u8, .ro, 0, .any, 0⟩, -- State
  ⟨0x06, 0x06, .bool, .wo, 0, (.nat 1 1 1), 0⟩, -- Cancel
  ⟨0x07, 0x07, .u32, .ro, 0, .any, 0⟩]⟩ -- Frames sent

/-- Entry table of time: index 2900, 1 instance. -/
def dTime : Obj := ⟨0x2900, 1, [
  ⟨0x00, 0x00, .u8, .const, 0, .any, 0x0E⟩, -- Highest subindex
  ⟨0x01, 0x01, .time, .ro, 16, .any, 0⟩, -- Device time
  ⟨0x02, 0x02, .u8, .ro, 16, .any, 0x00⟩, -- Time quality
  ⟨0x03, 0x03, .time, .ro, 16, .any, 0⟩, -- Local time
  ⟨0x04, 0x04, .i16, .ro, 16, .any, 0⟩, -- Local offset
  ⟨0x05, 0x05, .u64, .ro, 16, .any, 0⟩, -- Reference counter
  ⟨0x06, 0x06, .u32, .ro, 0, .any, 0xFFFFFFFF⟩, -- Error bound
  ⟨0x07, 0x07, .bool, .rw, 6, .any, 0⟩, -- Halt
  ⟨0x08, 0x08, .time, .rw, 6, .any, 0⟩, -- Set value
  ⟨0x09, 0x09, .u8, .rw, 35, (.nat 0 15 1), 15⟩, -- Trust limit
  ⟨0x0A, 0x0A, .time, .ro, 1, .any, 0⟩, -- Last step
  ⟨0x0B, 0x0B, .i64, .ro, 1, .any, 0⟩, -- Last step size
  ⟨0x0C, 0x0C, .u32, .ro, 1, .any, 0⟩, -- Time steps
  ⟨0x0D, 0x0D, .i32, .ro, 0, .any, 0⟩, -- Slew remaining
  ⟨0x0E, 0x0E, .time, .ro, 1, .any, 0⟩]⟩ -- Untrusted since

/-- Entry table of trim: index 2901, 1 instance. -/
def dTrim : Obj := ⟨0x2901, 1, [
  ⟨0x00, 0x00, .u8, .const, 0, .any, 0x0A⟩, -- Highest subindex
  ⟨0x01, 0x01, .u8, .rw, 35, (.enum 0 1), 1⟩, -- Trim mode
  ⟨0x02, 0x02, .i8, .rw, 39, (.int (-64) 63 1), 0⟩, -- Load-capacitor trim
  ⟨0x03, 0x03, .i16, .ro, 0, .any, 0⟩, -- Add/skip rate
  ⟨0x04, 0x04, .f32, .ro, 0, .any, 0x7fc00000⟩, -- RTC deviation
  ⟨0x05, 0x05, .f32, .ro, 0, .any, 0x7fc00000⟩, -- Reference deviation
  ⟨0x06, 0x06, .f32, .ro, 1, .any, 0x7fc00000⟩, -- Reference deviation, 30-day mean
  ⟨0x07, 0x07, .octets, .ro, 1, (.len 0 64), 0⟩, -- Drift table
  ⟨0x08, 0x08, .u16, .ro, 1, .any, 0x0000⟩, -- Bins learned
  ⟨0x09, 0x09, .i16, .rw, 36, (.int (-524) 524 1), 0⟩, -- Add/skip test rate
  ⟨0x0A, 0x0A, .bool, .ro, 0, .any, 0⟩]⟩ -- Retention lost at start-up

/-- Entry table of localTime: index 2902, 1 instance. -/
def dLocalTime : Obj := ⟨0x2902, 1, [
  ⟨0x00, 0x00, .u8, .const, 0, .any, 0x07⟩, -- Highest subindex
  ⟨0x01, 0x01, .i16, .rw, 3, (.int (-720) 840 15), 0⟩, -- Standard offset
  ⟨0x02, 0x02, .bool, .rw, 3, .any, 0⟩, -- Daylight saving enable
  ⟨0x03, 0x03, .i16, .rw, 3, (.int (0) 120 15), 60⟩, -- Daylight saving offset
  ⟨0x04, 0x04, (.record 6), .rw, 3, .any, 257698432259⟩, -- Start rule
  ⟨0x05, 0x05, (.record 6), .rw, 3, .any, 257698432266⟩, -- End rule
  ⟨0x06, 0x06, .bool, .ro, 0, .any, 0⟩, -- Daylight saving active
  ⟨0x07, 0x07, .time, .ro, 0, .any, 0⟩]⟩ -- Next local change

/-- Entry table of exceptions: index 2903, 1 instance. -/
def dExceptions : Obj := ⟨0x2903, 1, [
  ⟨0x00, 0x00, .u8, .const, 0, .any, 0x40⟩, -- Highest subindex
  ⟨0x01, 0x40, (.record 16), .rw, 3, .any, 0⟩]⟩ -- Exception date

/-- Entry table of alarm: index 2904, 8 instances. -/
def dAlarm : Obj := ⟨0x2904, 8, [
  ⟨0x00, 0x00, .u8, .const, 0, .any, 0x08⟩, -- Highest subindex
  ⟨0x01, 0x01, .bool, .rw, 3, .any, 0⟩, -- Enable
  ⟨0x02, 0x02, .u8, .rw, 7, (.enum 0 2), 0⟩, -- Kind
  ⟨0x03, 0x03, .time, .rw, 7, .any, 0⟩, -- Instant
  ⟨0x04, 0x04, .u16, .rw, 7, (.nat 0 1439 1), 0⟩, -- Minute
  ⟨0x05, 0x05, .u8, .rw, 7, (.mask 0x7f), 0x7F⟩, -- Weekdays
  ⟨0x06, 0x06, .u8, .ro, 0, .any, 0x00⟩, -- Status
  ⟨0x07, 0x07, .time, .ro, 1, .any, 0⟩, -- Last fired
  ⟨0x08, 0x08, .time, .ro, 0, .any, 0⟩]⟩ -- Next due

/-- Entry table of netTime: index 2910, 1 instance. -/
def dNetTime : Obj := ⟨0x2910, 1, [
  ⟨0x00, 0x00, .u8, .const, 0, .any, 0x10⟩, -- Highest subindex
  ⟨0x01, 0x01, .u8, .rw, 3, (.enum 0 2), 0⟩, -- Role
  ⟨0x02, 0x02, .u16, .rw, 3, (.nat 250 16000 250), 1000⟩, -- Reference period
  ⟨0x03, 0x03, .u8, .rw, 3, (.natOr 0 1 120), 0⟩, -- Master node
  ⟨0x04, 0x04, .bool, .rw, 3, .any, 0⟩, -- Downstream master
  ⟨0x05, 0x05, .u16, .rw, 35, (.nat 10 500 1), 500⟩, -- Slew rate
  ⟨0x06, 0x06, .u32, .rw, 35, (.nat 1001 86400000 1), 60000⟩, -- Step limit
  ⟨0x07, 0x07, .u8, .rw, 35, (.nat 2 64 1), 8⟩, -- Confirmation count
  ⟨0x08, 0x08, .u8, .ro, 0, .any, 0⟩, -- State
  ⟨0x09, 0x09, .i64, .ro, 0, .any, 0⟩, -- Last offset
  ⟨0x0A, 0x0A, .u32, .ro, 0, .any, 0⟩, -- Pairs accepted
  ⟨0x0B, 0x0B, .u32, .ro, 0, .any, 0⟩, -- Pairs refused
  ⟨0x0C, 0x0C, .u8, .ro, 0, .any, 0⟩, -- Current master
  ⟨0x0D, 0x0D, .u8, .ro, 0, .any, 0⟩, -- Stratum
  ⟨0x0E, 0x0E, .i64, .ro, 0, .any, 0⟩, -- Pending offset
  ⟨0x0F, 0x0F, .u8, .ro, 0, .any, 0⟩, -- Confirmations
  ⟨0x10, 0x10, .time, .ro, 0, .any, 0⟩]⟩ -- Last accepted

/-- Entry table of program: index 2880, 64 instances. -/
def dProgram : Obj := ⟨0x2880, 64, [
  ⟨0x00, 0x00, .u8, .const, 0, .any, 0x18⟩, -- Highest subindex
  ⟨0x01, 0x01, .bool, .rw, 3, .any, 0⟩, -- Enable
  ⟨0x02, 0x02, .f32, .ro, 0, .any, 0x7fc00000⟩, -- Output
  ⟨0x03, 0x03, .u8, .ro, 0, .any, 0⟩, -- Day type
  ⟨0x04, 0x04, .time, .ro, 0, .any, 0⟩, -- Next change
  ⟨0x05, 0x05, .f32, .ro, 0, .any, 0x7fc00000⟩, -- Next value
  ⟨0x06, 0x06, .str, .rw, 3, (.len 0 16), 0⟩, -- Name
  ⟨0x10, 0x16, .octets, .rw, 3, (.len 0 48), 0⟩, -- Profile, Monday..Sunday
  ⟨0x17, 0x18, .octets, .rw, 3, (.len 0 48), 0⟩]⟩ -- Exception profile 1..2

/-- Entry table of storage: index 2E00, 1 instance. -/
def dStorage : Obj := ⟨0x2E00, 1, [
  ⟨0x00, 0x00, .u8, .const, 0, .any, 0x0E⟩, -- Highest subindex
  ⟨0x01, 0x01, .u16, .ro, 0, .any, 0x0000⟩, -- Storage status
  ⟨0x02, 0x02, .u16, .ro, 0, .any, 8192⟩, -- Spare pages free
  ⟨0x03, 0x03, .u16, .ro, 0, .any, 0⟩, -- Remapped pages
  ⟨0x04, 0x04, .u32, .ro, 0, .any, 0⟩, -- Scrub position
  ⟨0x05, 0x05, .time, .ro, 1, .any, 0⟩, -- Last scrub cycle completed
  ⟨0x06, 0x06, .u32, .ro, 0, .any, 0⟩, -- Corrected errors
  ⟨0x07, 0x07, .u32, .ro, 0, .any, 0⟩, -- Uncorrectable reads
  ⟨0x08, 0x08, .u32, .ro, 0, .any, 0⟩, -- Write-verify failures
  ⟨0x09, 0x09, .u8, .ro, 0, .any, 0⟩, -- Journal operations completed
  ⟨0x0A, 0x0A, .u8, .ro, 0, .any, 0⟩, -- Journal operations rolled back
  ⟨0x0B, 0x0B, .u8, .ro, 0, .any, 0⟩, -- Carries completed
  ⟨0x0C, 0x0C, .u16, .ro, 0, .any, 0⟩, -- Twin records
  ⟨0x0D, 0x0D, .u16, .ro, 0, .any, 0⟩, -- Records defaulted
  ⟨0x0E, 0x0E, .u16, .rw, 35, (.nat 1 168 1), 24⟩]⟩ -- Scrub period

/-- Entry table of testPages: index 2E10, 1 instance. -/
def dTestPages : Obj := ⟨0x2E10, 1, [
  ⟨0x00, 0x00, .u8, .const, 0, .any, 0x03⟩, -- Highest subindex
  ⟨0x01, 0x01, .octets, .wo, 34, (.len 5 132), 0⟩, -- Test write
  ⟨0x02, 0x02, .u8, .ro, 0, .any, 0⟩, -- Bytes written
  ⟨0x03, 0x03, .u8, .ro, 0, .any, 0⟩]⟩ -- Verify result

/-- Entry table of pageInspect: index 2E20, 1 instance. -/
def dPageInspect : Obj := ⟨0x2E20, 1, [
  ⟨0x00, 0x00, .u8, .const, 0, .any, 0x04⟩, -- Highest subindex
  ⟨0x01, 0x01, .u32, .rw, 0, (.nat 0 524287 1), 0⟩, -- Page select
  ⟨0x02, 0x02, .octets, .ro, 0, (.len 0 128), 0⟩, -- Page data
  ⟨0x03, 0x03, .u8, .ro, 0, .any, 0x00⟩, -- Page status
  ⟨0x04, 0x04, .u32, .ro, 0, .any, 0⟩]⟩ -- Physical page

/-- Entry table of display: index 2A00, 1 instance. -/
def dDisplay : Obj := ⟨0x2A00, 1, [
  ⟨0x00, 0x00, .u8, .const, 0, .any, 0x12⟩, -- Highest subindex
  ⟨0x01, 0x01, .bool, .rw, 7, .any, 0⟩, -- Enable
  ⟨0x02, 0x02, .u16, .rw, 39, (.nat 8 400 4), 400⟩, -- Panel width
  ⟨0x03, 0x03, .u16, .rw, 39, (.nat 8 300 1), 300⟩, -- Panel height
  ⟨0x04, 0x04, .u32, .rw, 39, (.nat 240000 2400000 1), 480000⟩, -- Frame period
  ⟨0x05, 0x05, .u8, .rw, 39, (.nat 2 16 1), 4⟩, -- Source clock divisor
  ⟨0x06, 0x06, .bool, .rw, 39, .any, 0⟩, -- Spread
  ⟨0x07, 0x07, .i16, .rw, 39, (.int (-3000) (-500) 10), 64036⟩, -- VCOM
  ⟨0x08, 0x08, .u8, .rw, 39, (.nat 0 71 1), 64⟩, -- Temperature source
  ⟨0x09, 0x09, .f32, .ro, 0, .any, 0x7fc00000⟩, -- Panel temperature
  ⟨0x0A, 0x0A, .u8, .ro, 0, .any, 0xFF⟩, -- Band in use
  ⟨0x0B, 0x0B, .u8, .ro, 0, .any, 0⟩, -- State
  ⟨0x0C, 0x0C, .u8, .ro, 0, .any, 0⟩, -- Rectangles running
  ⟨0x0D, 0x0D, .u8, .ro, 0, .any, 0⟩, -- Requests queued
  ⟨0x0E, 0x0E, .u32, .ro, 0, .any, 0⟩, -- Area running
  ⟨0x0F, 0x0F, .u32, .ro, 0, .any, 0⟩, -- Image CRC
  ⟨0x10, 0x10, .bool, .ro, 0, .any, 0⟩, -- Image known
  ⟨0x11, 0x11, .u16, .ro, 0, .any, 0x0000⟩, -- Status
  ⟨0x12, 0x12, .u32, .ro, 0, .any, 0⟩]⟩ -- Rectangles completed

/-- Entry table of bands: index 2A01, 1 instance. -/
def dBands : Obj := ⟨0x2A01, 1, [
  ⟨0x00, 0x00, .u8, .const, 0, .any, 0x17⟩, -- Highest subindex
  ⟨0x01, 0x01, .f32, .rw, 39, (.flo (-20000) 70000), 0x0⟩, -- Lower bound, band 0..7
  ⟨0x02, 0x02, .f32, .rw, 39, (.flo (-20000) 70000), 0x40a00000⟩, -- Lower bound, band 0..7
  ⟨0x03, 0x03, .f32, .rw, 39, (.flo (-20000) 70000), 0x41200000⟩, -- Lower bound, band 0..7
  ⟨0x04, 0x04, .f32, .rw, 39, (.flo (-20000) 70000), 0x41700000⟩, -- Lower bound, band 0..7
  ⟨0x05, 0x05, .f32, .rw, 39, (.flo (-20000) 70000), 0x41a00000⟩, -- Lower bound, band 0..7
  ⟨0x06, 0x06, .f32, .rw, 39, (.flo (-20000) 70000), 0x41c80000⟩, -- Lower bound, band 0..7
  ⟨0x07, 0x07, .f32, .rw, 39, (.flo (-20000) 70000), 0x41f00000⟩, -- Lower bound, band 0..7
  ⟨0x08, 0x08, .f32, .rw, 39, (.flo (-20000) 70000), 0x42200000⟩, -- Lower bound, band 0..7
  ⟨0x09, 0x09, .f32, .rw, 39, (.flo (-20000) 70000), 0x42480000⟩, -- Upper bound, band 7
  ⟨0x10, 0x17, .f32, .rw, 39, (.flo (10000) 15000), 0x41700000⟩]⟩ -- Source voltage, band 0..7

/-- Entry table of waveforms: index 2A08, 8 instances. -/
def dWaveforms : Obj := ⟨0x2A08, 8, [
  ⟨0x00, 0x00, .u8, .const, 0, .any, 0x14⟩, -- Highest subindex
  ⟨0x01, 0x10, .octets, .rw, 39, (.len 1 17), 0⟩, -- Transition f → t
  ⟨0x11, 0x14, .octets, .rw, 39, (.len 1 17), 0⟩]⟩ -- Unknown → t

/-- Entry table of window: index 2A10, 8 instances. -/
def dWindow : Obj := ⟨0x2A10, 8, [
  ⟨0x00, 0x00, .u8, .const, 0, .any, 0x0A⟩, -- Highest subindex
  ⟨0x01, 0x01, .bool, .rw, 7, .any, 0⟩, -- Enable
  ⟨0x02, 0x02, .u16, .rw, 7, (.nat 0 399 1), 0⟩, -- X
  ⟨0x03, 0x03, .u16, .rw, 7, (.nat 0 299 1), 0⟩, -- Y
  ⟨0x04, 0x04, .u16, .rw, 7, (.nat 1 400 1), 8⟩, -- Width
  ⟨0x05, 0x05, .u16, .rw, 7, (.nat 1 300 1), 8⟩, -- Height
  ⟨0x06, 0x06, .octets, .wo, 4, (.len 9 30008), 0⟩, -- Update
  ⟨0x07, 0x07, .u8, .ro, 0, .any, 0⟩, -- State
  ⟨0x08, 0x08, .u8, .ro, 0, .any, 0⟩, -- Requests pending
  ⟨0x09, 0x09, .time, .ro, 0, .any, 0⟩, -- Last completed
  ⟨0x0A, 0x0A, .u32, .ro, 0, .any, 0⟩]⟩ -- Updates completed

/-- Entry table of metroWindow: index 2A18, 1 instance. -/
def dMetroWindow : Obj := ⟨0x2A18, 1, [
  ⟨0x00, 0x00, .u8, .const, 0, .any, 0x09⟩, -- Highest subindex
  ⟨0x01, 0x01, .bool, .rw, 7, .any, 0⟩, -- Enable
  ⟨0x02, 0x02, .u16, .rw, 7, .any, 0⟩, -- X, Y, width, height
  ⟨0x03, 0x03, .u16, .rw, 7, .any, 236⟩, -- X, Y, width, height
  ⟨0x04, 0x04, .u16, .rw, 7, (.nat 160 65535 1), 400⟩, -- X, Y, width, height
  ⟨0x05, 0x05, .u16, .rw, 7, (.nat 48 65535 1), 64⟩, -- X, Y, width, height
  ⟨0x06, 0x06, .u32, .rw, 3, .any, 0⟩, -- Meter mask
  ⟨0x07, 0x07, .u16, .rw, 3, (.nat 2 60 1), 5⟩, -- Page time
  ⟨0x08, 0x08, .u8, .rw, 3, (.enum 0 2), 0⟩, -- Unit
  ⟨0x09, 0x09, .u8, .ro, 0, .any, 0xFF⟩]⟩ -- Page shown

/-- Entry table of indicatorPick: index 2A40, 1 instance. -/
def dIndicatorPick : Obj := ⟨0x2A40, 1, [
  ⟨0x00, 0x00, .u8, .const, 0, .any, 0x01⟩, -- Highest subindex
  ⟨0x01, 0x01, .u8, .rw, 3, (.natOr 255 0 3), 0xFF⟩]⟩ -- Replacement indicator

/-- Entry table of indicator: index 2A41, 4 instances. -/
def dIndicator : Obj := ⟨0x2A41, 4, [
  ⟨0x00, 0x00, .u8, .const, 0, .any, 0x08⟩, -- Highest subindex
  ⟨0x01, 0x01, .f32, .rw, 3, (.floStep (0) 20000 100), 0x40a00000⟩, -- Current
  ⟨0x02, 0x02, .u16, .rw, 3, .any, 0x0000⟩, -- Pattern
  ⟨0x03, 0x03, .u16, .rw, 3, (.nat 50 1000 1), 125⟩, -- Step time
  ⟨0x04, 0x04, .u8, .rw, 3, (.nat 1 16 1), 16⟩, -- Pattern length
  ⟨0x05, 0x05, .bool, .ro, 0, .any, 0⟩, -- Output on
  ⟨0x06, 0x06, .u8, .ro, 0, .any, 0⟩, -- Fault
  ⟨0x07, 0x07, .bool, .ro, 0, .any, 0⟩, -- Replacement pattern
  ⟨0x08, 0x08, .str, .rw, 3, (.len 0 16), 0⟩]⟩ -- Name

/-- Entry table of health: index 2F00, 1 instance. -/
def dHealth : Obj := ⟨0x2F00, 1, [
  ⟨0x00, 0x00, .u8, .const, 0, .any, 0x0A⟩, -- Highest subindex
  ⟨0x01, 0x01, .u16, .ro, 0, .any, 0x0000⟩, -- Node status word
  ⟨0x02, 0x02, .u16, .ro, 1, .any, 0x0000⟩, -- Replacement reasons
  ⟨0x03, 0x03, .u8, .ro, 0, .any, 0x00⟩, -- Health advisories
  ⟨0x04, 0x04, .f32, .ro, 0, .any, 0x7fc00000⟩, -- Speed index
  ⟨0x05, 0x05, .f32, .ro, 1, .any, 0x7fc00000⟩, -- Normalised index, last hour
  ⟨0x06, 0x06, .f32, .ro, 1, .any, 0x7fc00000⟩, -- Normalised index, 30 days
  ⟨0x07, 0x07, .u16, .ro, 0, .any, 0⟩, -- Core supply
  ⟨0x08, 0x08, .f32, .ro, 0, .any, 0x7fc00000⟩, -- Die temperature
  ⟨0x09, 0x09, .bool, .wo, 2, (.nat 1 1 1), 0⟩, -- Acknowledge deadline miss
  ⟨0x0A, 0x0A, .u32, .ro, 0, .any, 0⟩]⟩ -- Refused Hamper write

/-- Entry table of thresholds: index 2F01, 1 instance. -/
def dThresholds : Obj := ⟨0x2F01, 1, [
  ⟨0x00, 0x00, .u8, .const, 0, .any, 0x08⟩, -- Highest subindex
  ⟨0x01, 0x01, .f32, .rw, 35, (.flo (600) 950), 0x3f4ccccd⟩, -- Speed index threshold
  ⟨0x02, 0x02, .u8, .rw, 35, (.nat 1 50 1), 10⟩, -- Spare threshold
  ⟨0x03, 0x03, .f32, .rw, 35, (.flo (10) 1000000), 0x3f800000⟩, -- Error-rate threshold
  ⟨0x04, 0x04, .f32, .rw, 35, (.flo (10000) 200000), 0x42200000⟩, -- Oscillator threshold
  ⟨0x05, 0x05, .u32, .rw, 35, (.nat 10 10000 1), 100⟩, -- Zero drift limit
  ⟨0x06, 0x06, .u32, .rw, 35, (.nat 100 100000 1), 1678⟩, -- Reference drift limit
  ⟨0x07, 0x07, .u16, .rw, 35, (.nat 1 168 1), 24⟩, -- Path loss time
  ⟨0x08, 0x08, .u16, .rw, 35, (.mask 0x7f), 0x007F⟩]⟩ -- Enable mask

/-- Entry table of raiseTimes: index 2F02, 1 instance. -/
def dRaiseTimes : Obj := ⟨0x2F02, 1, [
  ⟨0x00, 0x00, .u8, .const, 0, .any, 0x07⟩, -- Highest subindex
  ⟨0x01, 0x07, .time, .ro, 1, .any, 0⟩]⟩ -- Raise time, reason 0..6

/-- Entry table of characterisation: index 2F03, 1 instance. -/
def dCharacterisation : Obj := ⟨0x2F03, 1, [
  ⟨0x00, 0x00, .u8, .const, 0, .any, 0x10⟩, -- Highest subindex
  ⟨0x01, 0x10, .f32, .const, 0, .any, 0⟩]⟩ -- Predicted index, voltage v, temperature t

/-- Entry table of histograms: index 2F08, 1 instance. -/
def dHistograms : Obj := ⟨0x2F08, 1, [
  ⟨0x00, 0x00, .u8, .const, 0, .any, 0x03⟩, -- Highest subindex
  ⟨0x01, 0x03, .octets, .ro, 1, (.len 0 128), 0⟩]⟩ -- Die temperature, input voltage, speed index histograms

/-- Entry table of lifetime: index 2F10, 1 instance. -/
def dLifetime : Obj := ⟨0x2F10, 1, [
  ⟨0x00, 0x00, .u8, .const, 0, .any, 0x0A⟩, -- Highest subindex
  ⟨0x01, 0x01, .u64, .ro, 17, .any, 0⟩, -- Operating time
  ⟨0x02, 0x02, .u32, .ro, 17, .any, 0⟩, -- Operating hours
  ⟨0x03, 0x03, .u32, .ro, 17, .any, 0⟩, -- Power cycles
  ⟨0x04, 0x04, .u32, .ro, 17, .any, 0⟩, -- Brown-outs
  ⟨0x05, 0x05, .u32, .ro, 17, .any, 0⟩, -- Watchdog resets
  ⟨0x06, 0x06, .u32, .ro, 17, .any, 0⟩, -- Signatures
  ⟨0x07, 0x07, .u32, .ro, 17, .any, 0⟩, -- Calibrations
  ⟨0x08, 0x08, .time, .ro, 17, .any, 0⟩, -- First power-up
  ⟨0x09, 0x09, .time, .ro, 17, .any, 0⟩, -- First switch-over to backup
  ⟨0x0A, 0x0A, .time, .ro, 17, .any, 0⟩]⟩ -- Last flush

/-- Entry table of pathLife: index 2F14, 4 instances. -/
def dPathLife : Obj := ⟨0x2F14, 4, [
  ⟨0x00, 0x00, .u8, .const, 0, .any, 0x04⟩, -- Highest subindex
  ⟨0x01, 0x01, .u64, .ro, 1, .any, 0⟩, -- Error frames
  ⟨0x02, 0x02, .u32, .ro, 1, .any, 0⟩, -- Bus-off events
  ⟨0x03, 0x03, .u32, .ro, 1, .any, 0⟩, -- Basket lost on failure
  ⟨0x04, 0x04, .u32, .ro, 1, .any, 0⟩]⟩ -- Self-test failure time

/-- Entry table of regionLife: index 2F18, 10 instances. -/
def dRegionLife : Obj := ⟨0x2F18, 10, [
  ⟨0x00, 0x00, .u8, .const, 0, .any, 0x03⟩, -- Highest subindex
  ⟨0x01, 0x01, .u64, .ro, 1, .any, 0⟩, -- Page writes
  ⟨0x02, 0x02, .u64, .ro, 1, .any, 0⟩, -- Corrected errors
  ⟨0x03, 0x03, .u64, .ro, 1, .any, 0⟩]⟩ -- Word reads

/-- Entry table of errorRate: index 2F24, 1 instance. -/
def dErrorRate : Obj := ⟨0x2F24, 1, [
  ⟨0x00, 0x00, .u8, .const, 0, .any, 0x03⟩, -- Highest subindex
  ⟨0x01, 0x01, .u64, .ro, 1, .any, 0⟩, -- Word reads, 30 days
  ⟨0x02, 0x02, .u64, .ro, 1, .any, 0⟩, -- Corrected errors, 30 days
  ⟨0x03, 0x03, .f32, .ro, 0, .any, 0x0⟩]⟩ -- Rate

/-- Entry table of drift: index 2F28, 8 instances. -/
def dDrift : Obj := ⟨0x2F28, 8, [
  ⟨0x00, 0x00, .u8, .const, 0, .any, 0x06⟩, -- Highest subindex
  ⟨0x01, 0x01, .i32, .const, 0, .any, 0⟩, -- Zero baseline
  ⟨0x02, 0x02, .i32, .const, 0, .any, 0⟩, -- Reference baseline
  ⟨0x03, 0x03, .f32, .ro, 1, .any, 0x7fc00000⟩, -- Zero mean, 30 days
  ⟨0x04, 0x04, .f32, .ro, 1, .any, 0x7fc00000⟩, -- Reference mean, 30 days
  ⟨0x05, 0x05, .u32, .ro, 1, .any, 0⟩, -- Conversions, 30 days
  ⟨0x06, 0x06, .u8, .ro, 0, .any, 0⟩]⟩ -- Drift status

/-- Entry table of power: index 3000, 1 instance. -/
def dPower : Obj := ⟨0x3000, 1, [
  ⟨0x00, 0x00, .u8, .const, 0, .any, 0x0E⟩, -- Highest subindex
  ⟨0x01, 0x01, .u8, .ro, 0, .any, 0⟩, -- Power state
  ⟨0x02, 0x02, .u8, .rw, 3, (.enum 0 1), 0⟩, -- State request
  ⟨0x03, 0x03, .u32, .rw, 35, (.nat 1000 3600000 1), 10000⟩, -- Quiet loop limit
  ⟨0x04, 0x04, .f32, .ro, 0, .any, 0x7fc00000⟩, -- Input voltage
  ⟨0x05, 0x05, .f32, .ro, 0, .any, 0x7fc00000⟩, -- Hold voltage
  ⟨0x06, 0x06, .f32, .ro, 0, .any, 0x7fc00000⟩, -- Port rail voltage
  ⟨0x07, 0x07, .f32, .ro, 0, .any, 0x7fc00000⟩, -- Port rail power
  ⟨0x08, 0x08, .u16, .ro, 0, .any, 0x0000⟩, -- Supply status
  ⟨0x09, 0x09, .f32, .rw, 35, (.flo (9000) 30000), 0x41200000⟩, -- Supply warning threshold
  ⟨0x0A, 0x0A, .bool, .rw, 35, .any, 1⟩, -- Converter spread
  ⟨0x0B, 0x0B, .f32, .ro, 0, .any, 0x7fc00000⟩, -- High-voltage die temperature
  ⟨0x0C, 0x0C, .u32, .ro, 0, .any, 0⟩, -- Brown-outs
  ⟨0x0D, 0x0D, .u32, .ro, 0, .any, 0⟩, -- Last brown-out duration
  ⟨0x0E, 0x0E, .u32, .ro, 1, .any, 0⟩]⟩ -- Thermal shutdowns

/-- Entry table of backup: index 3001, 1 instance. -/
def dBackup : Obj := ⟨0x3001, 1, [
  ⟨0x00, 0x00, .u8, .const, 0, .any, 0x0B⟩, -- Highest subindex
  ⟨0x01, 0x01, .u8, .rw, 3, (.enum 0 2), 1⟩, -- Backup kind
  ⟨0x02, 0x02, .f32, .ro, 0, .any, 0x7fc00000⟩, -- Backup voltage
  ⟨0x03, 0x03, .f32, .rw, 35, (.flo (2100) 3300), 0x4019999a⟩, -- Low threshold
  ⟨0x04, 0x04, .u8, .ro, 0, .any, 0x00⟩, -- Backup status
  ⟨0x05, 0x05, .u32, .ro, 1, .any, 0⟩, -- Switch-overs
  ⟨0x06, 0x06, .time, .ro, 1, .any, 0⟩, -- Last switch-over
  ⟨0x07, 0x07, .time, .ro, 1, .any, 0⟩, -- Last return
  ⟨0x08, 0x08, .u64, .ro, 1, .any, 0⟩, -- Time on backup
  ⟨0x09, 0x09, .u32, .ro, 1, .any, 0⟩, -- Longest backup
  ⟨0x0A, 0x0A, .u32, .ro, 1, .any, 0⟩, -- Retention losses
  ⟨0x0B, 0x0B, .bool, .ro, 1, .any, 0⟩]⟩ -- First switch-over trusted

/-- Entry table of scratch: index 3002, 1 instance. -/
def dScratch : Obj := ⟨0x3002, 1, [
  ⟨0x00, 0x00, .u8, .const, 0, .any, 0x01⟩, -- Highest subindex
  ⟨0x01, 0x01, .octets, .rw, 0, (.len 32 32), 0⟩]⟩ -- Scratch

end Sys2Proof.Machine
end

