-- ==== Sys2Proof/Machine/Dict.lean ====
section
/-! DEFINITION. The whole object dictionary (R81) and the lookups on it. -/

namespace Sys2Proof.Machine

/-- Every object of the index map (R81). -/
def objects : List Obj := [
  dPubMap, dSubMap, dIdent, dKdp, dPort, dPortX, dConv, dConvX,
  dSync, dLane, dLaneX, dCal, dCapture, dConvCal, dLaneCal, dMeter,
  dMeterX, dCounter, dTariff, dBilled, dInterval, dFluid, dLoop, dLoopX,
  dGainTable, dGroup, dRampRate, dHandOvers, dRampCount, dRepetitive, dTrace, dZone,
  dZoneX, dRecordRing, dSealStore, dKiln, dKeys, dAttest, dAuditLog, dTamper,
  dSlot, dUpdate, dBoot, dAddress, dTiming, dBasket, dPath, dTripRx,
  dBridge, dRoutes, dForwardMaps, dRxMail, dTxMail, dTime, dTrim, dLocalTime,
  dExceptions, dAlarm, dNetTime, dProgram, dStorage, dTestPages, dPageInspect, dDisplay,
  dBands, dWaveforms, dWindow, dMetroWindow, dIndicatorPick, dIndicator, dHealth, dThresholds,
  dRaiseTimes, dCharacterisation, dHistograms, dLifetime, dPathLife, dRegionLife, dErrorRate, dDrift,
  dPower, dBackup, dScratch]

/-- The first object that holds an index, with the index's instance number in it. -/
def findObj : List Obj → Nat → Option (Obj × Nat)
  | [], _ => none
  | o :: os, i => if o.base ≤ i ∧ i < o.base + o.count then some (o, i - o.base) else findObj os i

/-- The object implemented at an index (R37, R81); none aborts with 0x0101. -/
def objAt (index : Nat) : Option (Obj × Nat) := findObj objects index

/-- The row of a subindex in a list of rows. -/
def findRow : List Row → Nat → Option Row
  | [], _ => none
  | r :: rs, sub => if r.lo ≤ sub ∧ sub ≤ r.hi then some r else findRow rs sub

/-- The row of an entry (R37); none where the index or the subindex is not implemented. -/
def rowAt (index sub : Nat) : Option Row :=
  match objAt index with
  | some (o, _) => findRow o.rows sub
  | none => none

/-- One number for one entry: index times 256 plus subindex. -/
def keyOf (index sub : Nat) : Nat := index * 256 + sub

end Sys2Proof.Machine
end

