-- ==== Sys2Proof/Machine/Hash.lean ====
section
/-! DEFINITION. The hash and check functions the spec names: SHA-256 (R278, R281, R285), CRC-32C (R76, R206, R404, R410)
and CRC-32 of IEEE 802.3 (R431). SHA-256 and the CRC-32C polynomial are named by the spec and taken from their
standards (log entry 6). -/

namespace Sys2Proof.Machine

abbrev W32 := BitVec 32

/-- The greatest `r` with `r ^ k ≤ n`, its binary places found from the highest down; `bits` bounds their number. -/
def rootFrom (k n : Nat) : Nat → Nat → Nat
  | 0, r => r
  | bits + 1, r => rootFrom k n bits (if (r + 2 ^ bits) ^ k ≤ n then r + 2 ^ bits else r)
/-- The first 32 places after the point of the `k`-th root of `p` (`p < 512`). -/
def rootFraction (k p : Nat) : W32 := BitVec.ofNat 32 (rootFrom k (p * 2 ^ (32 * k)) 37 0)
/-- The 64 primes below 312. -/
def shaPrimes : List Nat :=
  (List.range 312).filter fun n => decide (2 ≤ n) && (List.range 16).all (fun d => decide (d + 2 ≥ n) || n % (d + 2) != 0)
/-- The round constants of SHA-256, as its standard defines them: fractions of the primes' cube roots. -/
def shaK : List W32 := shaPrimes.map (rootFraction 3)
/-- The initial hash value: fractions of the first eight primes' square roots. -/
def shaH0 : List W32 := (shaPrimes.take 8).map (rootFraction 2)

/-- Big-endian bytes of a natural number. -/
def beBytes (k n : Nat) : Bytes := (leBytes k n).reverse
/-- The 512-bit padding of a message. -/
def shaPad (m : Bytes) : Bytes :=
  m ++ byte 0x80 :: (List.replicate ((119 - m.length % 64) % 64) (byte 0) ++ beBytes 8 (8 * m.length))

/-- Big-endian 32-bit words of a byte string. -/
def beWords : Bytes → List W32
  | a :: b :: c :: d :: r => BitVec.ofNat 32 (((a.toNat * 256 + b.toNat) * 256 + c.toNat) * 256 + d.toNat) :: beWords r
  | _ => []

def sig0 (x : W32) : W32 := x.rotateRight 7 ^^^ x.rotateRight 18 ^^^ (x >>> 3)
def sig1 (x : W32) : W32 := x.rotateRight 17 ^^^ x.rotateRight 19 ^^^ (x >>> 10)

/-- The message schedule, newest word first: 48 words are added to the first 16. -/
def shaExtend : Nat → List W32 → List W32
  | 0, w => w
  | k + 1, w => shaExtend k ((sig1 (w.getD 1 0) + w.getD 6 0 + sig0 (w.getD 14 0) + w.getD 15 0) :: w)

/-- One round on the eight working words. -/
def shaRound (s : List W32) (kw : W32) : List W32 :=
  match s with
  | [a, b, c, d, e, f, g, h] =>
    let t1 := h + (e.rotateRight 6 ^^^ e.rotateRight 11 ^^^ e.rotateRight 25) + ((e &&& f) ^^^ (~~~e &&& g)) + kw
    let t2 := (a.rotateRight 2 ^^^ a.rotateRight 13 ^^^ a.rotateRight 22) + ((a &&& b) ^^^ (a &&& c) ^^^ (b &&& c))
    [t1 + t2, a, b, c, d + t1, e, f, g]
  | _ => s

/-- One compression. -/
def shaBlock (h : List W32) (block : List W32) : List W32 :=
  let w := (shaExtend 48 block.reverse).reverse
  List.zipWith (· + ·) h ((List.zipWith (· + ·) w shaK).foldl shaRound h)

/-- The blocks of a padded message; the first argument bounds their number. -/
def shaBlocks : Nat → List W32 → List W32 → List W32
  | 0, h, _ => h
  | k + 1, h, ws => if ws.isEmpty then h else shaBlocks k (shaBlock h (ws.take 16)) (ws.drop 16)

/-- SHA-256 of a byte string, 32 bytes. -/
def sha256 (m : Bytes) : Bytes :=
  let p := shaPad m
  (shaBlocks (p.length / 64) shaH0 (beWords p)).flatMap (fun w => beBytes 4 w.toNat)

/-- One reflected CRC step on one bit. -/
def crcBit (poly : W32) (c : W32) : W32 := if c.getLsbD 0 then (c >>> 1) ^^^ poly else c >>> 1
/-- `k` bit steps. -/
def crcBits (poly : W32) : Nat → W32 → W32
  | 0, c => c
  | k + 1, c => crcBits poly k (crcBit poly c)
/-- A reflected CRC-32 with initial and final value 0xFFFFFFFF. -/
def crcWith (poly : W32) (m : Bytes) : W32 :=
  ~~~(m.foldl (fun c b => crcBits poly 8 (c ^^^ b.setWidth 32)) 0xFFFFFFFF#32)
/-- CRC-32C (Castagnoli, reflected). -/
def crc32c (m : Bytes) : W32 := crcWith 0x82F63B78#32 m
/-- CRC-32 of IEEE 802.3, reflected (R431). -/
def crc32 (m : Bytes) : W32 := crcWith 0xEDB88320#32 m

end Sys2Proof.Machine
end

