-- ==== Sys2Proof/Machine/Fp.lean ====
section
/-! DEFINITION. IEEE 754 binary32 and binary64 arithmetic (R38, R156, R227), exact and rounded once to nearest even.
A value is read from its bits, each operation is computed exactly and `roundRat` rounds it. Inside the model every
NaN is the one quiet NaN `nan32` or `nan64`; which NaN bits stand on the wire is left free (log entry 5). -/

namespace Sys2Proof.Machine

/-- A binary format: precision `p` with the hidden bit, and the bias. -/
structure Fmt where
  p    : Nat
  bias : Nat
  deriving DecidableEq, Repr

def fmt32 : Fmt := ⟨24, 127⟩
def fmt64 : Fmt := ⟨53, 1023⟩

/-- What the bits of a format say: `fin s m e` is `± m · 2 ^ e`. -/
inductive FpVal where
  | nan
  | inf (neg : Bool)
  | fin (neg : Bool) (m : Nat) (e : Int)
  deriving DecidableEq, Repr

/-- The exponent of the least subnormal. -/
def Fmt.emin (f : Fmt) : Int := 2 - (f.bias : Int) - (f.p : Int)
/-- The magnitude bits of an infinity. -/
def Fmt.infBits (f : Fmt) : Nat := (2 * f.bias + 1) * 2 ^ (f.p - 1)
/-- The sign bit's weight. -/
def Fmt.signBit (f : Fmt) : Nat := (2 * f.bias + 2) * 2 ^ (f.p - 1)
/-- The canonical quiet NaN. -/
def Fmt.nanBits (f : Fmt) : Nat := f.infBits + 2 ^ (f.p - 2)

/-- Reads a bit pattern. -/
def Fmt.unpack (f : Fmt) (b : Nat) : FpVal :=
  let neg := decide (f.signBit ≤ b)
  let mag := b % f.signBit
  let ex := mag / 2 ^ (f.p - 1)
  let fr := mag % 2 ^ (f.p - 1)
  if f.infBits < mag then .nan
  else if mag = f.infBits then .inf neg
  else if ex = 0 then .fin neg fr f.emin
  else .fin neg (fr + 2 ^ (f.p - 1)) (f.emin + (ex : Int) - 1)

/-- The magnitude bits of `num / den` rounded to nearest, ties to even; infinity on overflow. -/
def Fmt.roundMag (f : Fmt) (num den : Nat) : Nat :=
  if num = 0 ∨ den = 0 then 0 else
  let l : Int := (Nat.log2 num : Int) - (Nat.log2 den : Int)
  let scale (e : Int) : Nat × Nat := if 0 ≤ e then (num, den * 2 ^ e.toNat) else (num * 2 ^ (-e).toNat, den)
  let e0 := max (l - f.p) f.emin
  let (n0, d0) := scale e0
  let e := if n0 / d0 ≥ 2 ^ f.p then e0 + 1 else e0
  let (n, d) := scale e
  let q := n / d
  let r := n % d
  let q' := if 2 * r > d ∨ (2 * r = d ∧ q % 2 = 1) then q + 1 else q
  let bits := if q' < 2 ^ (f.p - 1) then q' else (e - f.emin).toNat * 2 ^ (f.p - 1) + q'
  min bits f.infBits

/-- Packs a sign and magnitude bits. -/
def Fmt.sgn (f : Fmt) (neg : Bool) (mag : Nat) : Nat := if neg then f.signBit + mag else mag

/-- Rounds an exact value. -/
def Fmt.pack (f : Fmt) : FpVal → Nat
  | .nan => f.nanBits
  | .inf s => f.sgn s f.infBits
  | .fin s m e => f.sgn s (if 0 ≤ e then f.roundMag (m * 2 ^ e.toNat) 1 else f.roundMag m (2 ^ (-e).toNat))

/-- Rounds the rational `num / den`. -/
def Fmt.ofRat (f : Fmt) (num : Int) (den : Nat) : Nat := f.sgn (decide (num < 0)) (f.roundMag num.natAbs den)

/-- Exact negation. -/
def FpVal.neg : FpVal → FpVal
  | .nan => .nan
  | .inf s => .inf (!s)
  | .fin s m e => .fin (!s) m e

/-- The signed mantissa of a finite value. -/
def signedM (s : Bool) (m : Nat) : Int := if s then -(m : Int) else m

/-- Exact sum; an exact zero of unlike signs is `+0`. -/
def FpVal.add : FpVal → FpVal → FpVal
  | .nan, _ => .nan
  | _, .nan => .nan
  | .inf s, .inf t => if s = t then .inf s else .nan
  | .inf s, .fin _ _ _ => .inf s
  | .fin _ _ _, .inf t => .inf t
  | .fin s m e, .fin t n g =>
    let k := min e g
    let z := signedM s m * 2 ^ (e - k).toNat + signedM t n * 2 ^ (g - k).toNat
    if z = 0 then .fin (s && t) 0 k else .fin (decide (z < 0)) z.natAbs k

/-- Exact product. -/
def FpVal.mul : FpVal → FpVal → FpVal
  | .nan, _ => .nan
  | _, .nan => .nan
  | .inf s, .inf t => .inf (s != t)
  | .inf s, .fin t n _ => if n = 0 then .nan else .inf (s != t)
  | .fin s m _, .inf t => if m = 0 then .nan else .inf (s != t)
  | .fin s m e, .fin t n g => .fin (s != t) (m * n) (e + g)

/-- The rounded quotient's bits. -/
def Fmt.quot (f : Fmt) : FpVal → FpVal → Nat
  | .nan, _ => f.nanBits
  | _, .nan => f.nanBits
  | .inf _, .inf _ => f.nanBits
  | .inf s, .fin t _ _ => f.sgn (s != t) f.infBits
  | .fin s _ _, .inf t => f.sgn (s != t) 0
  | .fin s m e, .fin t n g =>
    if n = 0 then (if m = 0 then f.nanBits else f.sgn (s != t) f.infBits)
    else f.sgn (s != t) (if g ≤ e then f.roundMag (m * 2 ^ (e - g).toNat) n else f.roundMag m (n * 2 ^ (g - e).toNat))

/-- The exact order of two values; `none` where one is NaN. -/
def FpVal.cmp : FpVal → FpVal → Option Ordering
  | .nan, _ => none
  | _, .nan => none
  | .inf s, .inf t => some (if s = t then .eq else if s then .lt else .gt)
  | .inf s, .fin _ _ _ => some (if s then .lt else .gt)
  | .fin _ _ _, .inf t => some (if t then .gt else .lt)
  | .fin s m e, .fin t n g =>
    let k := min e g
    some (compare (signedM s m * 2 ^ (e - k).toNat) (signedM t n * 2 ^ (g - k).toNat))

/-- A finite value as a fraction. -/
def FpVal.toRat : FpVal → Option (Int × Nat)
  | .fin s m e => some (if 0 ≤ e then (signedM s m * 2 ^ e.toNat, 1) else (signedM s m, 2 ^ (-e).toNat))
  | _ => none

/-! ### binary32 -/

def nan32 : F32 := BitVec.ofNat 32 fmt32.nanBits
def v32 (x : F32) : FpVal := fmt32.unpack x.toNat
def f32Of (n : Nat) : F32 := BitVec.ofNat 32 n
/-- The rational `n / d` rounded once to binary32 (log 26). -/
def f32 (n : Int) (d : Nat := 1) : F32 := f32Of (fmt32.ofRat n d)
def fadd (x y : F32) : F32 := f32Of (fmt32.pack ((v32 x).add (v32 y)))
def fsub (x y : F32) : F32 := f32Of (fmt32.pack ((v32 x).add (v32 y).neg))
def fmul (x y : F32) : F32 := f32Of (fmt32.pack ((v32 x).mul (v32 y)))
def fdiv (x y : F32) : F32 := f32Of (fmt32.quot (v32 x) (v32 y))
def fneg (x : F32) : F32 := f32Of (fmt32.pack (v32 x).neg)
def fabs (x : F32) : F32 := if x.toNat < fmt32.signBit then x else fneg x
def flt (x y : F32) : Bool := (v32 x).cmp (v32 y) == some .lt
def fle (x y : F32) : Bool := (v32 x).cmp (v32 y) == some .lt || (v32 x).cmp (v32 y) == some .eq
def feq (x y : F32) : Bool := (v32 x).cmp (v32 y) == some .eq
def fIsNaN (x : F32) : Bool := (v32 x) == .nan
/-- Neither a NaN nor an infinity (R39). -/
def fFinite (x : F32) : Bool := (v32 x).toRat.isSome
/-- `clamp(x, lo, hi)` of R228 to R258. -/
def fclamp (x lo hi : F32) : F32 := if flt x lo then lo else if flt hi x then hi else x
def fmin (x y : F32) : F32 := if flt y x then y else x

/-! ### binary64 -/

def nan64 : F64 := BitVec.ofNat 64 fmt64.nanBits
def v64 (x : F64) : FpVal := fmt64.unpack x.toNat
def f64Of (n : Nat) : F64 := BitVec.ofNat 64 n
/-- The rational `n / d` rounded once to binary64. -/
def f64 (n : Int) (d : Nat := 1) : F64 := f64Of (fmt64.ofRat n d)
def dadd (x y : F64) : F64 := f64Of (fmt64.pack ((v64 x).add (v64 y)))
def dsub (x y : F64) : F64 := f64Of (fmt64.pack ((v64 x).add (v64 y).neg))
def dmul (x y : F64) : F64 := f64Of (fmt64.pack ((v64 x).mul (v64 y)))
def ddiv (x y : F64) : F64 := f64Of (fmt64.quot (v64 x) (v64 y))
def dneg (x : F64) : F64 := f64Of (fmt64.pack (v64 x).neg)
def dabs (x : F64) : F64 := if x.toNat < fmt64.signBit then x else dneg x
def dlt (x y : F64) : Bool := (v64 x).cmp (v64 y) == some .lt
def dle (x y : F64) : Bool := (v64 x).cmp (v64 y) == some .lt || (v64 x).cmp (v64 y) == some .eq
def dIsNaN (x : F64) : Bool := (v64 x) == .nan
/-- binary32 widened exactly to binary64. -/
def toF64 (x : F32) : F64 := f64Of (fmt64.pack (v32 x))
/-- binary64 rounded to binary32. -/
def toF32 (x : F64) : F32 := f32Of (fmt32.pack (v64 x))

/-- Floor of a fraction. -/
def floorRat (n : Int) (d : Nat) : Int := n.fdiv d
/-- `num / den` rounded to the nearest integer, halves away from zero (R180). -/
def roundAway (n : Int) (d : Nat) : Int :=
  let q := (2 * n.natAbs + d) / (2 * d)
  if n < 0 then -(q : Int) else q
/-- A binary64 value rounded to the nearest integer, halves away from zero; 0 where it is not finite. -/
def droundAway (x : F64) : Int := match (v64 x).toRat with | some (n, d) => roundAway n d | none => 0
/-- A binary64 value truncated to an integer below; 0 where it is not finite. -/
def dfloor (x : F64) : Int := match (v64 x).toRat with | some (n, d) => floorRat n d | none => 0

/-- Integer square root by bits: the greatest `r` with `r * r ≤ n`, for `n < 4 ^ k`. -/
def isqrtBits : Nat → Nat → Nat → Nat
  | 0, _, r => r
  | k + 1, n, r => let c := r + 2 ^ k; isqrtBits k n (if c * c ≤ n then c else r)
def isqrt (n : Nat) : Nat := isqrtBits (Nat.log2 n / 2 + 1) n 0

end Sys2Proof.Machine
end

