-- ==== Sys2Proof/Machine/Maths.lean ====
section
/-! DEFINITION. The mathematical functions the spec names (log 8): logarithm and cosine (R88, R156), sensor curves (R88), and water by
IAPWS-IF97 (R196). Each is computed in integers far beyond binary64 and rounded once. -/

namespace Sys2Proof.Machine

/-! ## Fixed point -/

/-- One in fixed point. -/
def fixOne : Int := 2 ^ 256
/-- A fraction in fixed point. -/
def toFix (n : Int) (d : Nat) : Int := (n * fixOne).fdiv d
/-- Product in fixed point. -/
def fixMul (x y : Int) : Int := (x * y).fdiv fixOne
/-- A fixed-point value rounded to binary64. -/
def ofFix (x : Int) : F64 := f64 x (2 ^ 256)
/-- Square root of a fixed-point value that is not negative. -/
def fixSqrt (x : Int) : Int := isqrt (x.toNat * 2 ^ 256)

/-- Sum of a series: each step gives the next summand and the next power. -/
def series (step : Nat → Int → Int × Int) (n : Nat) (first : Int) : Int :=
  ((List.range n).foldl (fun (a : Int × Int) k => let (t, p) := step k a.2; (a.1 + t, p)) (0, first)).1

/-- Inverse hyperbolic tangent of a value between −1/3 and 1/3. -/
def fixAtanh (z : Int) : Int := series (fun k p => (p / (2 * k + 1), fixMul p (fixMul z z))) 90 z

/-- Natural logarithm of a positive value; NaN for any other (R88). -/
def lnOf (x : F64) : F64 :=
  match (v64 x).toRat with
  | some (n, d) =>
    if n ≤ 0 then nan64
    else
      let e : Int := (Nat.log2 n.toNat : Int) - (Nat.log2 d : Int)
      let a : Nat := if e < 0 then n.toNat * 2 ^ (-e).toNat else n.toNat
      let b : Nat := if e < 0 then d else d * 2 ^ e.toNat
      ofFix (2 * fixAtanh (toFix ((a : Int) - b) (a + b)) + 2 * e * fixAtanh (toFix 1 3))
  | none => nan64

/-- Cosine of an angle of at most a right angle (R156). -/
def cosOf (x : F64) : F64 :=
  match (v64 x).toRat with
  | some (n, d) =>
    let z := fixMul (toFix n d) (toFix n d)
    ofFix (series (fun k p => (p, -(fixMul p z) / ((2 * k + 1) * (2 * k + 2)))) 40 fixOne)
  | none => nan64

/-! ## Sensor curves -/

/-- The greatest value, counted from `lo` in `bits` binary places, that a test accepts. -/
def greatest (ok : Int → Bool) : Nat → Int → Int
  | 0, lo => lo
  | b + 1, lo => greatest ok b (if ok (lo + 2 ^ b) then lo + 2 ^ b else lo)

/-- The temperature at which a rising curve reaches a resistance ratio: `curve` gives the ratio, times `unit`, of a temperature in
2^−50 K. -/
def curveTemp (curve : Int → Int) (unit : Nat) (ratio : F64) : F64 :=
  match (v64 ratio).toRat with
  | some (n, d) => f64 (greatest (fun k => decide (curve k * d ≤ n * unit)) 61 (-256 * 2 ^ 50)) (2 ^ 50)
  | none => nan64

/-- IEC 60751: 1 + 3.9083e−3 t − 5.775e−7 t², below 0 °C with −4.183e−12 (t − 100) t³ more. -/
def platinumTemp (ratio : F64) : F64 :=
  curveTemp (fun k => 10 ^ 15 * 2 ^ 200 + 39083 * 10 ^ 8 * 2 ^ 150 * k - 5775 * 10 ^ 5 * 2 ^ 100 * (k * k)
    - (if k < 0 then 4183 * (k - 100 * 2 ^ 50) * (k * k * k) else 0)) (10 ^ 15 * 2 ^ 200) ratio

/-- DIN 43760: 1 + 5.485e−3 t + 6.65e−6 t² + 2.805e−11 t⁴ − 2e−17 t⁶. -/
def nickelTemp (ratio : F64) : F64 :=
  curveTemp (fun k => 10 ^ 17 * 2 ^ 300 + 5485 * 10 ^ 11 * 2 ^ 250 * k + 665 * 10 ^ 9 * 2 ^ 200 * (k * k)
    + 2805 * 10 ^ 3 * 2 ^ 100 * (k * k * (k * k)) - 2 * (k * k * (k * k) * (k * k))) (10 ^ 17 * 2 ^ 300) ratio

/-! ## Water by IAPWS-IF97 (R196) -/

/-- Integer power of a positive fraction in fixed point. -/
def fixPow (n d : Nat) (j : Int) : Int := if 0 ≤ j then toFix (n ^ j.toNat : Nat) (d ^ j.toNat) else toFix (d ^ (-j).toNat : Nat) (n ^ (-j).toNat)

/-- Region 1, equation 7: exponents I and J, and n as a whole number with its power of ten. -/
def waterTermsLow : List (Nat × Int × Int × Nat) := [
  (0, -2, 14632971213167, 14), (0, -1, -84548187169114, 14), (0, 0, -37563603672040, 13), (0, 1, 33855169168385, 13),
  (0, 2, -95791963387872, 14), (0, 3, 15772038513228, 14), (0, 4, -16616417199501, 15), (0, 5, 81214629983568, 17),
  (1, -9, 28319080123804, 17), (1, -7, -60706301565874, 17), (1, -1, -18990068218419, 15), (1, 0, -32529748770505, 15),
  (1, 1, -21841717175414, 15), (1, 3, -52838357969930, 18), (2, -3, -47184321073267, 17), (2, 0, -30001780793026, 17),
  (2, 1, 47661393906987, 18)]
/-- Its terms 18 to 34. -/
def waterTermsHigh : List (Nat × Int × Int × Nat) := [
  (2, 3, -44141845330846, 19), (2, 17, -72694996297594, 29), (3, -4, -31679644845054, 18), (3, 0, -28270797985312, 19),
  (3, 6, -85205128120103, 23), (4, -5, -22425281908000, 19), (4, -2, -65171222895601, 20), (4, 10, -14341729937924, 26),
  (5, -8, -40516996860117, 20), (8, -11, -12734301741641, 22), (8, -6, -17424871230634, 23), (21, -29, -68762131295531, 32),
  (23, -31, 14478307828521, 33), (29, -38, 26335781662795, 36), (30, -39, -11947622640071, 36), (31, -40, 18228094581404, 37),
  (32, -41, -93537087292458, 39)]

/-- A state of water: pressure in MPa and temperature in K, as fractions. -/
structure WaterAt where
  pn : Nat
  pd : Nat
  tn : Nat
  td : Nat

/-- The state at a temperature in °C and a pressure in MPa; none where one is no positive number. -/
def waterAt (t p : F64) : Option WaterAt :=
  match (v64 t).toRat, (v64 p).toRat with
  | some (a, b), some (c, d) =>
    let k := 100 * a + 27315 * b
    if 0 < k ∧ 0 < c then some ⟨c.toNat, d, k.toNat, 100 * b⟩ else none
  | _, _ => none

/-- Sum over the terms of region 1: `f` gives a term's factor and how the exponents of 7.1 − π and τ − 1.222 fall. The fluid's range
keeps both positive. -/
def waterSum (w : WaterAt) (f : Nat → Int → Int) (di : Nat) (dj : Int) : Int :=
  let an := 71 * 1653 * w.pd - 1000 * w.pn
  let ad := 16530 * w.pd
  let bn := 1386000 * w.td - 1222 * w.tn
  let bd := 1000 * w.tn
  (waterTermsLow ++ waterTermsHigh).foldl (fun s x =>
    let (i, j, n, e) := x
    let c := f i j
    if c = 0 then s
    else s + (n * c * fixMul (fixPow an ad ((i : Int) - di)) (fixPow bn bd (j - dj))).fdiv (10 ^ e)) 0

/-- Density of water in kg/m³: 16.53 MPa over R T and the derivative of the free energy by π. -/
def waterDensity (t p : F64) : F64 :=
  match waterAt t p with
  | some w =>
    let g := -(waterSum w (fun i _ => i) 1 0)
    if 0 < g then f64 (16530000000 * w.td * fixOne) (461526 * w.tn * g.toNat) else nan64
  | none => nan64

/-- Specific enthalpy of water in kJ/kg: R times 1386 K times the derivative by τ. -/
def waterEnthalpy (t p : F64) : F64 :=
  match waterAt t p with
  | some w => f64 (461526 * 1386 * waterSum w (fun _ j => j) 0 1) (1000000 * 2 ^ 256)
  | none => nan64

/-- Saturation temperature of water in °C at a pressure in MPa: region 4, equation 31. -/
def waterSaturation (p : F64) : F64 :=
  match (v64 p).toRat with
  | some (n, d) =>
    if n ≤ 0 then nan64
    else
      let c (n : Int) (e : Nat) : Int := toFix n (10 ^ e)
      let b2 := fixSqrt (toFix n d)
      let b := fixSqrt b2
      let e := b2 + fixMul (c (-17073846940092) 12) b + c 14915108613530 12
      let f := fixMul (c 11670521452767 10) b2 + fixMul (c 12020824702470 9) b + c (-48232657361591) 10
      let g := fixMul (c (-72421316703206) 8) b2 + fixMul (c (-32325550322333) 7) b + c 40511340542057 8
      let x := toFix (2 * g) (fixSqrt (fixMul f f - 4 * fixMul e g) + f).toNat
      let s := c 65017534844798 11 - x
      let r := fixMul s s - 4 * (c (-23855557567849) 14 - fixMul (c 65017534844798 11) x)
      ofFix ((s - fixSqrt r) / 2 - c 27315 2)
  | none => nan64

end Sys2Proof.Machine
end

