-- ==== Sys2Proof/Machine/Slh.lean ====
section
/-! DEFINITION. The signature scheme R294 names, SLH-DSA-SHA2-128s in pure mode: signing with 16 random bytes, verification and the
public key of a secret key, after the standard the rule cites (log 9). -/

namespace Sys2Proof.Machine

/-- A secret key of R300: SK.seed, SK.prf and PK.seed, 16 bytes each. -/
structure SlhKey where
  seed : Bytes
  prf : Bytes
  pub : Bytes

/-- Where a hash of the scheme stands: layer and tree of the hypertree, kind of hash, key pair, and two counters. -/
structure SlhPlace where
  layer : Nat
  tree : Nat
  kind : Nat
  pair : Nat
  c1 : Nat
  c2 : Nat

/-- The tweaked hash: 16 bytes of SHA-256 of the public seed filled to a block, the place in 22 bytes, and the message. -/
def slhHash (pub : Bytes) (p : SlhPlace) (m : Bytes) : Bytes :=
  (sha256 (pub ++ List.replicate 48 0 ++ beBytes 1 p.layer ++ beBytes 8 p.tree ++ beBytes 1 p.kind ++ beBytes 4 p.pair
    ++ beBytes 4 p.c1 ++ beBytes 4 p.c2 ++ m)).take 16

/-- HMAC with SHA-256 under a key of at most 64 bytes. -/
def hmac (key m : Bytes) : Bytes :=
  let pad (c : Byte) : Bytes := (key ++ List.replicate (64 - key.length) 0).map (· ^^^ c)
  sha256 (pad 0x5C ++ sha256 (pad 0x36 ++ m))

/-- The first `n` bytes of the mask generation from a seed. -/
def maskBytes (seed : Bytes) (n : Nat) : Bytes :=
  (((List.range ((n + 31) / 32)).map fun i => sha256 (seed ++ beBytes 4 i)).flatten).take n

/-- The value of big-endian bytes. -/
def beNat (b : Bytes) : Nat := leNat b.reverse

/-- `count` digits of `width` bits from the front of a byte string, the most significant first. -/
def digitsOf (b : Bytes) (width count : Nat) : List Nat :=
  (List.range count).map fun i => beNat b / 2 ^ (8 * b.length - width * (i + 1)) % 2 ^ width

/-! ## Binary hash trees -/

/-- The node at a height and index over given leaves. -/
def hashNode (leaf : Nat → Bytes) (join : Nat → Nat → Bytes → Bytes) : Nat → Nat → Bytes
  | 0, i => leaf i
  | z + 1, i => join (z + 1) i (hashNode leaf join z (2 * i) ++ hashNode leaf join z (2 * i + 1))

/-- The siblings on the way from leaf i to the root at a height. -/
def hashPath (leaf : Nat → Bytes) (join : Nat → Nat → Bytes → Bytes) (height i : Nat) : List Bytes :=
  (List.range height).map fun z => hashNode leaf join z (if i / 2 ^ z % 2 = 0 then i / 2 ^ z + 1 else i / 2 ^ z - 1)

/-- The root that a node at height z with index i and its siblings lead to. -/
def hashClimb (join : Nat → Nat → Bytes → Bytes) (z i : Nat) (x : Bytes) : List Bytes → Bytes
  | [] => x
  | y :: r => hashClimb join (z + 1) (i / 2) (join (z + 1) (i / 2) (if i % 2 = 0 then x ++ y else y ++ x)) r

/-- Cut a byte string into `k` pieces of 16 bytes. -/
def pieces (b : Bytes) (k : Nat) : List Bytes := (List.range k).map fun i => (b.drop (16 * i)).take 16

/-! ## One-time signatures: 35 chains of 15 steps -/

/-- Steps `from` to `to` of a chain. -/
def chainHash (pub : Bytes) (p : SlhPlace) (first last : Nat) (x : Bytes) : Bytes :=
  (List.range (last - first)).foldl (fun a j => slhHash pub { p with c2 := first + j } a) x

/-- The chain positions of 16 bytes: 32 digits and the three digits of their checksum. -/
def chainDigits (m : Bytes) : List Nat :=
  let d := digitsOf m 4 32
  let sum := (d.map fun x => 15 - x).sum
  d ++ [sum / 256, sum / 16 % 16, sum % 16]

/-- The start of chain i of a key pair. -/
def chainSecret (k : SlhKey) (layer tree pair i : Nat) : Bytes := slhHash k.pub ⟨layer, tree, 5, pair, i, 0⟩ k.seed

/-- The public key that 35 chain ends stand for. -/
def chainsKey (pub : Bytes) (layer tree pair : Nat) (ends : List Bytes) : Bytes :=
  slhHash pub ⟨layer, tree, 1, pair, 0, 0⟩ ends.flatten

/-- The public key of a key pair. -/
def pairKey (k : SlhKey) (layer tree pair : Nat) : Bytes :=
  chainsKey k.pub layer tree pair ((List.range 35).map fun i =>
    chainHash k.pub ⟨layer, tree, 0, pair, i, 0⟩ 0 15 (chainSecret k layer tree pair i))

/-! ## The hypertree: seven layers of trees of height 9 -/

/-- Join of a tree of key pairs. -/
def pairJoin (pub : Bytes) (layer tree z i : Nat) (m : Bytes) : Bytes := slhHash pub ⟨layer, tree, 2, 0, z, i⟩ m

/-- One layer's signature of 16 bytes with key pair `leaf`: the chains and the way to the root. -/
def layerSign (k : SlhKey) (layer tree leaf : Nat) (m : Bytes) : Bytes :=
  let chains := ((chainDigits m).zip (List.range 35)).map fun x =>
    chainHash k.pub ⟨layer, tree, 0, leaf, x.2, 0⟩ 0 x.1 (chainSecret k layer tree leaf x.2)
  (chains ++ hashPath (pairKey k layer tree) (pairJoin k.pub layer tree) 9 leaf).flatten

/-- The root that one layer's signature leads to. -/
def layerRoot (pub : Bytes) (layer tree leaf : Nat) (m sig : Bytes) : Bytes :=
  let ends := ((chainDigits m).zip ((List.range 35).zip (pieces sig 35))).map fun x =>
    chainHash pub ⟨layer, tree, 0, leaf, x.2.1, 0⟩ x.1 15 x.2.2
  hashClimb (pairJoin pub layer tree) 0 leaf (chainsKey pub layer tree leaf ends) (pieces (sig.drop 560) 9)

/-- The signatures of the layers from `layer` on, `n` of them. -/
def treesSign (k : SlhKey) : Nat → Nat → Nat → Nat → Bytes → Bytes
  | 0, _, _, _, _ => []
  | n + 1, layer, tree, leaf, m =>
    let s := layerSign k layer tree leaf m
    s ++ treesSign k n (layer + 1) (tree / 512) (tree % 512) (layerRoot k.pub layer tree leaf m s)

/-- The root that the layers' signatures lead to. -/
def treesRoot (pub : Bytes) : Nat → Nat → Nat → Nat → Bytes → Bytes → Bytes
  | 0, _, _, _, m, _ => m
  | n + 1, layer, tree, leaf, m, sig =>
    treesRoot pub n (layer + 1) (tree / 512) (tree % 512) (layerRoot pub layer tree leaf m sig) (sig.drop 704)

/-! ## The few-time signature: 14 trees of height 12 -/

/-- Secret of leaf i, counted over all the trees. -/
def fewSecret (k : SlhKey) (tree leaf i : Nat) : Bytes := slhHash k.pub ⟨0, tree, 6, leaf, 0, i⟩ k.seed
/-- Leaf of a secret. -/
def fewLeaf (pub : Bytes) (tree leaf i : Nat) (x : Bytes) : Bytes := slhHash pub ⟨0, tree, 3, leaf, 0, i⟩ x
/-- Join of these trees. -/
def fewJoin (pub : Bytes) (tree leaf z i : Nat) (m : Bytes) : Bytes := slhHash pub ⟨0, tree, 3, leaf, z, i⟩ m

/-- The leaves that a digest of 21 bytes opens, one in each tree, counted over all the trees. -/
def openedLeaves (d : Bytes) : List Nat := ((digitsOf d 12 14).zip (List.range 14)).map fun x => 4096 * x.2 + x.1

/-- The few-time signature of a digest. -/
def fewSign (k : SlhKey) (tree leaf : Nat) (d : Bytes) : Bytes :=
  ((openedLeaves d).map fun i => fewSecret k tree leaf i ++ (hashPath (fun j => fewLeaf k.pub tree leaf j (fewSecret k tree leaf j))
    (fewJoin k.pub tree leaf) 12 i).flatten).flatten

/-- The public key that a few-time signature leads to. -/
def fewKey (pub : Bytes) (tree leaf : Nat) (d sig : Bytes) : Bytes :=
  let roots := ((openedLeaves d).zip (List.range 14)).map fun x =>
    let part := (sig.drop (208 * x.2)).take 208
    hashClimb (fewJoin pub tree leaf) 0 x.1 (fewLeaf pub tree leaf x.1 (part.take 16)) (pieces (part.drop 16) 12)
  slhHash pub ⟨0, tree, 4, leaf, 0, 0⟩ roots.flatten

/-! ## The scheme -/

/-- PK.root of a secret key. -/
@[irreducible] def slhRoot (k : SlhKey) : Bytes := hashNode (pairKey k 6 0) (pairJoin k.pub 6 0) 9 0

/-- The public key of a secret key: PK.seed and PK.root (R301). -/
def slhPublic (k : SlhKey) : Bytes := k.pub ++ slhRoot k

/-- What a message digest selects: 21 bytes to sign, a tree of the lowest layer, a key pair in it. -/
def slhSelect (r key m : Bytes) : Bytes × Nat × Nat :=
  let seed := r ++ key.take 16
  let d := maskBytes (seed ++ sha256 (r ++ key ++ m)) 30
  (d.take 21, beNat ((d.drop 21).take 7) % 2 ^ 54, beNat (d.drop 28) % 512)

/-- The signature of a signing input with 16 random bytes (R294), 7 856 bytes. -/
@[irreducible] def slhSign (k : SlhKey) (m rand : Bytes) : Bytes :=
  let r := (hmac k.prf (rand ++ m)).take 16
  let (d, tree, leaf) := slhSelect r (slhPublic k) m
  let few := fewSign k tree leaf d
  r ++ few ++ treesSign k 7 0 tree leaf (fewKey k.pub tree leaf d few)

/-- Whether a signature of a signing input verifies under a public key (R294). -/
@[irreducible] def slhVerify (key m sig : Bytes) : Bool :=
  let (d, tree, leaf) := slhSelect (sig.take 16) key m
  let pub := key.take 16
  decide (sig.length = 7856)
    && treesRoot pub 7 0 tree leaf (fewKey pub tree leaf d ((sig.drop 16).take 2912)) (sig.drop 2928) == key.drop 16

end Sys2Proof.Machine
end

