-- ==== Sys2Proof/Machine/Made.lean ====
section
/-! DEFINITION. What is put in at manufacture: the key pairs, the device certificate (R304), the firmware image of slot 0 (R314), the
origin entry of the audit log (R308). What their tables leave to the maker is opaque (log 7, log 9, log 12, log 95). -/

namespace Sys2Proof.Machine

/-- A secret key from 48 bytes. -/
def secretOf (f : Nat → Byte) : SlhKey :=
  let b := bytesOf f 48
  ⟨b.take 16, (b.drop 16).take 16, b.drop 32⟩

/-- The key pair of the device (R300, R301). -/
def deviceKey : SlhKey := secretOf Config.deviceSecret
/-- 2C00.01, the device public key (R301). -/
def devicePublic : Bytes := slhPublic deviceKey
/-- 2C00.03, the Exlorex manufacturing public key. -/
def makerPublic : Bytes := slhPublic (secretOf Config.makerSecret)
/-- 2C00.04, the Exlorex firmware public key. -/
def firmwarePublic : Bytes := slhPublic (secretOf Config.firmwareSecret)

/-- The signing input of FIPS 205 pure mode with the context string of R294. -/
def signInput (m : Bytes) : Bytes := [0x00, 0x04, 0x54, 0x4A, 0x53, 0x31] ++ m

/-! ## The device certificate (R304) -/

/-- Bytes 0 to 255 of the certificate. A new device's security counter has no blown cell (log 12). -/
def certBody : Bytes :=
  leBytes 4 0x31434A54 ++ leBytes 2 1 ++ leBytes 1 0 ++ leBytes 1 0 ++ leBytes 16 Config.serial.toNat
    ++ leBytes 2 Config.hardwareIssue.toNat ++ leBytes 2 0 ++ leBytes 4 0 ++ leBytes 8 Config.certIssued.toNat
    ++ sha256 makerPublic ++ devicePublic ++ sha256 firmwarePublic
    ++ [0x55, 0x5A, 0x36, 0x34, 0x2D, 0x4C, 0x47, 0x2D, 0x45, 0, 0, 0, 0, 0, 0, 0] ++ List.replicate 104 0

/-- 2C00.02, the device certificate. -/
@[irreducible] def certificate : Bytes :=
  certBody ++ slhSign (secretOf Config.makerSecret) (signInput certBody) (leBytes 16 Config.certRandom.toNat)

/-! ## The firmware image put in at manufacture (R314) -/

/-- Its payload. -/
def factoryPayload : Bytes := bytesOf Config.factoryByte (1 + Config.factorySize.toNat)

/-- Its header: it names no logic die issue above the device's and has a security version from 0 up (log 12). -/
def factoryHeader : Bytes :=
  leBytes 4 0x31464A54 ++ leBytes 2 1 ++ leBytes 2 0 ++ leBytes 4 Config.factoryVersion.toNat ++ leBytes 2 Config.factorySecurity.toNat
    ++ leBytes 2 (min Config.factoryIssue.toNat (Config.hardwareIssue.toNat / 256)) ++ leBytes 4 (1 + Config.factorySize.toNat)
    ++ leBytes 4 (8113 + Config.factorySize.toNat) ++ leBytes 2 Config.factoryDictionary.toNat ++ List.replicate 6 0
    ++ sha256 factoryPayload ++ sha256 firmwarePublic ++ List.replicate 160 0

/-- All its bytes. -/
@[irreducible] def factoryImage : Bytes :=
  factoryHeader ++ factoryPayload
    ++ slhSign (secretOf Config.firmwareSecret) (signInput factoryHeader) (leBytes 16 Config.factoryRandom.toNat)

/-! ## The origin entry (R308) -/

/-- The audit entry with sequence 0: kind 0, index and value 0, written by the device itself; its instant, and whether time was trusted
then, the spec leaves to the maker (log 95). -/
def originEntry : Bytes :=
  leBytes 4 0 ++ leBytes 8 Config.originTime.toNat ++ leBytes 4 0xFFFFFFFE ++ leBytes 2 0 ++ leBytes 1 0 ++ leBytes 1 0
    ++ leBytes 1 (bitVal Config.originUntrusted 3) ++ leBytes 1 0 ++ leBytes 2 0 ++ leBytes 8 0 ++ List.replicate 32 0

/-- The audit head after it (R281). -/
def originHead : Bytes := sha256 originEntry

end Sys2Proof.Machine
end

