-- ==== Sys2Proof/Machine/FieldTypes.lean ====
section
/-! DEFINITION. The plain data of the field side: ports, converters, lanes, calibration, metering, loops, zones, storage
tools, display, indicators, update, health. -/

namespace Sys2Proof.Machine

/-! ## Ports (R82 to R112) -/

/-- What an actuator pair's line does (R100): the line that runs, the tick it ends, and what follows. -/
inductive ActLine where
  | still
  | opening (till : Nat)
  | closing (till : Nat)
  | dead (till : Nat)
  | homing (till : Nat)
  deriving DecidableEq, Repr

/-- One port at run time (log 13). -/
structure PortSt where
  /-- mode write waiting for its 2 ms: the tick, and the request to answer (R85) -/
  modeAt : Option Nat
  modeReq : Option KdpReq
  /-- instant of the enabling of the mode, in reference periods (R85) -/
  since : Nat
  /-- the filtered state has been established since the mode was enabled; instant of its last change, or of the enabling (R90) -/
  known : Bool
  changed : Nat
  /-- tick at which the running gate window started, and its accepted edges (R92) -/
  window : Option Nat
  accepted : Nat
  /-- first and last edge of the selected polarity in the window, and how many (reference periods) -/
  firstSel : Nat
  lastSel : Nat
  countSel : Nat
  /-- previous selected edge ever, length of the last complete period, its high part -/
  prevSel : Option Nat
  period : Option Nat
  high : Nat
  lastRise : Nat
  lastFall : Nat
  /-- last edge of any kind, in reference periods, and its tick (R92, R93) -/
  lastEdge : Option Nat
  lastEdgeTick : Nat
  /-- value staged by the application core (R27, R31) -/
  appStaged : Option F32
  /-- the safe value is due at the next tick (R234, R252) -/
  safeNext : Bool
  /-- instant at which the measurement behind the process value started (R221), in reference periods -/
  valueStart : Nat
  /-- last value of the application core since reset or mode change (R107) -/
  appLast : Option F32
  /-- value in force at the driver -/
  out : F32
  /-- no source has staged a first value, or the safe value was called for since (R101) -/
  safeHeld : Bool
  tripped : Bool
  /-- level at the last new target, its instant and the slew rate taken then (R96): level in 1/240 000 000 V, rate in 0.1 V/µs -/
  level : Int
  levelAt : Nat
  rate : Nat
  /-- duty staged for a PWM period boundary, and the first instant at which it may be applied (R95); start, on-to-off edge and end of the running period; its events that
  the triggers have taken (R122); deviation of the dithered periods from nominal up to now (R98) -/
  dutyStaged : Option F32
  dutyFrom : Nat
  pwmStart : Nat
  pwmEdge : Option Nat
  pwmAt : Nat
  toldStart : Bool
  toldEdge : Bool
  dithered : Int
  /-- switch: retry due, running since a retry, off by over-temperature (R99) -/
  retryAt : Option Nat
  retryRun : Option Nat
  hot : Bool
  /-- current limit acting since, and last acting (R97) -/
  limitSince : Option Nat
  limitLast : Nat
  /-- shunt open until (R89) -/
  shuntTill : Option Nat
  /-- presence: pulse ticks, the side of the thresholds the signal lies beyond (true above), filter memory, start of the last
  conversion window (R94) -/
  pulses : List Nat
  beyond : Option Bool
  band : BitVec 64
  lastScan : Option Nat
  /-- actuator: estimate in thousandths of a percent, line, target; the direction driven last (true opening), none once a dead time has
  passed since; a run 0.2 times the run time beyond the end that the target names is owed (R100) -/
  estimate : Option Nat
  line : ActLine
  runFrom : Nat
  target : Nat
  lastDir : Option Bool
  endOwed : Bool
  deriving DecidableEq, Repr

/-! ## Converters (R113 to R145) -/

/-- The kind of a slot. -/
inductive SlotKind where
  | scan | injected | calibration
  deriving DecidableEq, Repr

/-- A slot in progress: kind, channel, start and end in reference periods, and marks taken during it. -/
structure Slot where
  kind : SlotKind
  channel : Nat
  start : Nat
  fin : Nat
  deriving DecidableEq, Repr

/-- A frame in progress (R115): lowest channel still to convert (the running one), instant of the first slot's start,
whether every later result is displaced. -/
structure FrameSt where
  next : Nat
  start : Nat
  displaced : Bool
  begun : Bool
  deriving DecidableEq, Repr

/-- One converter at run time. -/
structure ConvSt where
  waiting : Bool
  /-- end of the trigger delay (R124) -/
  delay : Option Nat
  frame : Option FrameSt
  slot : Option Slot
  /-- waiting injected channels (R131) and waiting calibration channels (R133) -/
  inject : List Nat
  calib : List Nat
  /-- settling: the write or the end of the last excursion, in reference periods; monitor out of tolerance (R137) -/
  settleFrom : Nat
  outOfTol : Bool
  unsettledNow : Bool
  /-- PWM events counted, and the instant of Run: only later ones count (R122) -/
  pwmCount : Nat
  pwmFrom : Nat
  /-- consecutive conversions within limits of channels 8 and 9 (R141) -/
  zeroRun : Nat
  refRun : Nat
  lastTimer : Option Nat
  /-- the result in the data register: start of its conversion window (R117), end of its slot, gain and offset of its channel in effect then
  (R176), whether its excitation current flowed (R87) -/
  resStart : Nat
  resEnd : Nat
  resGain : Int
  resOffset : Int
  resExcited : Bool
  /-- conversions since the last metrology hand-over of channels 8 and 9 (R450) -/
  dieCode : Option Int
  dieTick : Nat
  /-- number of the capture for which the last calibration conversion runs, and for which the last result's one ran: the result for an
  abandoned capture is discarded (R172) -/
  calFor : Nat
  resFor : Nat
  deriving DecidableEq, Repr

/-- One sync set at run time: PWM events counted, the tick of its last timer trigger, and the instant of the first member's Run:
only later PWM events count (R122). -/
structure SyncSt where
  pwmCount : Nat
  lastTimer : Option Nat
  pwmFrom : Nat
  deriving DecidableEq, Repr

/-! ## Calibration (R170 to R189) -/

/-- A capture waiting or running (R177 to R181): port, kind, reference value, samples wanted, spread limit, conversions
passed, codes kept, whether the first conversion has started. -/
structure Capture where
  port : Nat
  kind : Nat
  reference : Int
  samples : Nat
  spread : Nat
  passed : Nat
  kept : List Int
  running : Bool
  deriving DecidableEq, Repr

/-- A point captured in the session: port, kind, reference value, mean in 1/256 code. -/
structure CalPoint where
  port : Nat
  kind : Nat
  reference : Int
  mean : Int
  deriving DecidableEq, Repr

/-- The calibration session. -/
structure CalSt where
  /-- owner of the open session: the session-open latch of R30 -/
  owner : Option Requester
  openedTick : Nat
  /-- coefficient entries at the opening that a write has since changed: key and opening value (R182) -/
  opening : List (Nat × Bytes)
  /-- coefficient values still in effect while a staged one waits: key and value (R176) -/
  inEffect : List (Nat × Bytes)
  calN : Bool
  capture : Option Capture
  /-- captures started: the number of the latest -/
  captures : Nat
  points : List CalPoint
  deriving DecidableEq, Repr

/-- Whether a session is open (R170). -/
def CalSt.open_ (c : CalSt) : Bool := c.owner.isSome

/-! ## Health (R445 to R456) -/

/-- Self-check conversions of one day, channels 8 and 9: counts and sums of results (R450). -/
structure DriftDay where
  zeros : Nat
  zeroSum : Int
  refs : Nat
  refSum : Int
  deriving DecidableEq, Repr

/-- The learning sums and the 30-day windows as the last lifetime flush stored them (R377, R446, R450; log 74). -/
structure Learned where
  hourly : List F32
  drift : Vector (List DriftDay) 8
  errorDays : List (Nat × Nat)
  hours : List (Nat × F32)
  binWindows : Vector Nat 16
  deriving DecidableEq, Repr

/-- Health accumulators: hourly sums of the speed ratio, hourly normalised indices (newest first, at most 720), drift days of
each converter (newest first, at most 30), daily error and read counts (newest first, at most 30), the pending flags. -/
structure HealthSt where
  ratioSum : F64
  ratioCount : Nat
  hourly : List F32
  drift : Vector (List DriftDay) 8
  errorDays : List (Nat × Nat)
  /-- since when each path has failed, and both paths of each pair have passed, self-test (R450, R452) -/
  failSince : Vector (Option Nat) 4
  passSince : Vector (Option Nat) 2
  lastSecond : Nat
  lastHour : Nat
  lastFlush : Nat
  lastDay : Nat
  /-- tick of the last die temperature conversion the device asked for (R445) -/
  dieInject : Nat
  saved : Learned
  deriving DecidableEq, Repr

/-! ## Metering (R190 to R216) -/

/-- A sensor result waiting for its partner (R194): timestamp and its device time, temperature in binary64, whether it may pair.
Device times of results are in reference periods (R193). -/
structure SensorRes where
  stamp : Nat
  at_ : Int
  temp : F64
  usable : Bool
  deriving DecidableEq, Repr

/-- One energy meter at run time. -/
structure MeterSt where
  /-- device time and tick at which the running period started; none before the first boundary (R193) -/
  start : Option Nat
  startRef : Nat
  supply : Option SensorRes
  ret : Option SensorRes
  /-- pairs accepted since the last boundary, oldest first, with the device time at which they ended; the last accepted pair of the
  periods before (R193, R194) -/
  pairs : List (Int × F64 × F64)
  lastPair : Option (Int × F64 × F64)
  /-- device times at which a sensor's temperature became NaN since the last boundary (true supply), and whether the supply and the
  return temperature were NaN at it (R199) -/
  nans : List (Int × Bool)
  nanFrom : Bool × Bool
  /-- lane results since the last boundary: device time, volume in m³, whether it is bad, whether flow ran backwards (R195, R200) -/
  lane : List (Int × F64 × Bool × Bool)
  /-- pulse readings since the last boundary: device time in ms and pulses (R195) -/
  pulses : List (Nat × Nat)
  /-- metrology invalid, or a session open, at some instant of the period (R199) -/
  invalid : Bool
  session : Bool
  /-- parts of a millijoule not yet added: heating tariffs 0 to 3, cooling tariffs 0 to 3; of a millilitre (R198) -/
  rest : Vector F64 8
  volRest : F64
  /-- error time and slot flags of the interval in progress -/
  errTime : Nat
  slotFlags : Nat
  /-- device time at which Enable was set or metering became possible: the first period starts at the next boundary -/
  enabledAt : Nat
  /-- a step of device time fell in the running period (R384) -/
  stepped : Bool
  deriving DecidableEq, Repr

/-- One pulse counter at run time: last edge count read, edges of the running gate window. -/
structure CounterSt where
  lastCount : Nat
  readSecond : Nat
  deriving DecidableEq, Repr

/-- The interval in progress (R203, R206). Its start is 2243.01, its tariff 2240.05, its flags 2243.03, its starting totals
the record of R208. -/
structure IntervalSt where
  running : Bool
  /-- length in force, minutes (R203) -/
  length : Nat
  pulseFlags : Nat
  meterMask : Nat
  deriving DecidableEq, Repr

/-! ## Lanes (R146 to R169) -/

/-- A measurement of a lane: its start in reference periods, shots taken, valid times up and down in ps, their peaks in µV,
whether a calibration pair failed, the counter at the stop event of the last shot, and in mode 2 the valid shots as
(port, tx, tref). -/
structure Meas where
  start : Nat
  shots : Nat
  up : List Nat
  down : List Nat
  peakUp : List Nat
  peakDown : List Nat
  calFault : Bool
  stop : Option Nat
  caps : List (Nat × Nat × Nat)
  deriving DecidableEq, Repr

/-- A zero-flow capture (R161): measurements wanted, transit differences collected, measurement periods passed. -/
structure ZeroCap where
  wanted : Nat
  diffs : List Int
  periods : Nat
  deriving DecidableEq, Repr

/-- The burst that a lane drives last (R154): bank channel of the sending port, start event in reference periods, cycles, divisor of
24 MHz, amplitude in millivolts. -/
structure Burst where
  channel : Nat
  start : Nat
  cycles : Nat
  divisor : Nat
  mv : Nat
  deriving DecidableEq, Repr

/-- The charge of the element that a lane measures last (R165): bank channel, the instant from which terminal A is shorted to B, the
start event at which A is driven through the charge resistor, the resistor in ohms, the voltage in millivolts. -/
structure Charge where
  channel : Nat
  shorted : Nat
  start : Nat
  ohms : Nat
  mv : Nat
  deriving DecidableEq, Repr

/-- One lane at run time: the tick of Run, the tick of its last start, the measurement in progress, the result waiting for the
metrology engine, the capture, whether a measurement was skipped since the previous result. -/
structure LaneSt where
  runTick : Nat
  lastStart : Option Nat
  meas : Option Meas
  handed : Option Meas
  capture : Option ZeroCap
  skipped : Bool
  /-- start of the measurement last taken (R221), in reference periods -/
  valueStart : Nat
  burst : Option Burst
  charge : Option Charge
  deriving DecidableEq, Repr

/-! ## Loops, groups, repetitive controllers, trace sets (R217 to R260, R268 to R270) -/

/-- The variables of a loop's law after a completed job (R229, R244); `q` is the ramp value (R255). -/
structure LoopVars where
  wf : F32
  w : F32
  i : F32
  d : F32
  yprev : F32
  tfe : F32
  q : F32
  y : F32
  e : F32
  p : F32
  g : F32
  sv : F32
  r : F32
  u : F32
  ws : F32
  dt : F32
  dtMs : Nat
  deriving DecidableEq, Repr

/-- What a sample instant latches (R220, R228, R257): its tick, setpoint source value, manual output, input register, local
instant. -/
structure LoopLatch where
  ts : Nat
  v : F32
  man : F32
  reg : F32
  lam : Nat
  deriving DecidableEq, Repr

/-- A released job and what it will commit: sample tick, Auto or Manual, fault (0 none, 1 input, 2 arithmetic), variables,
staged value, status bits 4, 5, 6 and 8, whether it is a hand-over, whether a ramp starts and runs on, cell and local instant
to learn, controller state. -/
structure LoopJob where
  ts : Nat
  /-- tick of its release (R226) -/
  released : Nat
  auto : Bool
  fault : Nat
  vars : LoopVars
  staged : F32
  bits : Nat
  handOver : Bool
  rampStart : Bool
  ramp : Bool
  cell : Nat
  lam : Nat
  learn : Bool
  /-- following-error action, and the zone of setpoint source 3, in effect at the release (R238) -/
  action : Nat
  zone : Option Nat
  /-- hand-over events this job is the first to be released after (R254) -/
  tookTable : Bool
  tookRep : Bool
  deriving DecidableEq, Repr

/-- One loop at run time. -/
structure LoopSt where
  /-- mode in force; the entry holds the mode written (R235) -/
  active : Nat
  /-- the next job is no resumption (0), one with the setpoint state lost (1), one with it kept (2) (R236) -/
  resume : Nat
  lastSample : Option Nat
  latch : Option LoopLatch
  outAt : Option Nat
  job : Option LoopJob
  tlast : Option Nat
  vars : LoopVars
  /-- value staged by the job that ended since the last output instant, and w, y, u of that job -/
  staged : Option F32
  fresh : Option (F32 × F32 × F32)
  /-- the loop's own previous output (its candidate in a group), and the value applied at the port -/
  prev : Option F32
  applied : Option F32
  status : Nat
  ramp : Bool
  tableChanged : Bool
  repChanged : Bool
  /-- the following-error action 1 or 2 was taken and no mode write has followed (R237) -/
  acted : Bool
  /-- safe output, gain-table mode and clamped manual output in effect since the last release instant (R231, R238) -/
  safe : F32
  table : Nat
  man : F32
  /-- node 10: the value applied at the last output instant (R244) -/
  node10 : F32
  deriving DecidableEq, Repr

/-- The learning memory of a loop (R256 to R260): cells that are not zero, ascending, as M and E; whether H was settled since
the reset. -/
structure RepSt where
  cells : List (Nat × F32 × F32)
  settled : Bool
  deriving DecidableEq, Repr

/-- A competition group at run time: the tick of its last output instant. -/
structure GroupSt where
  last : Option Nat
  deriving DecidableEq, Repr

/-- A trace set (R268 to R270): releases counted, rows oldest first as tick count and node values, row of the trigger, its
device time, rows still to take; `kept` is a done trace's data. -/
structure TraceSt where
  count : Nat
  rows : List (Nat × List F32)
  trig : Option Nat
  trigTime : Nat
  left : Nat
  /-- a manual trigger waits for the next row; the last row's trigger value and status test -/
  manual : Bool
  prev : Option (F32 × Bool)
  kept : Option Bytes
  /-- the sample whose count of R269 gives a row once its job has ended or is missed -/
  due : Option Nat
  deriving DecidableEq, Repr

/-! ## Zones (R261 to R267) -/

/-- A rate measurement of R266: the temperature and tick at the entry to Comfort, and whether it is a cooling one. -/
structure RateRun where
  temp : F32
  tick : Nat
  cooling : Bool
  deriving DecidableEq, Repr

/-- One zone at run time: scheduled mode kept, end tick of a running boost, raw presence with the tick of its last change,
tc of an active optimum start, the running rate measurement, the second last evaluated, the tick last sampled. -/
structure ZoneSt where
  scheduled : Nat
  boostEnd : Option Nat
  raw : Bool
  rawSince : Nat
  optimum : Option Nat
  rate : Option RateRun
  lastSecond : Option Nat
  lastSample : Option Nat
  deriving DecidableEq, Repr

/-! ## Display and indicators (R425 to R444) -/

/-- A queued display request (R433, R434, R436): window (8 the metrology window), panel rectangle, packed pixel rows, rows
already started as strips, and for the metrology window the page and the content drawn. -/
structure DispReq where
  window : Nat
  x : Nat
  y : Nat
  w : Nat
  h : Nat
  data : Bytes
  started : Nat
  page : Nat
  deriving DecidableEq, Repr

/-- A running rectangle and its journal entry (R435, R437, R438): window, band, frames total and begun, panel rectangle, pair
bytes row-major; whether it is the last strip of its request, and the page it shows; the byte offset of its pair bytes in the pair area. -/
structure Rect where
  window : Nat
  band : Nat
  total : Nat
  begun : Nat
  x : Nat
  y : Nat
  w : Nat
  h : Nat
  pairs : List Nat
  last : Bool
  page : Nat
  offset : Nat
  deriving DecidableEq, Repr

/-- The display engine: pixels as 4 for a known level plus the level, ascending, an unlisted pixel being unknown with level 0;
pixels whose DC ledger is not 0; queue; running rectangles, which the display journal holds too; instant of the next
frame boundary in reference periods; whether the frame in progress drives the running rectangles or nothing; mending, rail fault, stopped by a warning, rails good, mismatch and mended marks; windows with
lost content; page drawn last, its content, and the tick of the next page change; tick of the last image check. -/
structure DisplaySt where
  pixels : List (Nat × Nat)
  ledger : List (Nat × Int)
  queue : List DispReq
  rects : List Rect
  frameAt : Nat
  driving : Bool
  mending : Bool
  railFault : Bool
  stopped : Bool
  mismatch : Bool
  mended : Bool
  lost : Nat
  page : Nat
  content : List Nat
  pageAt : Nat
  checkAt : Nat
  deriving DecidableEq, Repr

/-- One indicator (R440, R441): the step shown, the tick of the next step, and the pattern, step time, length and current of the
cycle in progress; whether it is the replacement pattern. -/
structure IndicatorSt where
  step : Nat
  nextAt : Nat
  pattern : Nat
  stepTime : Nat
  length : Nat
  current : F32
  replacement : Bool
  deriving DecidableEq, Repr

end Sys2Proof.Machine
end

