-- ==== Sys2Proof/Machine/Rest.lean ====
section
/-! DEFINITION. Every numbered part at rest: what it holds after reset, and the fallback of bank reads. -/

namespace Sys2Proof.Machine

/-- A path at rest, the fallback of bank reads (log 30). -/
def pathRest : PathSt := ⟨0, 0, false, 0, false, 0, none, false, 0, false, 0, [], none, [], [], [], none, [], []⟩

/-- A publication map at rest. -/
def pubRest : PubMap := ⟨0, none, false, none, 0, 0⟩

/-- A port after reset (log 30). -/
def portRest : PortSt :=
  { modeAt := none, modeReq := none, since := 0, known := false, changed := 0, window := none, accepted := 0, firstSel := 0, lastSel := 0, countSel := 0,
    prevSel := none, period := none, high := 0, lastRise := 0, lastFall := 0, lastEdge := none, lastEdgeTick := 0,
    appStaged := none, safeNext := false, valueStart := 0, appLast := none, out := 0, safeHeld := true, tripped := false,
    level := 0, levelAt := 0, rate := 10, dutyStaged := none, dutyFrom := 0, pwmStart := 0, pwmEdge := none, pwmAt := 0, toldStart := true,
    toldEdge := true, dithered := 0, retryAt := none, retryRun := none, hot := false, limitSince := none,
    limitLast := 0, shuntTill := none, pulses := [], beyond := none, band := 0, lastScan := none, estimate := none,
    line := .still, runFrom := 0, target := 0, lastDir := some false, endOwed := false }

/-- A converter after reset (log 30). -/
def convRest : ConvSt :=
  { waiting := false, delay := none, frame := none, slot := none, inject := [], calib := [], settleFrom := 0, outOfTol := false,
    unsettledNow := false, pwmCount := 0, pwmFrom := 0, zeroRun := 0, refRun := 0, lastTimer := none, resStart := 0, resEnd := 0, resGain := 0,
    resOffset := 0, resExcited := false, dieCode := none, dieTick := 0, calFor := 0, resFor := 0 }

/-- A sync set after reset (log 30). -/
def syncRest : SyncSt := ⟨0, none, 0⟩

/-- A meter at rest (log 30). -/
def meterRest : MeterSt :=
  { start := none, startRef := 0, supply := none, ret := none, pairs := [], lastPair := none, nans := [],
    nanFrom := (false, false), lane := [], pulses := [], invalid := false,
    session := false, rest := Vector.replicate 8 0, volRest := 0, errTime := 0, slotFlags := 0, enabledAt := 0, stepped := false }

/-- A counter at rest. -/
def counterRest : CounterSt := ⟨0, 0⟩

/-- A lane at rest (log 30). -/
def laneRest : LaneSt := ⟨0, none, none, none, none, false, 0, none, none⟩

/-- Law variables before any job (log 30). -/
def varsRest : LoopVars := ⟨0, 0, 0, 0, 0, 0, 0, 0, 0, 0, 0x3F800000#32, 0, 0, 0, 0, 0, 0⟩

/-- A loop after reset (log 30). -/
def loopRest : LoopSt :=
  { active := 0, resume := 1, lastSample := none, latch := none, outAt := none, job := none, tlast := none, vars := varsRest,
    staged := none, fresh := none, prev := none, applied := none, status := 0, ramp := false, tableChanged := false,
    repChanged := false, acted := false, safe := 0, table := 0, man := 0, node10 := 0x7FC00000#32 }

/-- A zone at rest (log 30). -/
def zoneRest : ZoneSt := ⟨2, none, false, 0, none, none, none, none⟩

/-- An indicator at rest (log 30). -/
def indicatorRest : IndicatorSt := ⟨0, 0, 0, 125, 16, 0, false⟩

/-- A tamper input at rest (log 30). -/
def tamperRest : TamperIn := ⟨false, true, false, none, 0, 0⟩

/-- A pair at rest, the fallback of bank reads (log 30). -/
def pairRest : PairSt := ⟨false, 1, 0, 3, 4, 1, 1, none, false, none, 0, 0, 50, 0, 10000, 1000, false, 0⟩

end Sys2Proof.Machine
end

