-- ==== Sys2Proof/Machine/State.lean ====
section
/-! DEFINITION. The whole state of the UZ64, its state after reset, its faults and refusals. -/

namespace Sys2Proof.Machine

/-- Reasons a command stops the model: none. Every command of the table has an effect in the spec, and none stops the block. -/
inductive Fault where
  deriving DecidableEq, Repr

/-- Reasons a command has no meaning. `notModelled`: raised by exec for a command not yet modelled (safe: a stop). -/
inductive Refusal where
  | notModelled (mnemonic : String)
  deriving DecidableEq, Repr

/-- The whole device. -/
structure State where
  /-- commands waiting, first in, first out -/
  pending : List Instr
  power : Power
  clock : Clock
  thermos : Thermos
  /-- values of dictionary entries that differ from their default, ascending by key (R37 to R41) -/
  ents : List (Nat × Bytes)
  stor : Storage
  conds : List Cond
  kdp : Kdp
  bus : Bus
  net : NetTime
  alarms : Vector AlarmSt 8
  audit : Audit
  kiln : Kiln
  update : UpdateSt
  ports : Vector PortSt 64
  convs : Vector ConvSt 8
  syncs : Vector SyncSt 4
  lanes : Vector LaneSt 8
  cal : CalSt
  meters : Vector MeterSt 16
  counters : Vector CounterSt 32
  interval : IntervalSt
  loops : Vector LoopSt 96
  reps : Vector RepSt 96
  groups : Vector GroupSt 16
  traces : Vector TraceSt 8
  zones : Vector ZoneSt 32
  display : DisplaySt
  indicators : Vector IndicatorSt 4
  health : HealthSt
  /-- how many free values have been used -/
  used : Nat
  deriving DecidableEq, Repr

/-- Before any power has been applied (R465, Off): no main power, the oscillator-stopped flag set (R470), every entry at its
default, the storage as manufactured (log 7, log 12, log 25, log 30, log 95). -/
def State.reset : State :=
  { pending := []
    power := { phase := .off, cause := 1, entry := none, warning := none, validAt := none, metrologyValid := false, started := 0,
               step8 := false, refFault := false, thermal := false, coreMv := 0, raiseAt := none, quiet := false, quietAt := 0,
               spread := false, supplyLow := none, fallback := false, tamperMark := false, deadlineMiss := false, runningSlot := 0,
               watchdog := 0, limitJudged := false, starting := false, faultN := false }
    clock := { tick := 0, ref := 0, edge := 0, halt := none, setValue := none, slew := 0, skipAcc := 0, source := 0, bound := none,
               lossHeld := false, trimmed := false, binGood := false, rtcWindowAt := 0, speedRing := [], lastMinute := 0, localOffset := 0,
               localDue := false }
    thermos := { secs := 0, frac := 0, tamper := Vector.replicate 2 tamperRest, stopped := true, firstSwitch := none,
                 lastSwitch := none, scratch := List.replicate 32 0, onBackup := false, trim := 0, check := 0, trusted := false }
    ents := []
    stor := { mem := [], recs := [], journal := ⟨0, 0, [], [], none⟩, pend := [], remap := ⟨none, none, 0, []⟩, bad := [],
              scrubHits := [], scrubStart := 0, scrubHours := 0, scrubDue := none, tape := [], shows := 0, update := none,
              cut := none, marks := [] }
    conds := []
    kdp := { snaps := [], ended := [], transfers := [], wait := [], serviceQ := [], serviceWait := [], discards := [],
             pubs := Vector.replicate 64 pubRest, subs := Vector.replicate 64 ⟨0, false, false⟩, events := 0 }
    bus := { paths := Vector.replicate 4 pathRest, pairs := Vector.replicate 2 pairRest, bridging := false, resetNeeded := false,
             remotes := [], stuck := 0, tripCounter := 0, localTags := [], refreshAt := 0, tripOrder := 0 }
    net := { halves := [], lastTag := none, pending := none, confirms := 0, lastPair := none, period := 0,
             better := Vector.replicate 2 none, sendTag := Vector.replicate 2 0, owed := Vector.replicate 2 none,
             lastSent := Vector.replicate 2 0, devFrom := none, hours := [], binWindows := Vector.replicate 16 0 }
    alarms := Vector.replicate 8 ⟨none, none⟩
    audit := ⟨1, originHead⟩
    kiln := { queue := [], seals := [], statements := [], onDemand := [], trngHalted := none, keyFault := false,
              billingOmitted := false, recordsLost := false, counter := 0 }
    update := ⟨none, 0⟩
    ports := Vector.replicate 64 portRest
    convs := Vector.replicate 8 convRest
    syncs := Vector.replicate 4 syncRest
    lanes := Vector.replicate 8 laneRest
    cal := { owner := none, openedTick := 0, opening := [], inEffect := [], calN := false, capture := none, captures := 0, points := [] }
    meters := Vector.replicate 16 meterRest
    counters := Vector.replicate 32 counterRest
    interval := ⟨false, 15, 0, 0⟩
    loops := Vector.replicate 96 loopRest
    reps := Vector.replicate 96 ⟨[], false⟩
    groups := Vector.replicate 16 ⟨none⟩
    traces := Vector.replicate 8 ⟨0, [], none, 0, 0, false, none, none, none⟩
    zones := Vector.replicate 32 zoneRest
    display := { pixels := [], ledger := [], queue := [], rects := [], frameAt := 0, driving := false, mending := false,
                 railFault := false, stopped := false, mismatch := false, mended := false, lost := 0, page := 0, content := [],
                 pageAt := 0, checkAt := 0 }
    indicators := Vector.replicate 4 indicatorRest
    health := { ratioSum := 0, ratioCount := 0, hourly := [], drift := Vector.replicate 8 [], errorDays := [],
                failSince := Vector.replicate 4 none, passSince := Vector.replicate 2 none, lastSecond := 0, lastHour := 0,
                lastFlush := 0, lastDay := 0, dieInject := 0,
                saved := ⟨[], Vector.replicate 8 [], [], [], Vector.replicate 16 0⟩ }
    used := 0 }

end Sys2Proof.Machine
end

