-- ==== Sys2Proof/Machine/Ops.lean ====
section
/-! DEFINITION. The shared operations on the state: dictionary entries, conditions, the Hamper, the audit log and the seal
queue. -/

namespace Sys2Proof.Machine

/-- The answer of every meaning. -/
abbrev Out := Host.Outcome State Fault Refusal

/-! ## Sparse tables in canonical form: keys strictly ascending -/

/-- The value at a key. -/
def mapGet {α : Type} : List (Nat × α) → Nat → Option α
  | [], _ => none
  | (k, v) :: r, i => if k = i then some v else mapGet r i

/-- Replace or insert the value at a key, keeping ascending order. -/
def mapSet {α : Type} : List (Nat × α) → Nat → α → List (Nat × α)
  | [], i, x => [(i, x)]
  | (k, v) :: r, i, x =>
    if i < k then (i, x) :: (k, v) :: r else if i = k then (i, x) :: r else (k, v) :: mapSet r i x

/-- Remove a key. -/
def mapDel {α : Type} : List (Nat × α) → Nat → List (Nat × α)
  | [], _ => []
  | (k, v) :: r, i => if k = i then r else (k, v) :: mapDel r i

/-- Keys strictly ascending: the canonical form of a sparse table. -/
def mapWf {α : Type} : List (Nat × α) → Bool
  | [] => true
  | [_] => true
  | a :: b :: r => decide (a.1 < b.1) && mapWf (b :: r)

/-! ## Hamper bytes (R33, R404) -/

/-- What a byte of the Hamper reads that nothing has written (log 3, DESIGN CHOICE). -/
def blankByte : Byte := 0

/-- Size of the Hamper: 64 MiB (R33). -/
def hamperSize : Nat := 0x4000000

/-- One byte of a memory in canonical form (log 3). -/
def memRead (m : List Host.Cell) (a : Nat) : Byte := (mapGet m a).getD blankByte

/-- Write one byte, keeping the canonical form: writing the blank byte unlists the address (log 3). -/
def memWrite (m : List Host.Cell) (a : Nat) (b : Byte) : List Host.Cell :=
  if b = blankByte then mapDel m a else mapSet m a b

/-- Write bytes at rising addresses. -/
def memWrites : List Host.Cell → Nat → Bytes → List Host.Cell
  | m, _, [] => m
  | m, a, b :: bs => memWrites (memWrite m a b) (a + 1) bs

/-- Read `n` bytes at rising addresses. -/
def memReads (m : List Host.Cell) (a n : Nat) : Bytes := (List.range n).map fun i => memRead m (a + i)

/-- No listed byte is the blank byte. -/
def memNoBlank (m : List Host.Cell) : Bool := m.all fun c => decide (c.2 ≠ blankByte)

/-- The canonical form of memory: addresses strictly rising, no entry equal to what an unlisted address reads as (log 3). -/
def Memory.wf (m : List Host.Cell) : Bool := mapWf m && memNoBlank m

/-! ## Dictionary entries (R37 to R41) -/

/-- Text as bytes. -/
def asciiBytes (s : String) : Bytes := s.toList.map fun c => byte c.toNat

/-- The default of an entry whose table gives a byte string (R41), by key (log 7). -/
def octetDefault (key : Nat) : Bytes :=
  if key = 0x100001 then asciiBytes "Exlorex"
  else if key = 0x100002 then asciiBytes "Urrax"
  else if key = 0x100003 then asciiBytes "UZ64"
  else if key = 0x100004 then asciiBytes "UZ64-LG-E"
  else if key = 0x2C0001 then devicePublic
  else if key = 0x2C0002 then certificate
  else if key = 0x2C0003 then makerPublic
  else if key = 0x2C0004 then firmwarePublic
  else if key = 0x2B0003 then List.replicate 32 0
  else if key = 0x290107 then (List.replicate 16 (leBytes 4 0x7FC00000)).flatten
  else if 0x2F0801 ≤ key ∧ key ≤ 0x2F0803 then List.replicate 128 0
  else if 0x2A0801 ≤ key ∧ key ≤ 0x2A0F14 then [0]
  else if key = 0x300201 then List.replicate 32 0
  else []

/-- The default of an entry: what it holds before anything has been written (R41; log 7). -/
def dfltBytes (index sub : Nat) : Bytes :=
  match rowAt index sub with
  | none => []
  | some r =>
    if index = 0x1000 ∧ sub = 5 then leBytes 16 Config.serial.toNat
    else if index = 0x1000 ∧ sub = 6 then leBytes 2 Config.hardwareIssue.toNat
    else if index = 0x2F03 ∧ sub = 0x0A then leBytes 4 0x3F800000
    else if index = 0x2F03 ∧ 1 ≤ sub then leBytes 4 (Config.predictedIndex (sub - 1)).toNat
    else if 0x2F28 ≤ index ∧ index ≤ 0x2F2F ∧ sub = 1 then leBytes 4 (Config.zeroBaseline (index - 0x2F28)).toNat
    else if 0x2F28 ≤ index ∧ index ≤ 0x2F2F ∧ sub = 2 then leBytes 4 (Config.referenceBaseline (index - 0x2F28)).toNat
    else match r.ty.size with
      | some n => leBytes n r.dflt
      | none => octetDefault (keyOf index sub)

/-- The value an entry holds. -/
def getBytes (s : State) (index sub : Nat) : Bytes := (mapGet s.ents (keyOf index sub)).getD (dfltBytes index sub)

/-- Give an entry a value; the table stays canonical (a default is not listed). -/
def setBytes (s : State) (index sub : Nat) (v : Bytes) : State :=
  if v = dfltBytes index sub then { s with ents := mapDel s.ents (keyOf index sub) }
  else { s with ents := mapSet s.ents (keyOf index sub) v }

/-- Bytes of an entry's fixed size (R38), 1 where it has none. -/
def entSize (index sub : Nat) : Nat :=
  match rowAt index sub with
  | some r => (r.ty.size).getD 1
  | none => 1

/-- An entry as an unsigned number. -/
def getN (s : State) (index sub : Nat) : Nat := leNat (getBytes s index sub)
/-- An entry as a Boolean. -/
def getB (s : State) (index sub : Nat) : Bool := getN s index sub != 0
/-- An entry as a binary32 value. -/
def getF (s : State) (index sub : Nat) : F32 := BitVec.ofNat 32 (getN s index sub)
/-- An entry as a two's complement number of its size. -/
def getI (s : State) (index sub : Nat) : Int := toSigned (8 * entSize index sub) (getN s index sub)
/-- Give an entry an unsigned number, modulo its size (log 11). -/
def setN (s : State) (index sub n : Nat) : State := setBytes s index sub (leBytes (entSize index sub) n)
/-- Give an entry a Boolean. -/
def setB (s : State) (index sub : Nat) (b : Bool) : State := setN s index sub b.toNat
/-- Give an entry a binary32 value. -/
def setF (s : State) (index sub : Nat) (x : F32) : State := setN s index sub x.toNat
/-- Give an entry a two's complement number. -/
def setI (s : State) (index sub : Nat) (x : Int) : State := setN s index sub (ofSigned (8 * entSize index sub) x)
/-- Add to an entry, modulo its size (log 11). -/
def addN (s : State) (index sub n : Nat) : State := setN s index sub (getN s index sub + n)
/-- A number with bit i set or cleared. -/
def putBit (n i : Nat) (b : Bool) : Nat := if n.testBit i then (if b then n else n - 2 ^ i) else (if b then n + 2 ^ i else n)
/-- Set or clear one bit of an entry. -/
def setBit (s : State) (index sub i : Nat) (b : Bool) : State := setN s index sub (putBit (getN s index sub) i b)
/-- One bit of an entry. -/
def getBit (s : State) (index sub i : Nat) : Bool := (getN s index sub).testBit i

/-! ## Free values (log 2) -/

/-- The next free value, and the state with its use counted (log 2). -/
def freshFree (s : State) : BitVec 64 × State := (Config.freeValue s.used, { s with used := s.used + 1 })

/-! ## Time in force (R372, R380) -/

/-- Reference periods in one millisecond (R24). -/
def refMs : Nat := 24000
/-- Reference periods in one second. -/
def refSec : Nat := 24000000

/-- Device time in reference periods since 2000-01-01T00:00:00Z (R372); while halt is 1 it is extrapolated from the
reference counter alone (R380). -/
def devRef (s : State) : Nat :=
  match s.clock.halt with
  | some (_, base, ref0) => base + (s.clock.ref - ref0)
  | none => s.thermos.secs * refSec + min (refSec - 1) ((s.clock.ref : Int) - s.clock.edge).toNat

/-- Device time in milliseconds (R372). -/
def devTime (s : State) : Nat := devRef s / refMs

/-- Local time in milliseconds (R392), with the offset in force. -/
def localTime (s : State) : Nat := ((devTime s : Int) + s.clock.localOffset * 60000).toNat

/-- Smallest e from 0 to 14 with the bound at or below 2^e ms, else 15 (R378); the bound is in nanoseconds. -/
def errorClass (bound : Option Nat) : Nat :=
  match bound with
  | none => 15
  | some b => ((List.range 15).find? fun e => decide (b ≤ 2 ^ e * 1000000)).getD 15

/-- Whether time is trusted: bit 1 of 2F00.01 (R379). -/
def timeTrusted (s : State) : Bool :=
  decide (1 ≤ s.clock.source ∧ s.clock.source ≤ 3) && decide (errorClass s.clock.bound ≤ getN s 0x2900 0x09)

/-- The output of schedule program p: that of its last evaluation, and none (NaN) while it is disabled or local time is untrusted
(R395). -/
def programNow (s : State) (p : Nat) : F32 :=
  if getB s (0x2880 + p) 0x01 && timeTrusted s then getF s (0x2880 + p) 0x02 else nan32

/-- Time quality (R378). -/
def timeQuality (s : State) : Nat := s.clock.source + bitVal (timeTrusted s) 3 + 16 * errorClass s.clock.bound

/-! ## Conditions (R15, R22) -/

/-- Milliseconds for which a condition's cause must have been absent before it clears: 10 s unless its chapter says
otherwise (R22, R102, R385, R424). -/
def clearMs (code : Nat) : Nat :=
  if code = 0x8001 then 1000
  else if 0xB010 ≤ code ∧ code ≤ 0xB017 then 1000
  else if 0x1000 ≤ code ∧ code ≤ 0x1FFF then 1000
  else 10000

/-- Whether a condition is raised. -/
def raised (s : State) (code : Nat) : Bool := s.conds.any fun c => c.code == code

/-- Note a raise or a clear for the event triggers of the publication maps (R72). Several of one subsystem within one command fire a
map once (log 100, DESIGN CHOICE). -/
def noteEvent (s : State) (code : Nat) : State :=
  let k := code / 4096
  if s.kdp.events.testBit k then s else { s with kdp := { s.kdp with events := s.kdp.events + 2 ^ k } }

/-- Raise a condition, or renew it. `cause` says that its cause is present and stays so until `causeGone` or `dropCond`;
without it the cause is over at once and the clear time runs (R22). -/
def raiseWith (s : State) (code : Nat) (cause : Bool) : State :=
  let c : Cond := ⟨code, cause, s.clock.tick⟩
  if raised s code then { s with conds := s.conds.map fun x => if x.code = code then c else x }
  else noteEvent { s with conds := c :: s.conds } code

/-- Raise a condition whose cause is a single event. -/
def raise (s : State) (code : Nat) : State := raiseWith s code false
/-- Raise a condition whose cause stays present. -/
def raiseHeld (s : State) (code : Nat) : State := raiseWith s code true

/-- The cause of a condition is absent from now on: its clear time starts (R22). -/
def causeGone (s : State) (code : Nat) : State :=
  { s with conds := s.conds.map fun x => if x.code = code ∧ x.cause = true then ⟨code, false, s.clock.tick⟩ else x }

/-- Clear a condition at once. -/
def dropCond (s : State) (code : Nat) : State :=
  if raised s code then noteEvent { s with conds := s.conds.filter fun x => x.code != code } code else s

/-- Follow a cause that is judged now: raise and hold, or start the clear time (log 96). -/
def judge (s : State) (code : Nat) (cause : Bool) : State := if cause then raiseHeld s code else causeGone s code

/-- Raise while the cause is present, and clear at once when it is not. -/
def follow (s : State) (code : Nat) (cause : Bool) : State := if cause then raiseHeld s code else dropCond s code

/-! ## The check word of the Thermos domain (R467, R470) -/

/-- The configuration and scratch cells: the settings of the tamper inputs, the trim, the user scratch. -/
def thermosCells (t : Thermos) : Bytes :=
  (t.tamper.toList.map fun x => leBytes 1 (bitVal x.enable 0 + bitVal x.level 1)).flatten ++ leBytes 2 (ofSigned 16 t.trim) ++ t.scratch

/-- The check word over them; 0 over the cells as a loss of supply leaves them (log 106). -/
def thermosWord (t : Thermos) : BitVec 16 :=
  if thermosCells t = thermosCells State.reset.thermos then 0 else Config.checkWord (thermosCells t)

/-- Change cells of the Thermos domain, and write the check word afresh. -/
def thermosWrite (s : State) (f : Thermos → Thermos) : State :=
  { s with thermos := { f s.thermos with check := thermosWord (f s.thermos) } }

/-! ## Phase tests -/

/-- The firmware runs (R465: Run or Quiet). -/
def isUp (s : State) : Bool := s.power.phase == .up
/-- No power-fail warning and no reset entry is in progress: the Hamper takes all writes (R461, R484). -/
def hamperFree (s : State) : Bool := s.power.warning.isNone && s.power.entry.isNone
/-- Timed islands run: no reference fault (R28; log 86). -/
def islandsRun (s : State) : Bool := isUp s && !s.power.refFault

/-- Answer with a state. -/
def next (s : State) : Out := .next s

end Sys2Proof.Machine
end

