-- ==== Sys2Proof/Machine/Calendar.lean ====
section
/-! DEFINITION. The calendar: dates as days since 2000-01-01, a Saturday (R372, R392, R396). -/

namespace Sys2Proof.Machine

/-- Milliseconds of a day. -/
def dayMs : Nat := 86400000

/-- A leap year. -/
def isLeap (y : Nat) : Bool := y % 4 == 0 && (y % 100 != 0 || y % 400 == 0)
/-- Days of a year. -/
def yearDays (y : Nat) : Nat := if isLeap y then 366 else 365
/-- Days of a month; 0 for a month that does not exist. -/
def monthDays (y m : Nat) : Nat :=
  match m with
  | 2 => if isLeap y then 29 else 28
  | 4 | 6 | 9 | 11 => 30
  | 1 | 3 | 5 | 7 | 8 | 10 | 12 => 31
  | _ => 0

/-- The year of day `d` of year `y` and later, and the day in it. -/
def yearFrom : Nat → Nat → Nat → Nat × Nat
  | 0, y, d => (y, d)
  | f + 1, y, d => if d < yearDays y then (y, d) else yearFrom f (y + 1) (d - yearDays y)

/-- The month of day `d` of month `m` and later, and the day in it. -/
def monthFrom : Nat → Nat → Nat → Nat → Nat × Nat
  | 0, _, m, d => (m, d)
  | f + 1, y, m, d => if d < monthDays y m then (m, d) else monthFrom f y (m + 1) (d - monthDays y m)

/-- Year, month and day of a date. -/
def civil (day : Nat) : Nat × Nat × Nat :=
  let (y, d) := yearFrom 600 2000 day
  let (m, e) := monthFrom 12 y 1 d
  (y, m, e + 1)

/-- The date of a year, month and day. -/
def dateOf (y m d : Nat) : Nat :=
  ((List.range (y - 2000)).map fun i => yearDays (2000 + i)).foldl (· + ·) 0
    + ((List.range (m - 1)).map fun i => monthDays y (i + 1)).foldl (· + ·) 0 + (d - 1)

/-- Weekday of a date, 0 Monday to 6 Sunday. -/
def weekday (day : Nat) : Nat := (day + 5) % 7

/-- The date of the n-th given weekday of a month, the last one for n = 5 (R392). -/
def nthWeekday (y m n wd : Nat) : Nat :=
  let first := dateOf y m 1
  let d := first + (wd + 7 - weekday first) % 7
  if n < 5 then d + 7 * (n - 1)
  else if d + 28 < first + monthDays y m then d + 28 else d + 21

/-- The local date of a device time. -/
def localDate (s : State) (t : Nat) : Nat := ((t : Int) + s.clock.localOffset * 60000).toNat / dayMs

/-- A number field of a byte string. -/
def fieldN (b : Bytes) (off len : Nat) : Nat := leNat ((b.drop off).take len)

end Sys2Proof.Machine
end

