-- ==== Sys2Proof/Machine/Store.lean ====
section
/-! DEFINITION. The Hamper controller: regions and writers (R33, R34), raw page writes and repair (R405, R408), two-copy
records (R410 to R412), the intent journal (R413), the audit log (R308). -/

namespace Sys2Proof.Machine

/-! ## Regions (R33) -/

/-- The region of an address in the order of R33, 0 to 9. -/
def regionOf (a : Nat) : Nat :=
  if a < 0x0400000 then 0 else if a < 0x0800000 then 1 else if a < 0x0A00000 then 2
  else if a < 0x2200000 then 3 else if a < 0x3200000 then 4 else if a < 0x3800000 then 5
  else if a < 0x3B00000 then 6 else if a < 0x3C00000 then 7 else if a < 0x3F00000 then 8 else 9

/-- The writer R33 names for an address. -/
def writerOf (a : Nat) : Writer :=
  match regionOf a with
  | 0 | 1 => .core
  | 2 => if 0x0808000 ≤ a ∧ a < 0x0818000 then .display else .core
  | 3 => .loop
  | 4 => .metrology
  | 5 => .kiln
  | 6 => .core
  | 7 => if a < 0x3B40000 then .metrology else .core
  | 8 => .loop
  | _ => .hamper

/-! ## Record numbers: an entry's key, or one of these (R409, R416, log 10) -/

/-- The session-dirty marker (R183). -/
def recDirty : Nat := 0x1000000
/-- The kept seal requests (R292). -/
def recKept : Nat := 0x1000001
/-- The untrusted-time state (R373). -/
def recUntrusted : Nat := 0x1000002
/-- The carry marker (R417). -/
def recMarker : Nat := 0x1000003
/-- The starting values of the interval in progress (R208). -/
def recStart : Nat := 0x1000004
/-- The chain head (R278). -/
def recChain : Nat := 0x1000005
/-- Device time of the last daily seal's local date, and of the last billing instant served (R205, R286). -/
def recDates : Nat := 0x1000006
/-- Status bits that 2F00.01 restores after a reset (R454): tamper since the last seal. -/
def recMarks : Nat := 0x1000007
/-- Flags, mask and slot values that the interval in progress has collected (R206; log 89). -/
def recSoFar : Nat := 0x1000009
/-- Slot state of firmware slot s (R314, R317). -/
def recSlot (s : Nat) : Nat := 0x1000010 + s
/-- The preferred slot (R319). -/
def recPreferred : Nat := 0x1000012
/-- The record of the display update journal (R437). -/
def recDisplay : Nat := 0x1000013
/-- The commit record of the intent journal (R413). -/
def recCommit : Nat := 0x1000014
/-- Local date of the last firing of alarm a (R385). -/
def recAlarm (a : Nat) : Nat := 0x1000020 + a
/-- Limb `k` of the striped counter at an entry (R416). -/
def recLimb (key k : Nat) : Nat := 0x2000000 + 4 * key + k

/-- The record of H, the high-water instant of loop l: learning memory (R260). -/
def isHighWater (id : Nat) : Bool := decide (0x2500 ≤ id / 256 ∧ id / 256 < 0x2560) && id % 256 == 0x0D

/-- The region of a record. -/
def recRegion (id : Nat) : Nat :=
  if isHighWater id then 3
  else if id ≥ 0x2000000 ∨ id = recMarker ∨ id = recStart ∨ id = recSoFar then 7
  else if 0x2F0000 ≤ id ∧ id < 0x300000 ∧ ¬ (0x2F0100 ≤ id ∧ id < 0x2F0200) then 7
  else if id = recSlot 0 then 0 else if id = recSlot 1 then 1
  else 2

/-- The writer R33 names for a record. -/
def recWriter (id : Nat) : Writer :=
  if id ≥ 0x2000000 ∨ id = recMarker ∨ id = recStart ∨ id = recSoFar then .metrology
  else if id = recDisplay then .display
  else if id = recCommit then .hamper
  else if isHighWater id then .loop
  else .core

/-! ## The directory (R409, R410, R416; log 10) -/

/-- Entries with P among the rows of one index, and those of them below a subindex. -/
def pCount (rows : List Row) : Nat := rows.foldl (fun a r => if r.isP then a + (r.hi + 1 - r.lo) else a) 0
/-- Entries with P below a subindex of one index. -/
def pBelow (rows : List Row) (sub : Nat) : Nat :=
  rows.foldl (fun a r => if r.isP ∧ r.lo < sub then a + (min (r.hi + 1) sub - r.lo) else a) 0

/-- Entries with P in the objects before an entry, and in its own object before it. -/
def entryRank : List Obj → Nat → Nat → Nat
  | [], _, _ => 0
  | o :: os, index, sub =>
    if o.base ≤ index ∧ index < o.base + o.count then (index - o.base) * pCount o.rows + pBelow o.rows sub
    else o.count * pCount o.rows + entryRank os index sub

/-- Number of a limb among the 624 of the striped counters, by counter and limb: per meter the error time, the volume total and the eight
billing totals, then the pulse totals (R416). -/
def limbRank (key k : Nat) : Nat :=
  let i := key / 256
  let sub := key % 256
  if i < 0x2220 then 35 * (i - 0x2200) + (if sub = 0x0B then 0 else if sub = 0x0C then 1 + k else 3 + 4 * (sub - 0x30) + k)
  else 560 + 2 * (i - 0x2220) + k

/-- Number of a record in the directory. -/
def recordRank (id : Nat) : Nat :=
  if 0x2000000 ≤ id then 64 + limbRank ((id - 0x2000000) / 4) (id % 4)
  else if 0x1000000 ≤ id then id - 0x1000000
  else 688 + entryRank objects (id / 256) (id % 256)

/-- Directory ID of a record (R409, R410): IDs rise with the numbers, so that no two records share one. -/
def recordId (id : Nat) : Nat := Config.idBase % 40000 + recordRank id

/-- First page of copy k of a record, in the area that R314, R409, R413, R416, R437 or the region gives it; the two copies of one record
share no page. -/
def recordPage (id k : Nat) : Nat :=
  let x := Config.recordPage id
  if id = recCommit then 65536 + k
  else if id = recDisplay then 65792 + 2 * k
  else if recRegion id < 2 then 32768 * recRegion id + 32640 + (Config.slotStatePage k).toNat
  else if 0x2000000 ≤ id then 483328 + Config.limbBase % 700 + 2 * limbRank ((id - 0x2000000) / 4) (id % 4) + k
  else if id = recMarker then 485276 + k
  else if id = recSoFar then 485278 + k
  else if id = recStart then 485280 + 32 * k
  else if recRegion id = 7 then 485376 + 3072 * k + x % 3041
  else if isHighWater id then 81920 + 98304 * k + x % 98273
  else 66304 + 7804 * k + x % 7773

/-! ## Two-copy records (R410 to R412) -/

/-- The record with a number, or one never written (R411). -/
def recFind (rs : List Rec) (id : Nat) : Rec :=
  match rs with
  | [] => ⟨id, none, none, 0⟩
  | r :: t => if r.id = id then r else recFind t id

/-- Put a record, ascending by number. -/
def recPut : List Rec → Rec → List Rec
  | [], x => [x]
  | r :: t, x => if x.id < r.id then x :: r :: t else if x.id = r.id then x :: t else r :: recPut t x

/-- The copy in use. -/
def Rec.inUse (r : Rec) : Option Copy :=
  match r.use with
  | 1 => r.slot0
  | 2 => r.slot1
  | _ => none

/-- The sequence of the copy in use; 0 for a record never written (R411). -/
def Rec.seqInUse (r : Rec) : BitVec 32 := match r.inUse with | some c => c.seq | none => 0

/-- Put a copy into slot k; one that passes its check is in use from then on. -/
def Rec.putCopy (r : Rec) (k : Nat) (c : Copy) : Rec :=
  if k = 0 then { r with slot0 := some c, use := if c.ok then 1 else r.use }
  else { r with slot1 := some c, use := if c.ok then 2 else r.use }

/-- A write of a record goes to slot (s + 1) mod 2 with sequence (s + 1) mod 2^32 (R411). `whole` is false for a write cut
by power loss: that copy fails its check and the copy in use stands. -/
def Rec.write (r : Rec) (data : Bytes) (whole : Bool) : Rec :=
  let s := r.seqInUse + 1
  r.putCopy (s.toNat % 2) ⟨s, data, whole⟩

/-- Sequence comparison modulo 2^32 (R412). -/
def newer (x y : BitVec 32) : Bool := let d := (x - y).toNat; decide (1 ≤ d ∧ d ≤ 2 ^ 31 - 1)

/-- A copy that is present, no longer than 4 080 bytes, and passes its check (R412). -/
def copyValid (c : Option Copy) : Option Copy :=
  match c with
  | some c => if c.ok ∧ c.data.length ≤ 4080 then some c else none
  | none => none

/-- Power-up selection of R412: the record with its copy in use, whether it was defaulted, whether it was a twin. -/
def Rec.select (r : Rec) : Rec × Bool × Bool :=
  match copyValid r.slot0, copyValid r.slot1 with
  | none, none => ({ r with use := 0 }, r.slot0.isSome || r.slot1.isSome, false)
  | some _, none => ({ r with use := 1 }, false, false)
  | none, some _ => ({ r with use := 2 }, false, false)
  | some a, some b =>
    if a.seq ≠ b.seq then ({ r with use := if newer a.seq b.seq then 1 else 2 }, false, false)
    else ({ r with use := if a.seq.toNat % 2 = 0 then 1 else 2 }, false, true)

/-- The stored value of a record; none while it holds its default. -/
def recValue (s : State) (id : Nat) : Option Bytes := ((recFind s.stor.recs id).inUse).map Copy.data

/-- Pad with 0x00 to a length. -/
def padTo (n : Nat) (b : Bytes) : Bytes := b ++ List.replicate (n - b.length) 0
/-- Pages of one copy of a record with L data bytes (R410). -/
def recPages (len : Nat) : Nat := (16 + len + 127) / 128

/-! ## Audit ring (R308) -/

/-- Entries the ring holds. -/
def auditSlots : Nat := 49152
/-- Hamper address of the audit entry with the given ordinal. -/
def auditAddr (ordinal : Nat) : Nat := 0x3800000 + 64 * (ordinal % auditSlots)

/-! ## Pages, counts and repair (R404, R405, R408) -/

/-- Count page writes of a region (2F18+r.01, R448). -/
def countWrites (s : State) (region n : Nat) : State :=
  let s1 := addN s (0x2F18 + region) 0x01 n
  let r := (recFind s1.stor.recs (keyOf (0x2F18 + region) 1)).write (getBytes s1 (0x2F18 + region) 1) true
  { s1 with stor := { s1.stor with recs := recPut s1.stor.recs r } }

/-- The remap table and its copies list no more than the 8 192 spare pages (R407). -/
def Remap.fits (r : Remap) : Bool :=
  let f (t : List (Option Nat)) : Bool := decide (t.length ≤ 8192)
  f r.table && r.slot0.all (fun c => f c.table) && r.slot1.all fun c => f c.table

/-- Spare pages used so far (R407). -/
def sparesUsed (s : State) : Nat := s.stor.remap.table.length
/-- Spare pages free (R407). -/
def sparesFree (s : State) : Nat := 8192 - sparesUsed s
/-- Spare pages that hold a remapped page (R407). -/
def sparesGiven (s : State) : Nat := (s.stor.remap.table.filter Option.isSome).length

/-- Storage status bits 1 and 2, 2E00.02 and 2E00.03, and conditions 0xC030, 0xC031, from the spare pages (R407, R424). -/
def judgeSpares (s : State) : State :=
  let f := sparesFree s
  let s := setN (setN s 0x2E00 0x02 f) 0x2E00 0x03 (sparesGiven s)
  let s := setBit (setBit s 0x2E00 0x01 1 (decide (f < 2048))) 0x2E00 0x01 2 (decide (f = 0))
  follow (follow s 0xC030 (decide (f < 2048))) 0xC031 (decide (f = 0))

/-- The spare page that a logical page was given last; none for a page in its own place. -/
def spareOf (t : List (Option Nat)) (page : Nat) : Option Nat :=
  (t.foldl (fun (a : Nat × Option Nat) x => (a.1 + 1, if x = some page then some (516096 + a.1) else a.2)) (0, none)).2

/-- The physical page a logical page resolves to (R405). -/
def physicalPage (s : State) (page : Nat) : Nat := (spareOf s.stor.remap.table page).getD page

/-- Whether copy k of a record lies on a logical page. -/
def copyOn (page : Nat) (r : Rec) (k : Nat) : Bool :=
  match if k = 0 then r.slot0 else r.slot1 with
  | some c => decide (recordPage r.id k ≤ page ∧ page < recordPage r.id k + recPages c.data.length)
  | none => false

/-- The record copy that lies on a logical page: its record and slot (R409, R410; log 10). -/
def copyAt (s : State) (page : Nat) : Option (Rec × Nat) :=
  match s.stor.recs.find? fun r => copyOn page r 0 || copyOn page r 1 with
  | some r => some (r, if copyOn page r 0 then 0 else 1)
  | none => none

/-- Copy k of a record fails its check. -/
def Rec.spoil (r : Rec) (k : Nat) : Rec :=
  if k = 0 then { r with slot0 := r.slot0.map fun c => { c with ok := false } }
  else { r with slot1 := r.slot1.map fun c => { c with ok := false } }

/-- A copy of a record can no longer be read: the other copy is used if it is valid, else the default, with 0xC010 (R404). -/
def loseCopy (s : State) (r : Rec) (k : Nat) : State :=
  let (r2, gone, _) := (r.spoil k).select
  let s1 := { s with stor := { s.stor with recs := recPut s.stor.recs r2 } }
  if gone then raise (setBit s1 0x2E00 0x01 3 true) 0xC010 else s1

/-- Learning memory of loop l. -/
def repAt (s : State) (l : Nat) : RepSt := vAt s.reps l ⟨[], false⟩
/-- Change the learning memory of loop l. -/
def updRep (s : State) (l : Nat) (f : RepSt → RepSt) : State := { s with reps := vUpd s.reps l f }
/-- Hamper address of cell j of loop l (log 102). -/
def cellAddr (l j : Nat) : Nat := 0x0A00000 + 8 * (Config.cellAddr l j % 3145728)

/-- The cells of learning memory on an uncorrectable page read as 0.0 until a job writes them (R404). -/
def loseCells (s : State) (page : Nat) : State :=
  (List.range 96).foldl (fun a l => updRep a l fun x => { x with cells := x.cells.filter fun c => cellAddr l c.1 / 128 != page }) s

/-- Mark a logical page uncorrectable: condition 0xC020, the count of 2E00.07, and storage status bit 3 unless the other copy of a
record serves (R404, R421). -/
def pageBad (s : State) (page : Nat) : State :=
  let s := addN s 0x2E00 0x07 1
  let s := { s with stor := { s.stor with bad := if s.stor.bad.contains page then s.stor.bad else page :: s.stor.bad } }
  let s := raiseHeld s 0xC020
  match copyAt s page with
  | some (r, k) => loseCopy s r k
  | none => setBit (if regionOf (128 * page) = 3 then loseCells s page else s) 0x2E00 0x01 3 true

/-- A page among n from a first one. -/
def pageIn (first n page : Nat) : Bool := decide (first ≤ page) && decide (page < first + n)

/-- n pages have been rewritten: they are no longer uncorrectable, and 0xC020 and status bit 3 clear with the last one (R421, R424); a scrub
rewrite of one of them is abandoned (R406). -/
def pagesRewritten (s : State) (first n : Nat) : State :=
  let s := { s with stor := { s.stor with scrubDue := s.stor.scrubDue.filter fun p => !pageIn first n p } }
  if s.stor.bad.isEmpty then s
  else
    let bad := s.stor.bad.filter fun p => !pageIn first n p
    let s := { s with stor := { s.stor with bad } }
    if bad.isEmpty then dropCond (setBit s 0x2E00 0x01 3 false) 0xC020 else s

/-- What the read-back of the next page write shows (R405). -/
def readBack (s : State) : Bool × State :=
  match s.stor.tape with
  | [] => (false, s)
  | b :: r => (b, { s with stor := { s.stor with tape := r } })

/-- What read-backs show from here on. -/
def loadTape (s : State) (l : List Bool) : State := { s with stor := { s.stor with tape := l } }
/-- The bits of a number, bit 0 first; none for 0. -/
def bitList (n : Nat) : List Bool := if n = 0 then [] else (List.range (Nat.log2 n + 1)).map n.testBit

/-- Steps 1 and 2 of R405: the data of a page goes to the next free spare page and is read back there; a spare that does not read back is
passed over. -/
def takeSpare (page : Nat) : Nat → State → Bool × State
  | 0, s => (false, s)
  | n + 1, s =>
    if sparesFree s = 0 then (false, s)
    else
      let (bad, s1) := readBack s
      let s2 := { s1 with stor := { s1.stor with remap := { s1.stor.remap with
        table := s1.stor.remap.table ++ [if bad then none else some page] } } }
      if bad then takeSpare page n s2 else (true, s2)

/-- The sequence of the copy of the remap table in use. -/
def Remap.seqInUse (r : Remap) : BitVec 32 :=
  match if r.use = 1 then r.slot0 else if r.use = 2 then r.slot1 else none with
  | some c => c.seq
  | none => 0

/-- The remap table is written as a two-copy record (R407, R411). -/
def Remap.store (r : Remap) : Remap :=
  let s := r.seqInUse + 1
  let c : RemapCopy := ⟨s, r.table, true⟩
  if s.toNat % 2 = 0 then { r with slot0 := some c, use := 1 } else { r with slot1 := some c, use := 2 }

/-- Remap a logical page to a free spare page (R405, R406): the table is written, over the copy that was invalid if one was, and 0xC021 is
raised (R424); with no spare free the write fails, and 0xC031 stands. -/
def remapPage (s : State) (page : Nat) : Bool × State :=
  if sparesFree s = 0 then (false, raiseHeld s 0xC031)
  else
    let (ok, s1) := takeSpare page (s.stor.tape.length + 1) s
    let s2 := { s1 with stor := { s1.stor with remap := s1.stor.remap.store } }
    let s3 := judgeSpares (dropCond (setBit s2 0x2E00 0x01 0 false) 0xC040)
    (ok, if ok then raise s3 0xC021 else s3)

/-- Program one page and read it back (R405): where the read-back differs, the page is remapped; with no spare free the write fails. -/
def programPage (s : State) (page : Nat) : Bool × State :=
  match readBack s with
  | (true, s1) => remapPage (addN s1 0x2E00 0x08 1) page
  | (false, s1) => (true, s1)

/-- Program n pages from a first one, one raw page write each (R408); the first that fails ends it. -/
def programRun : Nat → State → Nat → Bool × State
  | 0, s, _ => (true, s)
  | n + 1, s, page =>
    match programPage s page with
    | (true, s1) => programRun n s1 (page + 1)
    | (false, s1) => (false, s1)

/-! ## The raw page write and what it puts in place (R408) -/

/-- The raw page write (R408): bytes from an address to the end of the page that contains it; bytes beyond that are ignored, and the number
written is reported. -/
def rawPageWrite (m : List Host.Cell) (a : Nat) (d : Bytes) : Nat × List Host.Cell :=
  let e := d.take (128 - a % 128)
  (e.length, memWrites m a e)

/-- A write of more than one page (R408): one raw page write a page, going on with the bytes that remain. -/
def pageWrites : Nat → List Host.Cell → Nat → Bytes → List Host.Cell
  | 0, m, _, _ => m
  | n + 1, m, a, d =>
    match rawPageWrite m a d with
    | (k, m1) => pageWrites n m1 (a + k) (d.drop k)

/-- Pages that bytes at an address touch. -/
def pagesOf (a len : Nat) : Nat := (a % 128 + len + 127) / 128

/-- The place a target goes to; for a record the copy that R411 writes next. -/
def resolve (s : State) : Target → Placed
  | .bytes a d => .bytes a d
  | .record id d => let q := (recFind s.stor.recs id).seqInUse + 1; .copy id (q.toNat % 2) ⟨q, d, true⟩
  | .cell l j m e => .cell l j m e
  | .row t ts => .row t ts

/-- Hamper address of a trace row (log 23). -/
def rowAddr (t ts : Nat) : Nat := 0x3C00000 + 4 * (Config.rowAddr t ts % 786432)

/-- The first address a placed target writes. -/
def placedAddr : Placed → Nat
  | .bytes a _ => a
  | .copy id k _ => 128 * recordPage id k
  | .cell l j _ _ => cellAddr l j
  | .row t ts => rowAddr t ts

/-- The pages it writes. -/
def placedPages : Placed → Nat
  | .bytes a d => pagesOf a d.length
  | .copy _ _ c => recPages c.data.length
  | .cell .. | .row .. => 1

/-- The region it writes. -/
def placedRegion : Placed → Nat
  | .bytes a _ => regionOf a
  | .copy id _ _ => recRegion id
  | .cell .. => 3
  | .row .. => 8

/-- Where a target lies: its address, or the first page of its record's slot. -/
def targetAddr (s : State) (t : Target) : Nat := placedAddr (resolve s t)

/-- The writer R33 names for a target. -/
def targetWriter : Target → Writer
  | .bytes a _ => writerOf a
  | .record id _ => recWriter id
  | .cell .. | .row .. => .loop

/-- Give a cell its values; a cell of zeros is not listed. -/
def cellPut (cs : List (Nat × F32 × F32)) (j : Nat) (m e : F32) : List (Nat × F32 × F32) :=
  if m = 0 ∧ e = 0 then mapDel cs j else mapSet cs j (m, e)

/-- A page without a printed layout has been written (log 23). -/
def markPage (s : State) (page : Nat) : State :=
  { s with stor := { s.stor with marks := mapSet s.stor.marks page ((mapGet s.stor.marks page).getD 0 + 1) } }

/-- Put a placed target's content in place. -/
def putInPlace (s : State) : Placed → State
  | .bytes a d => { s with stor := { s.stor with mem := pageWrites (pagesOf a d.length) s.stor.mem a d } }
  | .copy id k c => { s with stor := { s.stor with recs := recPut s.stor.recs ((recFind s.stor.recs id).putCopy k c) } }
  | .cell l j m e => updRep (markPage s (cellAddr l j / 128)) l fun x => { x with cells := cellPut x.cells j m e }
  | .row t ts => markPage s (rowAddr t ts / 128)

/-- Put a placed target's content in place, count its page writes, and note its pages as rewritten. -/
def place (s : State) (p : Placed) : State :=
  pagesRewritten (countWrites (putInPlace s p) (placedRegion p) (placedPages p)) (placedAddr p / 128) (placedPages p)

/-- The pages of a placed target are programmed and read back (R405). Where that fails, a record's copy fails its check; other content
stays (log 75). -/
def programPlaced (s : State) (p : Placed) : Bool × State :=
  match programRun (placedPages p) s (placedAddr p / 128), p with
  | (true, s1), _ => (true, s1)
  | (false, s1), .copy id k c => (false, putInPlace s1 (.copy id k { c with ok := false }))
  | (false, s1), _ => (false, s1)

/-- Write a placed target: programmed, read back, put in place. -/
def writePlaced (s : State) (p : Placed) : Bool × State :=
  match programPlaced s p with
  | (true, s1) => (true, place s1 p)
  | (false, s1) => (false, s1)

/-- Put a target whose pages have been programmed in place. -/
def placeTarget (s : State) (t : Target) : State := place s (resolve s t)

/-- Write a target at once. -/
def applyTarget (s : State) (t : Target) : State := (writePlaced s (resolve s t)).2

/-- The number of a writer in 2F00.0A: its place in R34 (1 journal to 6 trace). -/
def writerNumber (w : Writer) (cls : Nat) : Nat :=
  match w with
  | .metrology => 2
  | .kiln => 3
  | .loop => if cls = 5 then 6 else 4
  | .core => 5
  | .hamper | .display => 1

/-- Refuse a write by an engine that does not own the region: condition 0x0004, 2F00.0A, advisory bit 3 (R33, R454). -/
def refuseWrite (s : State) (w : Writer) (cls addr : Nat) : State :=
  setBit (setN (raiseHeld s 0x0004) 0x2F00 0x0A (writerNumber w cls * 2 ^ 28 + addr)) 0x2F00 0x03 3 true

/-- One write by a writer, checked against the region (R33), programmed and read back (R405; log 75). -/
def storeTarget (s : State) (w : Writer) (cls : Nat) (t : Target) : Bool × State :=
  if targetWriter t ≠ w then (false, refuseWrite s w cls (targetAddr s t)) else writePlaced s (resolve s t)

/-- The class of a writer's page writes in the order of R34. -/
def Writer.cls : Writer → Nat
  | .metrology => 1
  | .kiln => 2
  | .loop => 3
  | .core | .display | .hamper => 4

/-- One pending page write is done. -/
def landWrite (s : State) (p : PendWrite) : State := (storeTarget s p.writer p.cls p.target).2

/-- The pending writes that R34 takes no later than a write of a class issued now are done: lower classes first, each class in the order
issued. -/
def drainTo (s : State) (cls : Nat) : State :=
  ((List.range (cls + 1)).map fun c => s.stor.pend.filter fun p => p.cls == c).flatten.foldl landWrite
    { s with stor := { s.stor with pend := s.stor.pend.filter fun p => decide (cls < p.cls) } }

/-- Write a target in the step that changes it, after the pending writes that R34 puts before it (log 75). In a power-fail warning or a
reset entry the controller takes journal writes only: nothing is written (R415, R461, R484). -/
def writeNow (s : State) (t : Target) : State :=
  if hamperFree s then applyTarget (drainTo s (targetWriter t).cls) t else s

/-- Write the parameter-store copy of an entry (R44 step 12). -/
def storeEntry (s : State) (index sub : Nat) (v : Bytes) : Bool × State :=
  let w := recWriter (keyOf index sub)
  storeTarget (drainTo s w.cls) w w.cls (.record (keyOf index sub) v)

/-- Issue a page write that the Hamper controller takes later (R34; log 75); in a warning or a reset entry it is refused. -/
def queueWrite (s : State) (w : Writer) (cls : Nat) (t : Target) : State :=
  if hamperFree s || cls == 0 then { s with stor := { s.stor with pend := s.stor.pend ++ [⟨w, cls, t⟩] } } else s

/-- Give a persistent entry that an engine updates its value, and issue its record write (R41, R409). -/
def putP (s : State) (index sub : Nat) (v : Bytes) : State :=
  let w := recWriter (keyOf index sub)
  queueWrite (setBytes s index sub v) w w.cls (.record (keyOf index sub) v)
/-- `putP` for a number. -/
def putN (s : State) (index sub n : Nat) : State := putP s index sub (leBytes (entSize index sub) n)
/-- `putP` for a binary32 value. -/
def putF (s : State) (index sub : Nat) (x : F32) : State := putN s index sub x.toNat

/-- Store a persistent entry at once, in the step that changes it. -/
def saveN (s : State) (index sub n : Nat) : State :=
  let v := leBytes (entSize index sub) n
  writeNow (setBytes s index sub v) (.record (keyOf index sub) v)

/-! ## Reads and errors (R404, R448) -/

/-- Word reads and corrected errors of a region, lifetime and of the running day (R448, R450). -/
def countReads (s : State) (region words errs : Nat) : State :=
  let b := 0x2F18 + region
  let s1 := setN (setN s b 0x03 (getN s b 0x03 + words)) b 0x02 (getN s b 0x02 + errs)
  let days := match s.health.errorDays with
    | [] => [(words, errs)]
    | d :: r => (d.1 + words, d.2 + errs) :: r
  let s2 := { s1 with health := { s1.health with errorDays := days } }
  if errs = 0 then s2 else saveN (addN s2 0x2E00 0x06 errs) b 0x02 (getN s2 b 0x02)

/-- What a page shows says that it is uncorrectable (R404). -/
def eccBad (ecc : Nat) : Bool := ecc.testBit 1 || ecc.testBit 3

/-- A page is read and shows something (R404): 16 words, a corrected error counted, an uncorrectable page marked. -/
def readPage (s : State) (page ecc : Nat) : State :=
  let s1 := countReads s (regionOf (128 * page)) 16 (bitVal (ecc.testBit 0) 0)
  if eccBad ecc then pageBad s1 page else s1

/-- What the coming page reads show. -/
def loadShows (s : State) (n : Nat) : State := { s with stor := { s.stor with shows := n } }

/-- What the i-th of the coming page reads shows (log 46). -/
def shownAt (s : State) (i : Nat) : Nat := s.stor.shows / 16 ^ i % 16

/-- Among the next n page reads those that show something. -/
def shownIn (s : State) (n : Nat) : List Nat :=
  if s.stor.shows = 0 then [] else (List.range (min n (Nat.log2 s.stor.shows / 4 + 1))).filter fun i => shownAt s i != 0

/-- Of n pages read from a first one, the corrected errors, and the uncorrectable pages (R404; log 46). -/
def pagesShow (s : State) (first n : Nat) : Nat × List Nat :=
  (((shownIn s n).filter fun i => (shownAt s i).testBit 0).length,
    ((shownIn s n).filter fun i => eccBad (shownAt s i)).map (first + ·))

/-- Those pages have been read: the uncorrectable ones are marked. -/
def pagesMarked (s : State) (n : Nat) (bad : List Nat) : State := bad.foldl pageBad (loadShows s (s.stor.shows / 16 ^ n))

/-- n pages from a first one, all of one region, are read (R404); whether one was uncorrectable. -/
def readRun (s : State) (first n : Nat) : Bool × State :=
  match pagesShow s first n with
  | (errs, bad) => (!bad.isEmpty, pagesMarked (countReads s (regionOf (128 * first)) (16 * n) errs) n bad)

/-- Runs of pages are read: first page and number of each. -/
def readRuns : List (Nat × Nat) → State → Bool × State
  | [], s => (false, s)
  | r :: t, s =>
    match readRun s r.1 r.2 with
    | (b, s1) => match readRuns t s1 with
      | (c, s2) => (b || c, s2)

/-! ## The intent journal (R413) -/

/-- The bytes of a copy of a record (R410), whole pages of them. -/
def copyBytes (id : Nat) (c : Copy) : Bytes :=
  let head := leBytes 4 0x31525048 ++ leBytes 2 (recordId id) ++ leBytes 2 c.data.length ++ leBytes 4 c.seq.toNat
  padTo (128 * recPages c.data.length) (head ++ leBytes 4 (crc32c (head ++ c.data)).toNat ++ c.data)

/-- A byte of memory; of the audit log's origin entry while that stands (log 95). -/
def ringByte (s : State) (a : Nat) : Byte :=
  if auditAddr 0 ≤ a ∧ a < auditAddr 0 + 64 ∧ s.audit.count ≤ auditSlots then originEntry.getD (a - auditAddr 0) 0
  else memRead s.stor.mem a

/-- The 128 bytes of page i of a byte string with padding. -/
def pageSlice (b : Bytes) (i : Nat) : Bytes := padTo 128 ((b.drop (128 * i)).take 128)

/-- The page images of a placed target, with the target page of each (R413). -/
def pageImages (s : State) (p : Placed) : List (Nat × Bytes) :=
  let first := placedAddr p / 128
  match p with
  | .bytes a d => (List.range (pagesOf a d.length)).map fun i =>
      (first + i, (List.range 128).map fun j =>
        let x := 128 * (first + i) + j
        if a ≤ x ∧ x < a + d.length then d.getD (x - a) 0 else ringByte s x)
  | .copy id _ c => (List.range (recPages c.data.length)).map fun i => (first + i, pageSlice (copyBytes id c) i)
  | .cell .. | .row .. => []

/-- The target list of an operation (R413): sequence, page count, target pages. -/
def targetList (seq : BitVec 32) (pages : List (Nat × Bytes)) : Bytes :=
  leBytes 4 seq.toNat ++ leBytes 2 pages.length ++ (pages.map fun p => leBytes 4 p.1).flatten

/-- Journal pages that a target list of n pages fills. -/
def listPages (n : Nat) : Nat := (6 + 4 * n + 127) / 128

/-- The CRC of an operation: over its target list and its images (R413). -/
def journalCrc (seq : BitVec 32) (pages : List (Nat × Bytes)) : Nat :=
  (crc32c (targetList seq pages ++ (pages.map (·.2)).flatten)).toNat

/-- The data of the commit record (R413): state, operation sequence, page count, CRC (log 10). -/
def commitBytes (state : Nat) (seq : BitVec 32) (n crc : Nat) : Bytes :=
  leBytes 1 state ++ leBytes 4 seq.toNat ++ leBytes 2 n ++ leBytes 4 crc

/-- The operation sequence in the commit record in use; 0 in one never written. -/
def commitSeq (s : State) : BitVec 32 :=
  match recValue s recCommit with
  | some b => BitVec.ofNat 32 (leNat ((b.drop 1).take 4))
  | none => 0

/-- Whether every image comes from the writer of its own region. -/
def imagesOwned (is : List Image) : Bool := is.all fun i => decide (targetWriter i.target = i.writer)

/-- The steps of an operation whose images have their places (R413): target list and images, the commit record with state 2, the images to
their targets in list order, the commit record with state 0. An operation that finds no spare for a journal page ends before its commit
and changes no target. -/
def journalRun (s : State) (ps : List Placed) (pages : List (Nat × Bytes)) : State :=
  let seq := commitSeq s + 1
  let n := pages.length
  match programRun (listPages n) s 65538 with
  | (false, s1) => s1
  | (true, s1) =>
    match programRun n s1 65546 with
    | (false, s2) => s2
    | (true, s2) =>
      let s3 := pagesRewritten (pagesRewritten (countWrites
        { s2 with stor := { s2.stor with
          journal := ⟨seq, n, pages ++ s.stor.journal.pages.drop n, ps, some s.clock.ref⟩, update := none } } 2 (listPages n + n)) 65538 (listPages n)) 65546 n
      match writePlaced s3 (resolve s3 (.record recCommit (commitBytes 2 seq n (journalCrc seq pages)))) with
      | (false, s4) => s4
      | (true, s4) =>
        let s5 := ps.foldl (fun a p => (writePlaced a p).2) s4
        applyTarget s5 (.record recCommit (commitBytes 0 seq n (journalCrc seq pages)))

/-- One journalled operation (R413), after the pending writes that its writers have issued. The controller checks every image against the
writer of its region first: an image of another refuses the whole operation and raises 0x0004. An operation changes at most 246 pages.
It runs within the command that opens it, so that none finds the journal in use (log 75). -/
def journalOp (s : State) (is : List Image) : State :=
  if imagesOwned is then
    let s0 := if hamperFree s then drainTo s 4 else s
    let ps := is.map fun i => resolve s0 i.target
    let pages := (ps.map (pageImages s0)).flatten
    if 246 < pages.length then s0 else journalRun s0 ps pages
  else
    match is.find? fun i => decide (targetWriter i.target ≠ i.writer) with
    | some i => refuseWrite s i.writer 0 (targetAddr s i.target)
    | none => s

/-- An image that stores an entry, from its owner. -/
def entryImage (index sub : Nat) (v : Bytes) : Image := ⟨recWriter (keyOf index sub), .record (keyOf index sub) v⟩
/-- An image that stores a record, from its owner. -/
def recordImage (id : Nat) (v : Bytes) : Image := ⟨recWriter id, .record id v⟩

/-! ## The audit log (R308 to R310) -/

/-- Sequence of the latest audit entry. -/
def auditSeq (s : State) : Nat := (s.audit.count - 1) % 2 ^ 32
/-- The requester word of an audit entry (R308). -/
def requesterWord (s : State) : Requester → Nat
  | .service => 0xFFFFFFFF
  | .device => 0xFFFFFFFE
  | .node seg n => (if seg = (vAt s.bus.pairs 0 pairRest).segment then 0xFFFF else seg) * 65536 + n

/-- The value field of an audit entry: 8 bytes or fewer as written, longer ones by the first 8 bytes of their SHA-256
(R309). -/
def auditValue (v : Bytes) : Bytes :=
  if v.length ≤ 8 then v ++ List.replicate (8 - v.length) 0 else (sha256 v).take 8

/-- The 64 bytes of the next audit entry (R308). Flags: bit 0 expert, bit 1 routed, bit 2 segmented; bit 3 is added. -/
def auditBytes (s : State) (who : Requester) (kind index sub flags : Nat) (value : Bytes) : Bytes :=
  leBytes 4 s.audit.count ++ leBytes 8 (devTime s) ++ leBytes 4 (requesterWord s who) ++ leBytes 2 index
    ++ leBytes 1 sub ++ leBytes 1 kind ++ leBytes 1 (flags + bitVal (!timeTrusted s) 3) ++ leBytes 1 0
    ++ leBytes 2 (min value.length 0xFFFF) ++ auditValue value ++ s.audit.head

/-- The audit sequence of the latest stored seal; none before the first. A slot that fails its check counts as empty (R296). -/
def sealedAudit (s : State) : Option Nat :=
  ((s.kiln.seals.filter (·.valid)).foldl (fun (m : Option SealMeta) x => match m with
    | none => some x
    | some y => if y.seq < x.seq then some x else some y) none).map (·.auditSeq)

/-- The next audit entry replaces one above the latest sealed audit sequence (R310). -/
def auditLost (s : State) : Bool :=
  decide (auditSlots ≤ s.audit.count) && (match sealedAudit s with
    | none => true
    | some q => decide (q < (s.audit.count - auditSlots) % 2 ^ 32))

/-- The log after its next entry `b` has been stored: head, count, 2C20.08, and 0x9020 if an unsealed entry is lost
(log 95). -/
def auditAdvance (s : State) (b : Bytes) (lost : Bool) : State :=
  let s1 := addN { s with audit := ⟨s.audit.count + 1, sha256 b⟩ } 0x2C20 0x08 1
  if lost then raiseHeld s1 0x9020 else s1

/-- Write one audit entry (R308, R309): the ring slot, the head, 2C20.08. In a power-fail warning or a reset entry the
controller takes no such write, and there is no entry (R415; log 75). -/
def appendAudit (s : State) (who : Requester) (kind index sub flags : Nat) (value : Bytes) : State :=
  let b := auditBytes s who kind index sub flags value
  if hamperFree s then auditAdvance (writeNow s (.bytes (auditAddr s.audit.count) b)) b (auditLost s) else s

/-- `appendAudit` for an entry whose page has been programmed and read back (R44 step 11). -/
def placeAudit (s : State) (who : Requester) (kind index sub flags : Nat) (value : Bytes) : State :=
  let b := auditBytes s who kind index sub flags value
  auditAdvance (placeTarget s (.bytes (auditAddr s.audit.count) b)) b (auditLost s)

/-- One journalled operation of the device together with its audit entry (R319, R322). -/
def journalAudit (s : State) (is : List Image) (kind index sub : Nat) (value : Bytes) : State :=
  let b := auditBytes s .device kind index sub 0 value
  let lost := auditLost s
  auditAdvance (journalOp s (is ++ [⟨.core, .bytes (auditAddr s.audit.count) b⟩])) b lost

/-- A write of an entry by the device itself (R309 kind 2, R41): audited for an A entry, stored for a P entry. An unchanged value
is no write. -/
def deviceWrite (s : State) (index sub : Nat) (v : Bytes) : State :=
  if getBytes s index sub = v then s
  else match rowAt index sub with
    | none => s
    | some r =>
      let s1 := if r.isA then appendAudit s .device 2 index sub 0 v else s
      let s2 := if r.isP then writeNow s1 (.record (keyOf index sub) v) else s1
      setBytes s2 index sub v

/-! ## Seal requests (R286 to R293) -/

/-- One kept seal request as 20 bytes of its record (R292): kind, reasons, time, whether a record is bound, the record. -/
def keptBytes (r : SealReq) : Bytes :=
  leBytes 1 r.kind ++ leBytes 2 r.reasons ++ leBytes 8 r.time ++ leBytes 1 (bitVal r.bound.isSome 0)
    ++ leBytes 8 (r.bound.getD 0)

/-- The kept requests: every request for a stored seal, in order (R292). -/
def keptRecord (q : List SealReq) : Bytes := ((q.filter fun r => r.kind != 4).map keptBytes).flatten

/-- A new seal request. -/
def sealReq (kind reasons time : Nat) (bound : Option Nat) : SealReq :=
  ⟨kind, reasons, time, bound, [], .device, false, true, .queued, [], [], 0⟩

/-- Whether a request waits and is not yet signing. -/
def SealReq.waiting (r : SealReq) : Bool := r.phase == .queued

/-- Places of the Kiln queue held by on-demand and attestation requests (R293). -/
def sharedPlaces (s : State) : Nat := (s.kiln.queue.filter fun r => r.kind == 3 || r.kind == 4).length

/-- Waiting requests that hold a place and for which none is reserved: billing, on-demand, attestation. Of the 8 places one is left for
the request being signed, one for an event and one for a daily request (R290, R293; log 68). -/
def contenders (q : List SealReq) : Nat :=
  (q.filter fun r => r.placed && r.waiting && (r.kind == 1 || r.kind == 3 || r.kind == 4)).length

/-- Billing requests of the kept list enter the queue, in the order in which they were made, while there is a place (R293). -/
def enterPlaces (n : Nat) : List SealReq → List SealReq
  | [] => []
  | r :: t => if !r.placed && decide (n < 5) then { r with placed := true } :: enterPlaces (n + 1) t else r :: enterPlaces n t

/-- Set the queue and the entries that show it: 2B20.02 and 2B20.04. -/
def setQueue (s : State) (q : List SealReq) : State :=
  let q := enterPlaces (contenders q) q
  let s := { s with kiln := { s.kiln with queue := q } }
  let ev := (q.find? fun r => r.kind == 2 && r.waiting).map (·.reasons)
  setN (setN s 0x2B20 0x02 (q.filter (·.placed)).length) 0x2B20 0x04 (ev.getD 0)

/-- Change the latest waiting request of a kind: one whose signing a reset interrupted may wait before it (R290, R296). -/
def changeWaiting (kind : Nat) (f : SealReq → SealReq) : List SealReq → List SealReq
  | [] => []
  | r :: t =>
    if r.kind == kind && r.waiting && !t.any fun x => x.kind == kind && x.waiting then f r :: t else r :: changeWaiting kind f t

/-- The queue with an event reason added (R290): merged into a waiting event request, else a new one. -/
def queueEvent (q : List SealReq) (reason time : Nat) : List SealReq :=
  if q.any fun r => r.kind == 2 && r.waiting then
    changeWaiting 2 (fun r => { r with reasons := if r.reasons.testBit reason then r.reasons else r.reasons + 2 ^ reason }) q
  else q ++ [sealReq 2 (2 ^ reason) time none]

/-- The queue with a daily request (R290): a waiting daily request is replaced by the later one. -/
def queueDaily (q : List SealReq) (time bound : Nat) : List SealReq :=
  if q.any fun r => r.kind == 0 && r.waiting then
    changeWaiting 0 (fun _ => sealReq 0 0 time (some bound)) q
  else q ++ [sealReq 0 0 time (some bound)]

/-- Kept billing requests that have not entered the queue (R293). -/
def keptBeyond (q : List SealReq) : Nat := (q.filter fun r => !r.placed).length

/-- Remove the oldest request that has not entered the queue. -/
def dropOldestKept : List SealReq → List SealReq
  | [] => []
  | r :: t => if r.placed then r :: dropOldestKept t else t

/-- Queue a billing request (R293): it takes a place or waits in the kept list; with 24 waiting there the oldest of them is removed,
0x8050 is raised and seal flag 9 is owed. -/
def queueBilling (s : State) (time bound : Nat) : State :=
  let q := s.kiln.queue
  let r := { sealReq 1 0 time (some bound) with placed := false }
  if 24 ≤ keptBeyond q then
    let s := raiseHeld s 0x8050
    setQueue { s with kiln := { s.kiln with billingOmitted := true } } (dropOldestKept q ++ [r])
  else setQueue s (q ++ [r])

/-- The image that stores the kept requests of a queue (R292). -/
def keptImage (q : List SealReq) : Image := recordImage recKept (keptRecord q)

/-- Queue an event seal with a reason bit, kept in the parameter store before the trigger is answered (R286, R290, R292). -/
def requestEvent (s : State) (reason : Nat) : State :=
  let q := queueEvent s.kiln.queue reason (devTime s)
  writeNow (setQueue s q) (.record recKept (keptRecord q))

end Sys2Proof.Machine
end

