-- ==== Sys2Proof/Machine/Frames.lean ====
section
/-! DEFINITION. Frames and queues: identifiers (R331), KDP headers (R57, R58), transmit queues (R334 to R337), the service
port's outgoing queue (R77, R79). -/

namespace Sys2Proof.Machine

/-- Path p (0 to 3). -/
def pathAt (s : State) (p : Nat) : PathSt := vAt s.bus.paths p pathRest
/-- Pair i (0 upstream, 1 downstream). -/
def pairAt (s : State) (i : Nat) : PairSt := vAt s.bus.pairs i pairRest
/-- Change path p. -/
def updPath (s : State) (p : Nat) (f : PathSt → PathSt) : State :=
  { s with bus := { s.bus with paths := vUpd s.bus.paths p f } }
/-- Change pair i. -/
def updPair (s : State) (i : Nat) (f : PairSt → PairSt) : State :=
  { s with bus := { s.bus with pairs := vUpd s.bus.pairs i f } }
/-- The path index of side `h` of pair i. -/
def pathOf (i h : Nat) : Nat := 2 * i + h
/-- A path lies in its pair's path mask and its pair is enabled (R348). -/
def pathPowered (s : State) (p : Nat) : Bool :=
  let pr := pairAt s (p / 2)
  pr.enabled && pr.mask.testBit (p % 2)

/-- The 29-bit identifier (R331). -/
def frameId (cls svc dst src tag : Nat) : Nat :=
  cls * 2 ^ 26 + svc * 2 ^ 22 + dst * 2 ^ 15 + src * 2 ^ 8 + tag % 256

/-- The smallest CAN FD data length that holds n bytes, among those of R58 (8 and above). -/
def fdLength (n : Nat) : Nat := ([8, 12, 16, 20, 24, 32, 48, 64].find? fun l => decide (n ≤ l)).getD 64

/-- The 8-byte KDP header (R57). -/
def kdpHeader (op flags index sub seq len : Nat) : Bytes :=
  [byte op, byte flags] ++ leBytes 2 index ++ [byte sub, byte seq] ++ leBytes 2 len

/-- The path whose queue holds what a pair sends: the holder's, or the preferred path's while the pair joins (R347). -/
def sendPath (s : State) (i : Nat) : Nat := pathOf i ((pairAt s i).holder.getD (pairAt s i).preferred)

/-- Free places of a pair's transmit queue (R336). -/
def freePlaces (s : State) (i : Nat) : Nat := 64 - (pathAt s (sendPath s i)).queue.length

/-- Append to a pair's transmit queue. A frame beyond the 64 places waits in order for one (R336; log 101). -/
def pushFrame (s : State) (i : Nat) (f : Frame) : State :=
  updPath s (sendPath s i) fun p => { p with queue := p.queue ++ [{ f with queued := s.clock.ref }] }

/-- Frames leave the transmit queue of path p without completing (R335): one of them that is in transmission may still
complete. -/
def withdraw (s : State) (p : Nat) (gone : Frame → Bool) : State :=
  updPath s p fun x => { x with queue := x.queue.filter fun f => !gone f
                                left := x.left ++ (x.queue.filter gone).map fun f => (.inr f, s.clock.ref) }

/-- A frame is an instance of publication map n. -/
def isPub (n : Nat) (f : Frame) : Bool := f.kind == .publication n

/-- Publication map n finds a place in a pair's queue: an instance pending, or one free (R336). -/
def pubPlace (s : State) (i n : Nat) : Bool :=
  let q := (pathAt s (sendPath s i)).queue
  q.any (isPub n) || decide (q.length < 64)

/-- Queue a publication (R336): it replaces a pending instance in its place, or is dropped and counted when the queue is
full (log 40). -/
def pushPub (s : State) (i n : Nat) (f : Frame) : State :=
  let p := sendPath s i
  let q := (pathAt s p).queue
  if q.any (isPub n) then
    updPath s p fun x => { x with queue := x.queue.map fun g => if isPub n g then { f with queued := s.clock.ref } else g
                                  left := x.left ++ (x.queue.filter (isPub n)).map fun g => (.inr g, s.clock.ref) }
  else if 64 ≤ q.length then raise (addN s (0x1108 + p) 0x0C 1) (0xA090 + p)
  else pushFrame s i f

/-- Queue a forwarded frame (R336): dropped and counted in 1300.08 when the queue is full. -/
def pushForwarded (s : State) (i : Nat) (f : Frame) : State :=
  if freePlaces s i = 0 then addN s 0x1300 0x08 1
  else addN (pushFrame s i f) 0x1300 (if i = 1 then 0x06 else 0x07) 1

/-- Fill the 16 places of the service queue from the frames that wait for one (R79). -/
def refillService (s : State) : State :=
  let n := 16 - s.kdp.serviceQ.length
  { s with kdp := { s.kdp with serviceQ := s.kdp.serviceQ ++ s.kdp.serviceWait.take n, serviceWait := s.kdp.serviceWait.drop n } }

/-- Queue an outgoing service-port frame (R79): with 16 queued it waits for a place and is never discarded (log 100). -/
def pushService (s : State) (f : Frame) : State :=
  refillService { s with kdp := { s.kdp with serviceWait := s.kdp.serviceWait ++ [f] } }

/-- The attention output of the service port (R77): asserted while a frame is queued. -/
def attention (s : State) : Bool := !s.kdp.serviceQ.isEmpty

/-- Remove the oldest publication copy of the service queue. -/
def dropCopy : List Frame → List Frame
  | [] => []
  | f :: r => match f.kind with
    | .pubCopy _ => r
    | _ => f :: dropCopy r

/-- Whether a queued frame is a publication copy. -/
def isCopy (f : Frame) : Bool := match f.kind with | .pubCopy _ => true | _ => false

/-- Queue a publication copy on the service port (R79): with 16 frames queued it replaces the oldest copy, or is dropped. The
oldest copy leaves its place and the new one joins at the end (log 100, DESIGN CHOICE). -/
def pushCopy (s : State) (f : Frame) : State :=
  let q := s.kdp.serviceQ
  if q.length < 16 then { s with kdp := { s.kdp with serviceQ := q ++ [f] } }
  else if q.any isCopy then { s with kdp := { s.kdp with serviceQ := dropCopy q ++ [f] } }
  else s

/-- The bytes of an outgoing service-port frame (R76). -/
def serviceBytes (f : Frame) : Bytes :=
  let body := [byte f.data.length] ++ leBytes 4 f.id ++ f.data
  [byte 0x5A] ++ body ++ leBytes 4 (crc32c body).toNat

/-- An FD frame of the device with a 29-bit identifier and bit rate switching (R331). -/
def devFrame (kind : FrameKind) (id : Nat) (data : Bytes) : Frame := ⟨kind, id, true, true, true, data, 0⟩

end Sys2Proof.Machine
end

