-- ==== Sys2Proof/Machine/Views.lean ====
section
/-! DEFINITION. Entries that show state held elsewhere: the node status word (R454), bus and queue entries, the stored seals,
records and audit entries, and the one read of an entry (R44, R297). -/

namespace Sys2Proof.Machine

/-! ## Status -/

/-- A path is error-passive: a counter above 127 (ISO 11898-1, R338) (log 45). -/
def errorPassive (p : PathSt) : Bool := decide (127 < p.txErr) || decide (127 < p.rxErr)

/-- A path passes self-test (R344). -/
def passes (s : State) (p : Nat) : Bool :=
  let x := pathAt s p
  isUp s && pathPowered s p && !errorPassive x && !x.busOff && x.xcvr == 0 && !x.lonely && !x.quiet

/-- Redundancy of pair i is intact: bits 2 and 3 of 2F00.01 (R348). -/
def redundant (s : State) (i : Nat) : Bool :=
  (pairAt s i).enabled && (pairAt s i).mask == 3 && passes s (2 * i) && passes s (2 * i + 1)

/-- 1108+p.01, the state of a path (R367; log 39). -/
def pathState (s : State) (p : Nat) : Nat :=
  let x := pathAt s p
  if !(isUp s && pathPowered s p) then 0
  else if x.xcvr ≠ 0 then 6
  else if x.busOff then 4
  else if x.lonely then 5
  else if (pairAt s (p / 2)).joinEnd.isSome then 1
  else if errorPassive x then 3
  else 2

/-- The node status word 2F00.01 (R454). -/
def nodeStatus (s : State) : Nat :=
  bitVal s.power.metrologyValid 0 + bitVal (timeTrusted s) 1 + bitVal (redundant s 0) 2 + bitVal (redundant s 1) 3
    + bitVal (getN s 0x2F00 0x02 != 0) 4 + bitVal s.cal.open_ 5 + bitVal s.power.deadlineMiss 6
    + bitVal (getN s 0x2E00 0x01 &&& 14 != 0) 7 + bitVal (s.conds.any fun c => c.code == 0xD010 || c.code == 0xD020 || decide (0xD040 ≤ c.code ∧ c.code ≤ 0xD043)) 8
    + bitVal s.power.tamperMark 9 + bitVal s.power.fallback 10
    + bitVal (raised s 0xF010 || raised s 0xF011 || raised s 0xF020) 11
    + bitVal (raised s 0xF030 || raised s 0xF031) 12

/-- Supply status 3000.08 (R478): bits 0, 2 and 6 as measured, the others as the state stands. -/
def supplyStatus (s : State) : Nat :=
  (getN s 0x3000 0x08 &&& 0x4D) + bitVal s.power.warning.isSome 1 + bitVal (raised s 0xF010) 4 + bitVal (raised s 0xF011) 5
    + bitVal (isUp s && s.power.spread) 7 + bitVal (s.power.quiet && s.power.warning.isNone) 8

/-! ## Records, seals and audit entries held (R297) -/

/-- Interval records the ring holds (R33). -/
def recordSlots : Nat := 32768
/-- Hamper address of the record with a sequence. -/
def recordAddr (seq : Nat) : Nat := 0x2200000 + 512 * (seq % recordSlots)
/-- Records made so far: the next sequence 2243.02. -/
def recordCount (s : State) : Nat := getN s 0x2243 0x02
/-- Sequence of the oldest record held. -/
def oldestRecord (s : State) : Nat := recordCount s - recordSlots
/-- A record is held. -/
def recordHeld (s : State) (seq : Nat) : Bool := decide (oldestRecord s ≤ seq) && decide (seq < recordCount s)
/-- The bytes of a record in the ring. -/
def recordBytes (s : State) (seq : Nat) : Bytes := memReads s.stor.mem (recordAddr seq) 512

/-- Hamper address of a seal slot (R282). -/
def sealAddr (slot : Nat) : Nat := 0x3200000 + 8192 * slot
/-- The stored seal with a sequence. -/
def sealOf (s : State) (seq : Nat) : Option SealMeta := s.kiln.seals.find? fun m => m.seq == seq
/-- The latest stored seal among those a test accepts. -/
def latestSeal (s : State) (ok : SealMeta → Bool) : Option SealMeta :=
  (s.kiln.seals.filter fun m => m.valid && ok m).foldl (fun (a : Option SealMeta) m => match a with
    | none => some m
    | some b => if b.seq < m.seq then some m else some b) none
/-- All ones in 64 bits: no such sequence. -/
def noSeq : Nat := 0xFFFFFFFFFFFFFFFF
/-- The sequence of a seal, or all ones. -/
def seqOr (m : Option SealMeta) : Nat := (m.map (·.seq)).getD noSeq
/-- The smallest sequence of the rolling slots, or all ones. -/
def oldestRolling (s : State) : Nat :=
  (s.kiln.seals.filter fun m => m.valid && decide (320 ≤ m.slot)).foldl (fun a m => min a m.seq) noSeq

/-- Ordinal of the audit entry with a 32-bit sequence, among those held. -/
def auditOrdinal (s : State) (seq : Nat) : Option Nat :=
  let n := s.audit.count
  let back := (auditSeq s + 2 ^ 32 - seq) % 2 ^ 32
  if back < min n auditSlots then some (n - 1 - back) else none

/-- The 64 bytes of the audit entry with an ordinal. -/
def auditEntry (s : State) (ordinal : Nat) : Bytes :=
  if ordinal = 0 then originEntry else memReads s.stor.mem (auditAddr ordinal) 64

/-! ## The configuration digest (R285) -/

/-- Mode of port n. -/
def portMode (s : State) (n : Nat) : Nat := getN s (0x2000 + n) 0x01

/-- Port n is the odd port of an active pair (R83): the even port is in a pair mode that has been enabled (R85). -/
def pairedOdd (s : State) (n : Nat) : Bool :=
  n % 2 == 1 && (portMode s (n - 1) == 4 || portMode s (n - 1) == 14) && (vAt s.ports (n - 1) portRest).modeAt.isNone

/-- The contribution of one entry; the mode of the odd port of an active pair is 16 (R83, R85). -/
def digestPart (s : State) (index sub : Nat) : Bytes :=
  let v := if 0x2000 ≤ index && decide (index < 0x2040) && sub == 0x01 && pairedOdd s (index - 0x2000) then [16] else getBytes s index sub
  leBytes 2 index ++ leBytes 1 sub ++ leBytes 2 v.length ++ v

/-- The contributions of the P and A entries of one index, ascending. -/
def digestIndex (s : State) (rows : List Row) (index : Nat) : Bytes :=
  (rows.map fun r => if r.isP ∧ r.isA then
    ((List.range (r.hi + 1 - r.lo)).map fun i => digestPart s index (r.lo + i)).flatten else []).flatten

/-- Insert an object by its first index, ascending. -/
def objInsert (o : Obj) : List Obj → List Obj
  | [] => [o]
  | p :: r => if o.base < p.base then o :: p :: r else p :: objInsert o r

/-- The objects ascending by index. -/
def objectsSorted : List Obj := objects.foldl (fun a o => objInsert o a) []

/-- The byte string of R285. -/
def configString (s : State) : Bytes :=
  (objectsSorted.map fun o => ((List.range o.count).map fun i => digestIndex s o.rows (o.base + i)).flatten).flatten

/-- The configuration digest 2B20.08 (R285). -/
def configDigest (s : State) : Bytes := sha256 (configString s)

/-! ## Firmware slots (R314, R325) -/

/-- What a slot's state record holds (R317): state, length, digest, bytes acknowledged, attempts, firmware version, security
version, dictionary issue, whether it is the image put in at manufacture (log 12). -/
structure SlotInfo where
  state : Nat
  length : Nat
  digest : Bytes
  acked : Nat
  attempts : Nat
  version : Nat
  security : Nat
  dictionary : Nat
  factory : Bool
  deriving DecidableEq, Repr

/-- The slot state as bytes of its record. -/
def slotBytes (i : SlotInfo) : Bytes :=
  leBytes 1 i.state ++ leBytes 4 i.length ++ i.digest ++ leBytes 4 i.acked ++ leBytes 1 i.attempts ++ leBytes 4 i.version
    ++ leBytes 2 i.security ++ leBytes 2 i.dictionary ++ leBytes 1 (bitVal i.factory 0)

/-- The slot state of a record's bytes. -/
def slotOfBytes (b : Bytes) : SlotInfo :=
  ⟨fieldN b 0 1, fieldN b 1 4, (b.drop 5).take 32, fieldN b 37 4, fieldN b 41 1, fieldN b 42 4, fieldN b 46 2,
    fieldN b 48 2, fieldN b 50 1 == 1⟩

/-- The state of slot s. A record never written is the state at manufacture: slot 0 confirmed with the image put in at
manufacture, slot 1 empty (log 12). -/
def slotInfo (s : State) (n : Nat) : SlotInfo :=
  match recValue s (recSlot n) with
  | some b => slotOfBytes b
  | none => if n = 0 then
      ⟨4, 8113 + Config.factorySize.toNat, sha256 factoryImage, 0, 0, Config.factoryVersion.toNat, Config.factorySecurity.toNat,
        Config.factoryDictionary.toNat, true⟩
    else ⟨0, 0, List.replicate 32 0, 0, 0, 0, 0, 0, false⟩

/-- The preferred slot (R319). -/
def preferredSlot (s : State) : Nat := match recValue s recPreferred with | some b => leNat b % 2 | none => 0
/-- The update target: the slot not running (R317). -/
def targetSlot (s : State) : Nat := 1 - s.power.runningSlot

/-! ## Reading an entry (R44, R297, R307) -/

/-- A number as the bytes of an entry. -/
def numBytes (index sub n : Nat) : Bytes := leBytes (entSize index sub) n

/-- The attestation state of a requester (2C10.02) (log 91). -/
def attestState (s : State) (who : Requester) : Nat :=
  if s.kiln.statements.any fun t => t.who == who then 3
  else match s.kiln.queue.find? fun r => r.kind == 4 && r.who == who with
    | some r => if r.waiting then 1 else 2
    | none => 0

/-- Entries of the dictionary chapter and the trust chapters that are computed when read (log 42). -/
def viewTrust (s : State) (who : Requester) (index sub : Nat) : Option (Except Nat Bytes) :=
  let num (n : Nat) : Option (Except Nat Bytes) := some (.ok (numBytes index sub n))
  match index, sub with
  | 0x1000, 0x07 => num (slotInfo s s.power.runningSlot).version
  | 0x1000, 0x08 => some (.ok (slotInfo s s.power.runningSlot).digest)
  | 0x1000, 0x09 => num s.power.runningSlot
  | 0x1000, 0x0A => num (slotInfo s s.power.runningSlot).dictionary
  | 0x1010, 0x03 => num s.kdp.transfers.length
  | 0x1010, 0x04 => num s.kdp.snaps.length
  | 0x2B00, 0x01 => num (if recordCount s = 0 then noSeq else oldestRecord s)
  | 0x2B00, 0x02 => num (if recordCount s = 0 then noSeq else recordCount s - 1)
  | 0x2B00, 0x03 => some (.ok (match recValue s recChain with | some b => b | none => List.replicate 32 0))
  | 0x2B00, 0x08 => num (getN s 0x2243 0x04)
  | 0x2B00, 0x05 =>
    let q := getN s 0x2B00 0x04
    some (if recordHeld s q then .ok (recordBytes s q) else .error 0x0401)
  | 0x2B00, 0x07 =>
    let q := getN s 0x2B00 0x04
    some (if recordHeld s q then
      .ok ((List.range (min (getN s 0x2B00 0x06) (recordCount s - q))).map fun i => recordBytes s (q + i)).flatten
      else .error 0x0401)
  | 0x2B10, 0x02 => num (oldestRolling s)
  | 0x2B10, 0x05 =>
    some (match sealOf s (getN s 0x2B10 0x04) with
      | some m => if m.valid then .ok (memReads s.stor.mem (sealAddr m.slot) 8112) else .error 0x0802
      | none => .error 0x0401)
  | 0x2B10, 0x06 =>
    some (match sealOf s (getN s 0x2B10 0x04) with
      | some m => if m.valid then .ok (memReads s.stor.mem (sealAddr m.slot) 256) else .error 0x0802
      | none => .error 0x0401)
  | 0x2B10, 0x07 => num (((sealOf s (getN s 0x2B10 0x04)).filter (·.valid)).map (·.slot) |>.getD 0xFFFF)
  | 0x2B10, 0x08 => num (seqOr (latestSeal s fun _ => true))
  | 0x2B10, 0x09 => num (seqOr (latestSeal s fun m => m.kind == 0))
  | 0x2B10, 0x0A => num (seqOr (latestSeal s fun m => m.kind == 1))
  | 0x2B10, 0x0B => num (seqOr (latestSeal s fun m => m.kind == 2))
  | 0x2B10, 0x0C => num (seqOr (latestSeal s fun m => m.kind == 3))
  | 0x2B20, 0x05 => num (s.kiln.onDemand.filter fun t => decide (s.clock.tick < t + 3600000)).length
  | 0x2B20, 0x08 => some (.ok (configDigest s))
  | 0x2C00, 0x05 => num (if s.kiln.keyFault then 1 else if s.kiln.trngHalted.isSome then 2 else 0)
  | 0x2C10, 0x02 => num (attestState s who)
  | 0x2C10, 0x03 => some (match s.kiln.statements.find? fun t => t.who == who with
      | some t => .ok t.value
      | none => .error 0x0401)
  | 0x2C20, 0x01 => num ((s.audit.count - min s.audit.count auditSlots) % 2 ^ 32)
  | 0x2C20, 0x02 => num (auditSeq s)
  | 0x2C20, 0x03 => some (.ok s.audit.head)
  | 0x2C20, 0x05 => some (match auditOrdinal s (getN s 0x2C20 0x04) with
      | some n => .ok (auditEntry s n)
      | none => .error 0x0401)
  | 0x2C20, 0x07 => some (match auditOrdinal s (getN s 0x2C20 0x04) with
      | some n => .ok ((List.range (min (getN s 0x2C20 0x06) (s.audit.count - n))).map fun i => auditEntry s (n + i)).flatten
      | none => .error 0x0401)
  | 0x2C30, 0x05 => num (bitVal (vAt s.thermos.tamper 0 tamperRest).active 0
      + bitVal (vAt s.thermos.tamper 1 tamperRest).active 1)
  | 0x2D10, 0x03 => num (slotInfo s (targetSlot s)).acked
  | 0x2D10, 0x06 => num (targetSlot s)
  | 0x2D20, 0x06 => num s.kiln.counter
  | 0x2F00, 0x01 => num (nodeStatus s)
  | 0x2F00, 0x07 => num s.power.coreMv
  | 0x3000, 0x01 => num (if s.power.warning.isSome then 2 else if s.power.quiet then 1 else 0)
  | 0x3000, 0x08 => num (supplyStatus s)
  | 0x3002, 0x01 => some (.ok s.thermos.scratch)
  | _, _ => none

/-- Entries of firmware slot n (R325). -/
def viewSlot (s : State) (n sub : Nat) : Option (Except Nat Bytes) :=
  let i := slotInfo s n
  let num (x : Nat) : Option (Except Nat Bytes) := some (.ok (numBytes 0x2D00 sub x))
  match sub with
  | 0x01 => num i.state
  | 0x02 => num i.length
  | 0x03 => some (.ok i.digest)
  | 0x04 => num i.version
  | 0x05 => num i.security
  | 0x06 => num i.attempts
  | 0x07 => num (if preferredSlot s = n then 1 else 0)
  | _ => none

/-- Entries of the bus and time chapters that are computed when read (log 39). -/
def viewBus (s : State) (index sub : Nat) : Option (Except Nat Bytes) :=
  let num (n : Nat) : Option (Except Nat Bytes) := some (.ok (numBytes index sub n))
  if index = 0x1100 ∧ sub = 5 then num (pairAt s 0).nodeId
  else if index = 0x1100 ∧ sub = 6 then num (bitVal s.bus.resetNeeded 0)
  else if (index = 0x1104 ∨ index = 0x1105) ∧ sub = 5 then num ((pairAt s (index - 0x1104)).holder.getD 0xFF)
  else if 0x1108 ≤ index ∧ index ≤ 0x110B then
    let p := index - 0x1108
    let x := pathAt s p
    match sub with
    | 0x01 => num (pathState s p)
    | 0x02 => num (bitVal ((pairAt s (p / 2)).holder == some (p % 2)) 0)
    | 0x03 => num (bitVal (passes s p) 0)
    | 0x04 => num (min 255 x.txErr)
    | 0x05 => num (min 255 x.rxErr)
    | 0x0A => num (min 64 x.queue.length)
    | 0x0B => num x.trips.length
    | 0x0E => num x.xcvr
    | _ => none
  else if index = 0x1110 ∧ sub = 4 then
    num ((List.range 64).foldl (fun a c =>
      a + bitVal (s.bus.stuck.testBit c || s.bus.remotes.any fun r => r.channel == c && r.asserted) c) 0)
  else if index = 0x1300 ∧ sub = 2 then num ((getBytes s 0x1301 1).length / 2)
  else if index = 0x1300 ∧ sub = 3 then num ((getBytes s 0x1302 1).length / 6)
  else if index = 0x2900 ∧ sub = 6 then
    num (match s.clock.bound with | some b => min ((b + 999999) / 1000000) 0xFFFFFFFE | none => 0xFFFFFFFF)
  else if index = 0x2900 ∧ sub = 7 then num (bitVal s.clock.halt.isSome 0)
  else if index = 0x2900 ∧ sub = 0x0D then num (ofSigned 32 (s.clock.slew.tdiv 1536))
  else none

/-! ## Bindings (R111) -/

/-- Loop l reads port n: as measurement, setpoint source or auxiliary port, while it is not Off. -/
def loopReads (s : State) (l n : Nat) : Bool :=
  getN s (0x2300 + l) 0x01 != 0 &&
    ((getN s (0x2300 + l) 0x0A == 0 && getN s (0x2300 + l) 0x0B == n)
      || ((getN s (0x2300 + l) 0x0C == 1 || getN s (0x2300 + l) 0x0C == 2) && getN s (0x2300 + l) 0x0D == n)
      || getN s (0x2400 + l) 0x13 == n)

/-- Meter m is enabled and port n is one of its sensors. -/
def meterSensor (s : State) (m n : Nat) : Bool :=
  getB s (0x2200 + m) 0x01 && (getN s (0x2210 + m) 0x01 == n || getN s (0x2210 + m) 0x02 == n)

/-- Lane k runs and uses port n. -/
def laneUses (s : State) (k n : Nat) : Bool :=
  getB s (0x2120 + k) 0x02 && n / 8 == k &&
    ((getN s (0x2120 + k) 0x01 == 1 && (getN s (0x2128 + k) 0x01 == n % 8 || getN s (0x2128 + k) 0x02 == n % 8))
      || (getN s (0x2120 + k) 0x01 == 2 && (getN s (0x2128 + k) 0x03).testBit (n % 8)))

/-- Zone z is enabled and port n is one of its presence ports. -/
def zonePresence (s : State) (z n : Nat) : Bool :=
  getB s (0x2800 + z) 0x01 && (List.range 4).any fun i => getN s (0x2820 + z) (0x0D + i) == n

/-- The binding word 2000+n.0F (R111). -/
def bindingWord (s : State) (n : Nat) : Nat :=
  bitVal ((List.range 96).any fun l => loopReads s l n) 0
    + bitVal ((List.range 96).any fun l => getN s (0x2300 + l) 0x01 != 0 && getN s (0x2300 + l) 0x0E == n) 1
    + bitVal ((List.range 16).any fun g => getB s (0x2700 + g) 0x01 && getN s (0x2700 + g) 0x02 == n) 2
    + bitVal ((List.range 16).any fun m => meterSensor s m n) 3
    + bitVal (laneUses s (n / 8) n) 4
    + bitVal ((List.range 32).any fun q => getB s (0x2220 + q) 0x01 && getN s (0x2220 + q) 0x02 == n) 5
    + bitVal ((List.range 32).any fun z => zonePresence s z n) 6
    + bitVal (getN s (0x2040 + n) 0x18 != 0xFF) 7 + bitVal (getN s (0x2040 + n) 0x1B != 0xFF) 8
    + bitVal (pairedOdd s n) 9

/-! ## Loops, groups, traces -/

/-! ## State access -/

/-- Loop l. -/
def loopAt (s : State) (l : Nat) : LoopSt := vAt s.loops l loopRest
/-- Change loop l. -/
def updLoop (s : State) (l : Nat) (f : LoopSt → LoopSt) : State := { s with loops := vUpd s.loops l f }
/-- Trace set t. -/
def traceAt (s : State) (t : Nat) : TraceSt := vAt s.traces t ⟨0, [], none, 0, 0, false, none, none, none⟩
/-- Change trace set t. -/
def updTrace (s : State) (t : Nat) (f : TraceSt → TraceSt) : State := { s with traces := vUpd s.traces t f }

/-- Mode entry of loop l. -/
def loopMode (s : State) (l : Nat) : Nat := getN s (0x2300 + l) 0x01
/-- Sample period in ms. -/
def loopTs (s : State) (l : Nat) : Nat := max 1 (getN s (0x2400 + l) 0x01)
/-- A gain, time or limit of loop l. -/
def lf (s : State) (l sub : Nat) : F32 := getF s (0x2400 + l) sub

/-- Member i + 1 of group g. -/
def groupMember (s : State) (g i : Nat) : Nat := getN s (0x2700 + g) (0x03 + i)
/-- The members of group g, in order of their entries. -/
def groupMembers (s : State) (g : Nat) : List Nat := ((List.range 6).map (groupMember s g)).filter (· < 96)
/-- The group loop l is a member of (R249). -/
def groupOf (s : State) (l : Nat) : Option Nat := (List.range 16).find? fun g => (groupMembers s g).contains l
/-- The port loop l drives, alone or through its group. -/
def loopPort (s : State) (l : Nat) : Nat :=
  match groupOf s l with
  | some g => getN s (0x2700 + g) 0x02
  | none => getN s (0x2300 + l) 0x0E

/-! ## Work units (R223, R224) -/

/-- A trace set is armed (R268). -/
def traceArmed (s : State) (t : Nat) : Bool := getN s (0x2780 + t) 0x13 == 1 || getN s (0x2780 + t) 0x13 == 2

/-- Work units of one job of loop l (R223). -/
def workUnits (s : State) (l : Nat) : Nat :=
  1 + (if getN s (0x2400 + l) 0x11 = 0 then 0 else 1) + (if getB s (0x2500 + l) 0x01 then 2 else 0)
    + (if (groupOf s l).isSome then 1 else 0)
    + (if ((List.range 8).any fun t => traceArmed s t && getN s (0x2780 + t) 0x02 == l) then 1 else 0)

/-- Release phase of loop l (R224). -/
def releasePhase (s : State) (l : Nat) : Nat := (getN s (0x2400 + l) 0x02 + getN s (0x2400 + l) 0x03) % loopTs s l

/-- Loops i and j are compatible (R224). -/
def compatible (s : State) (i j : Nat) : Bool :=
  (((releasePhase s i : Int) - releasePhase s j) % (Nat.gcd (loopTs s i) (loopTs s j) : Nat)) == 0

/-- Loops that are not Off. -/
def activeLoops (s : State) : List Nat := (List.range 96).filter fun l => loopMode s l != 0

/-- Coincidence load of loop l (R224); 0 in mode Off. -/
def coincidence (s : State) (l : Nat) : Nat :=
  if loopMode s l = 0 then 0
  else workUnits s l + ((activeLoops s).map fun j => if j != l && compatible s l j then workUnits s j else 0).foldl (· + ·) 0

/-- M and E of a cell, the values of a write still pending first (R34, R260). -/
def cellAt (s : State) (l j : Nat) : F32 × F32 :=
  let pending := s.stor.pend.foldl (fun a p => match p.target with
    | .cell i k m e => if i = l ∧ k = j then some (m, e) else a
    | _ => a) none
  match pending with
  | some c => c
  | none => (mapGet (repAt s l).cells j).getD (0, 0)

/-- The window of cells 2500+l.10 (R273): from cell 0F on, up to 8 192 cells or the last one; M then E of each. -/
def memoryWindow (s : State) (l : Nat) : Bytes :=
  let n := getN s (0x2500 + l) 0x03
  let first := getN s (0x2500 + l) 0x0F
  if !getB s (0x2500 + l) 0x01 then []
  else ((List.range (min 8192 (n - first))).map fun i =>
    let c := cellAt s l (first + i)
    leBytes 4 c.1.toNat ++ leBytes 4 c.2.toNat).flatten

/-- Loop entries computed when read (R246, R273, R274). -/
def viewLoop (s : State) (index sub : Nat) : Option (Except Nat Bytes) :=
  if 0x2400 ≤ index ∧ index < 0x2460 then
    let l := index - 0x2400
    match sub with
    | 0x1E => some (.ok (leBytes 4 (loopAt s l).vars.i.toNat))
    | 0x1F => some (.ok (leBytes 4 (loopAt s l).vars.d.toNat))
    | 0x20 => some (.ok (leBytes 4 (loopAt s l).vars.g.toNat))
    | 0x21 => some (.ok (leBytes 1 (workUnits s l)))
    | 0x22 => some (.ok (leBytes 1 (coincidence s l)))
    | 0x23 => some (.ok (leBytes 4 (loopAt s l).vars.dtMs))
    | _ => none
  else if 0x2500 ≤ index ∧ index < 0x2560 then
    let l := index - 0x2500
    match sub with
    | 0x0C => some (.ok (leBytes 4 (if getB s index 0x01 then (loopAt s l).vars.r else 0).toNat))
    | 0x10 => some (.ok (memoryWindow s l))
    | _ => none
  else if 0x2780 ≤ index ∧ index < 0x2788 ∧ sub = 0x15 then
    some (match (traceAt s (index - 0x2780)).kept with
      | some b => if getN s index 0x13 = 3 then .ok b else .error 0x0401
      | none => .error 0x0401)
  else none

/-! ## Display and time -/

/-- State of the display 2A00.0B (R443). -/
def displayState (s : State) : Nat :=
  let d := s.display
  if !getB s 0x2A00 0x01 then 0
  else if d.railFault then 5
  else if d.mending then 3
  else if !d.rects.isEmpty then 2
  else if !d.queue.isEmpty && (raised s 0xD030 || s.power.quiet) then 4
  else 1

/-- Display status 2A00.11 (R443). -/
def displayStatus (s : State) : Nat :=
  let d := s.display
  let on := getB s 0x2A00 0x01
  bitVal on 0 + bitVal (on && !d.railFault && !d.stopped) 1 + bitVal (!d.rects.isEmpty && !d.mending) 2 + bitVal d.mending 3
    + bitVal (raised s 0xD030) 4 + bitVal d.mismatch 5 + bitVal (getN s 0x2A00 0x10 == 0) 6 + bitVal d.railFault 7 + bitVal d.mended 8

/-- State of user window w (R443): 0 disabled, 1 idle, 2 queued, 3 running, 4 content lost (log 80). -/
def windowState (s : State) (w : Nat) : Nat :=
  let d := s.display
  if !getB s (0x2A10 + w) 0x01 then 0
  else if d.rects.any fun r => r.window == w then 3
  else if d.queue.any fun r => r.window == w then 2
  else if d.lost.testBit w then 4 else 1

/-- Display entries computed when read. -/
def viewShown (s : State) (index sub : Nat) : Option (Except Nat Bytes) :=
  let num (n : Nat) : Option (Except Nat Bytes) := some (.ok (numBytes index sub n))
  if index = 0x2A00 ∧ sub = 0x0B then num (displayState s)
  else if index = 0x2A00 ∧ sub = 0x0C then num s.display.rects.length
  else if index = 0x2A00 ∧ sub = 0x0D then num s.display.queue.length
  else if index = 0x2A00 ∧ sub = 0x11 then num (displayStatus s)
  else if 0x2A10 ≤ index ∧ index < 0x2A18 ∧ sub = 0x07 then num (windowState s (index - 0x2A10))
  else if 0x2A10 ≤ index ∧ index < 0x2A18 ∧ sub = 0x08 then
    num (s.display.queue.filter fun q => q.window == index - 0x2A10).length
  else none

/-- Port, slot, calibration and program entries computed when read. -/
def viewField (s : State) (index sub : Nat) : Option (Except Nat Bytes) :=
  if 0x2880 ≤ index ∧ index < 0x28C0 ∧ sub = 0x02 then some (.ok (leBytes 4 (programNow s (index - 0x2880)).toNat))
  else if 0x2000 ≤ index ∧ index ≤ 0x203F ∧ sub = 0x0F then some (.ok (leBytes 2 (bindingWord s (index - 0x2000))))
  else if 0x2000 ≤ index ∧ index ≤ 0x203F ∧ sub = 0x01 ∧ pairedOdd s (index - 0x2000) = true then some (.ok [16])
  else if 0x2000 ≤ index ∧ index ≤ 0x203F ∧ sub = 0x03 ∧ pairedOdd s (index - 0x2000) = true then
    some (.ok (leBytes 2 (getN s index 0x03 + 2048)))
  else if 0x2200 ≤ index ∧ index ≤ 0x220F ∧ 0x10 ≤ sub ∧ sub ≤ 0x2F then
    some (.ok (leBytes 4 (getN s index (0x30 + (sub - 0x10) / 4) / 2 ^ (32 * ((sub - 0x10) % 4)))))
  else if index = 0x2D00 then viewSlot s 0 sub
  else if index = 0x2D01 then viewSlot s 1 sub
  else if 0x2110 ≤ index ∧ index ≤ 0x2113 ∧ sub = 0x08 then
    some (.ok [byte ((List.range 8).foldl (fun a k => a + bitVal (getN s (0x2100 + k) 0x0A == index - 0x2110) k) 0)])
  else if index = 0x2180 ∧ sub = 0x01 then some (.ok [if s.cal.open_ then 1 else 0])
  else if index = 0x2180 ∧ sub = 0x02 then
    some (.ok (leBytes 4 (if s.cal.open_ then (s.cal.openedTick + 1800000 - s.clock.tick + 999) / 1000 else 0)))
  else if index = 0x2180 ∧ sub = 0x03 then some (.ok [if s.cal.calN then 1 else 0])
  else none

/-- The value a read of an entry returns, or the abort code it ends in: steps 1 and 2 of R44, the write-only check, then the
entry's own rule. -/
def readEntry (s : State) (who : Requester) (index sub : Nat) : Except Nat Bytes :=
  match objAt index with
  | none => .error 0x0101
  | some (o, _) =>
    match findRow o.rows sub with
    | none => .error 0x0102
    | some r =>
      if r.acc = .wo then .error 0x0202
      else match viewTrust s who index sub with
        | some v => v
        | none => match viewBus s index sub with
          | some v => v
          | none => match viewField s index sub with
            | some v => v
            | none => match viewLoop s index sub with
              | some v => v
              | none => match viewShown s index sub with
                | some v => v
                | none => .ok (getBytes s index sub)

/-- A NaN leaves the device with bits the spec does not fix: any NaN pattern (log 5). -/
def wireValue (s : State) (index sub : Nat) (v : Bytes) : Bytes :=
  match rowAt index sub with
  | some r =>
    if r.ty = .f32 ∧ fIsNaN (BitVec.ofNat 32 (leNat v)) = true then
      let b := Config.nanBits (keyOf index sub + 0x1000000 * s.used)
      leBytes 4 (if fIsNaN b then b else nan32).toNat
    else v
  | none => v

/-- What a reader receives (R42; log 5). -/
def readWire (s : State) (who : Requester) (index sub : Nat) : Except Nat Bytes :=
  match readEntry s who index sub with
  | .ok v => .ok (wireValue s index sub v)
  | .error e => .error e

end Sys2Proof.Machine
end

