-- ==== Sys2Proof/Machine/Pubs.lean ====
section
/-! DEFINITION. Publication maps (R69 to R73) and the end of every command: condition events fire the event triggers. -/

namespace Sys2Proof.Machine

/-- Publication map n. -/
def pubAt (s : State) (n : Nat) : PubMap := vAt s.kdp.pubs n pubRest
/-- Change publication map n. -/
def updPub (s : State) (n : Nat) (f : PubMap → PubMap) : State :=
  { s with kdp := { s.kdp with pubs := vUpd s.kdp.pubs n f } }

/-- An item of a map (R69): index, subindex, length. -/
def itemOf (w : Nat) : Nat × Nat × Nat := (w / 65536, w / 256 % 256, w % 256)

/-- The items of a map: subindices 10 upward, as many as subindex `count` says. -/
def mapItems (s : State) (index count : Nat) : List (Nat × Nat × Nat) :=
  (List.range (min 16 (getN s index count))).map fun i => itemOf (getN s index (0x10 + i))

/-- The value of an item as a reader receives it, at its length. -/
def sampleItem (s : State) (it : Nat × Nat × Nat) : Bytes :=
  match readWire s .device it.1 it.2.1 with
  | .ok v => padTo it.2.2 (v.take it.2.2)
  | .error _ => List.replicate it.2.2 0

/-- An instance of map n waits unsent in the upstream transmit queue (R336). -/
def pubWaits (s : State) (n : Nat) : Bool := (pathAt s (sendPath s 0)).queue.any (isPub n)

/-- The transfer tag of map n's next frame (R70): the count of its transmissions; a frame that replaces an unsent one takes that one's
place in the count. The first transmission after a reset has tag 0 (log 100, DESIGN CHOICE). -/
def pubTag (s : State) (n : Nat) : Nat := ((pubAt s n).count + bif pubWaits s n then 255 else 0) % 256

/-- The publication frame of map n, sampled now (R70, R71). -/
def pubFrame (s : State) (n : Nat) (kind : FrameKind) (pad : Bool) : Frame :=
  let idx := 0x1200 + n
  let body := ((mapItems s idx 0x0A).map (sampleItem s)).flatten
  let hdr := kdpHeader 0x10 0 (n + 256 * getN s idx 0x09) 0 0 body.length
  let data := hdr ++ body
  devFrame kind (frameId (getN s idx 0x08) 2 0 (pairAt s 0).nodeId (pubTag s n))
    (if pad then padTo (fdLength data.length) data else data)

/-- The change item's present value (R72). A Change item above the map's number of items names none, and its trigger never fires
(log 100, DESIGN CHOICE). -/
def changeValue (s : State) (n : Nat) : Option (Nat × Nat × Bytes) :=
  ((mapItems s (0x1200 + n) 0x0A)[getN s (0x1200 + n) 0x05 - 1]?).map fun it => (it.1, it.2.1, sampleItem s it)

/-- Send one frame of map n now (R70 to R73): queued upstream (R336), copied to the service port if set (R79), and remembered for
the change trigger, the inhibit time and the tag (log 40). With no place in the queue it is dropped and counted there (R336): nothing
has been transmitted, and only its trigger is over. -/
def pubSend (s : State) (n : Nat) : State :=
  let s1 := pushPub s 0 n (pubFrame s n (.publication n) true)
  if pubPlace s 0 n then
    let s2 := if (getN s 0x1010 0x06).testBit 0 then pushCopy s1 (pubFrame s n (.pubCopy n) false) else s1
    updPub s2 n fun p => { p with lastTx := some s.clock.tick, deferred := false, lastValue := (changeValue s n).map (·.2.2)
                                  count := (pubTag s n + 1) % 256 }
  else updPub s1 n fun p => { p with deferred := false }

/-- The inhibit time since the last transmission is running (R72). -/
def inhibited (s : State) (n : Nat) : Bool :=
  match (pubAt s n).lastTx with
  | some t => decide (s.clock.tick < t + getN s (0x1200 + n) 0x04)
  | none => false

/-- Publications leave the device: enabled map, firmware running, not in Quiet (R466), no reference fault (R28; log 47). -/
def pubLive (s : State) (n : Nat) : Bool := islandsRun s && !s.power.quiet && getB s (0x1200 + n) 0x01

/-- A trigger of map n fires (R72): it sends, or with the inhibit time running it is counted and deferred (log 47). -/
def pubFire (s : State) (n : Nat) : State :=
  if !pubLive s n then s
  else if inhibited s n then addN (updPub s n fun p => { p with deferred := true }) (0x1200 + n) 0x20 1
  else pubSend s n

/-- Map n is triggered by one of the noted condition events (R72). -/
def eventHits (s : State) (n : Nat) : Bool :=
  (getN s (0x1200 + n) 0x02).testBit 2 && (getN s (0x1200 + n) 0x07 &&& s.kdp.events) != 0

/-- Fire the event triggers of the conditions raised or cleared in this command (R72). -/
def flushEvents (s : State) : State :=
  if s.kdp.events = 0 then s
  else
    let s1 := (List.range 64).foldl (fun a n => if eventHits s n then pubFire a n else a) s
    { s1 with kdp := { s1.kdp with events := 0 } }

/-- The end of a meaning: the events it noted fire, and the state is the answer. -/
def done (s : State) : Out := .next (flushEvents s)

/-- The end of a meaning that acts only while a test holds; otherwise nothing happens (log 1). -/
def doneIf (c : Bool) (s t : State) : Out := if c then done t else .next s

end Sys2Proof.Machine
end

