-- ==== Sys2Proof/Machine/Trips.lean ====
section
/-! DEFINITION. Ports as the event fabric sees them: faults (R102, R103), outputs and their ranks (R31, R95, R101), trips
(R104 to R108), trip frames (R349, R350). -/

namespace Sys2Proof.Machine

/-- Port n. -/
def portAt (s : State) (n : Nat) : PortSt := vAt s.ports n portRest

/-- A port mode write waits for its 2 ms: the operation is not over (R42, R85). -/
def modePending (s : State) : Bool := (List.range 64).any fun n => (portAt s n).modeAt.isSome
/-- Change port n. -/
def updPort (s : State) (n : Nat) (f : PortSt → PortSt) : State := { s with ports := vUpd s.ports n f }

/-- Mode of an output (R84). -/
def isOutput (m : Nat) : Bool := decide (11 ≤ m) && decide (m ≤ 14)
/-- Mode of the shared digital input chain (R90). -/
def isDigital (m : Nat) : Bool := m == 5 || m == 6 || m == 7 || m == 15

/-! ## Faults (R102, R103) -/

/-- Condition of fault type t on port n. -/
def faultCode (t n : Nat) : Nat := 0x1000 + 0x40 * t + n
/-- Status bit of fault type t (R111). -/
def faultBit (t : Nat) : Nat := if t = 8 then 14 else t
/-- Fault type t is present on port n. -/
def hasFault (s : State) (n t : Nat) : Bool := raised s (faultCode t n)
/-- The order of R103. -/
def faultOrder : List Nat := [5, 3, 8, 2, 1, 4, 7, 6]

/-- Status bits of the faults and the fault code, from the conditions raised (R102, R103). -/
def showFaults (s : State) (n : Nat) : State :=
  let s1 := faultOrder.foldl (fun a t => setBit a (0x2000 + n) 0x03 (faultBit t) (hasFault s n t)) s
  setN s1 (0x2000 + n) 0x10 (match faultOrder.find? (hasFault s n) with
    | some t => faultCode t n
    | none => 0x1000)

/-- An input fault makes the process value NaN (R102): types 1, 2, 4, 6, and 3 on a current input. -/
def faultNaN (s : State) (n : Nat) : Bool :=
  hasFault s n 1 || hasFault s n 2 || hasFault s n 4 || hasFault s n 6 || (hasFault s n 3 && portMode s n == 2)

/-- Set the process value; while an input fault is present it is NaN, and the Valid bit says whether it is current and
without fault (R102, R111). -/
def setPv (s : State) (n : Nat) (v : F32) : State :=
  let v := if faultNaN s n then nan32 else v
  let s1 := setF s (0x2000 + n) 0x02 v
  setBit s1 (0x2000 + n) 0x03 0 (!fIsNaN v && (faultOrder.all fun t => !hasFault s n t))

/-- Raise or renew a fault whose cause is present. -/
def setFault (s : State) (n t : Nat) : State :=
  let s1 := showFaults (raiseHeld s (faultCode t n)) n
  if faultNaN s1 n then setPv s1 n nan32
  else setBit s1 (0x2000 + n) 0x03 0 false
/-- The cause of a fault is absent. -/
def faultGone (s : State) (n t : Nat) : State := causeGone s (faultCode t n)
/-- Clear a fault at once; a process value that stands without any fault is valid again (R111). -/
def clearFault (s : State) (n t : Nat) : State :=
  let s1 := showFaults (dropCond s (faultCode t n)) n
  setBit s1 (0x2000 + n) 0x03 0 (!fIsNaN (getF s1 (0x2000 + n) 0x02) && (faultOrder.all fun t => !hasFault s1 n t))
/-- Clear every fault of a port. -/
def clearFaults (s : State) (n : Nat) : State :=
  showFaults (faultOrder.foldl (fun a t => dropCond a (faultCode t n)) s) n
/-- Judge a fault now. -/
def judgeFault (s : State) (n t : Nat) (cause : Bool) : State := if cause then setFault s n t else faultGone s n t

/-! ## Outputs (R31, R95, R101) -/

/-- The safe value of a port. -/
def safeValue (s : State) (n : Nat) : F32 := getF s (0x2000 + n) 0x05

/-- A percentage in thousandths, clamped to 0 to 100 %. -/
def milliPercent (v : F32) : Nat :=
  match (v32 (fclamp v (f32 0) (f32 100))).toRat with
  | some (a, b) => (roundAway (a * 1000) b).toNat
  | none => 0

/-! ## Actuators (R100) -/

/-- Run time of a move of `d` thousandths of a percent, in milliseconds. -/
def moveMs (s : State) (n d : Nat) : Nat := d * getN s (0x2040 + n) 0x15 / 100

/-- Thousandths of a percent travelled in `ms` milliseconds. -/
def travelled (s : State) (n ms : Nat) : Nat := ms * 100 / max 1 (getN s (0x2040 + n) 0x15)

/-- The estimate shown as the process value; NaN while unknown (R100). -/
def showEstimate (s : State) (n : Nat) : State :=
  match (portAt s n).estimate with
  | some e => setPv s n (f32 e 1000)
  | none => setPv s n nan32

/-- The driver of one of pair n's lines is off by over-temperature (R99): the open line hangs on the even port, the close line on
the odd one (R84). -/
def lineHot (s : State) (n : Nat) (up : Bool) : Bool := (portAt s (if up then n else n + 1)).hot

/-- Start the re-homing run: the close line for 1.2 times the run time (R100), once its driver is not off (R99). -/
def startHoming (s : State) (n : Nat) : State :=
  let till := s.clock.tick + getN s (0x2040 + n) 0x15 * 1200
  let run := !lineHot s n false
  showEstimate (setBit (updPort s n fun p =>
    { p with estimate := none, line := if run then .homing till else .still, lastDir := some false, endOwed := false }) (0x2000 + n) 0x03 13 run) n

/-- Stop a running line now, with the estimate moved by the time it ran. -/
def stopLine (s : State) (n : Nat) : State :=
  let p := portAt s n
  let d := travelled s n (s.clock.tick - p.runFrom)
  match p.line, p.estimate with
  | .opening _, some e => updPort s n fun p => { p with line := .still, estimate := some (min 100000 (e + d)) }
  | .closing _, some e => updPort s n fun p => { p with line := .still, estimate := some (e - d) }
  | _, _ => s

/-- The direction in which pair n is to be driven: none where it stands at its target and owes no run beyond an end (R100). -/
def moveDir (p : PortSt) : Option Bool :=
  match p.estimate with
  | some e => if p.target = e then (if p.endOwed then some (p.target == 100000) else none) else some (decide (e < p.target))
  | none => none

/-- Start the move towards the target if it is at least the minimum pulse long; 0 % and 100 % run 0.2 times the run time
further, from the end itself too; a reversal first waits the dead time (R100). -/
def startMove (s : State) (n : Nat) : State :=
  let p := portAt s n
  match p.line, p.estimate, moveDir p with
  | .still, some e, some up =>
    let d := if up then p.target - e else e - p.target
    let ends := p.target == 0 || p.target == 100000
    let ms := moveMs s n (if ends then d + 20000 else d)
    if lineHot s n up || decide (ms < getN s (0x2040 + n) 0x17) then s
    else if p.lastDir = some (!up) ∧ 0 < getN s (0x2040 + n) 0x16 then
      updPort s n fun p => { p with line := .dead (s.clock.tick + getN s (0x2040 + n) 0x16) }
    else updPort s n fun p =>
      { p with line := if up then .opening (s.clock.tick + ms) else .closing (s.clock.tick + ms), runFrom := s.clock.tick,
               lastDir := some up, endOwed := false }
  | _, _, _ => s

/-- Follow a new target: a line that runs towards another one stops with its estimate, and the new move starts. In a dead time only
a move in the direction driven last starts at once: it is no reversal. -/
def retarget (s : State) (n : Nat) : State :=
  let p := portAt s n
  match p.line with
  | .opening _ | .closing _ => startMove (showEstimate (stopLine s n) n) n
  | .still => startMove s n
  | .dead _ => if moveDir p = p.lastDir then startMove (updPort s n fun p => { p with line := .still }) n else s
  | .homing _ => s

/-- Give an actuator pair a target in thousandths of a percent (R100). -/
def aim (s : State) (n x : Nat) : State :=
  if (portAt s n).target = x then startMove s n else retarget (updPort s n fun p => { p with target := x, endOwed := x == 0 || x == 100000 }) n

/-! ## Output levels and edges (R96, R98) -/

/-- A voltage in 1/240 000 000 V: at 0.1 V/µs a level moves by 1 000 000 of these in one reference period. -/
def levelUnits (v : F32) : Int :=
  match (v32 v).toRat with
  | some (a, b) => roundAway (a * 240000000) b
  | none => 0

/-- Move a level towards a target by at most d. -/
def towards (level target : Int) (d : Nat) : Int := if level ≤ target then min target (level + d) else max target (level - d)

/-- The slew rate of port n in 0.1 V/µs (R96). -/
def slewRate (s : State) (n : Nat) : Nat := match getN s (0x2000 + n) 0x0D with | 0 => 1 | 1 => 10 | _ => 50

/-- The level commanded at terminal A of a voltage or PWM output at instant t (R96, R98): it moves at the rate of its last new
target towards the value in force, or towards the high level until the on-to-off edge and towards 0 V after it. -/
def levelAt (s : State) (n t : Nat) : Int :=
  let p := portAt s n
  let d (a b : Nat) : Nat := 1000000 * p.rate * (b - a)
  let high := levelUnits (getF s (0x2040 + n) 0x14)
  if portMode s n = 12 then
    match p.pwmEdge with
    | some e =>
      let e := max e p.levelAt
      if t ≤ e then towards p.level high (d p.levelAt t) else towards (towards p.level high (d p.levelAt e)) 0 (d e t)
    | none => towards p.level (if milliPercent p.out = 100000 then high else 0) (d p.levelAt t)
  else towards p.level (levelUnits p.out) (d p.levelAt t)

/-- Whether the PWM output is in the on part of its period at instant t (R98). -/
def pwmOn (p : PortSt) (t : Nat) : Bool :=
  match p.pwmEdge with
  | some e => decide (t < e)
  | none => milliPercent p.out == 100000

/-- The on-to-off edge of the running PWM period for a duty that comes into force at instant t within it, and whether the
triggers are to take no event of it: 100 % has none; a duty whose on part is over turns an output that was on off at once. -/
def edgeFor (p : PortSt) (v : F32) (t : Nat) : Option Nat × Bool :=
  let e := p.pwmStart + (p.pwmAt - p.pwmStart) * milliPercent v / 100000
  if milliPercent v = 100000 then (none, true) else if t < e then (some e, false) else (some t, !pwmOn p t)

/-- Give an output a value at once, its edge moving at `rate` from the present level (R96, R101, R106; log 103). -/
def drive (s : State) (n : Nat) (v : F32) (rate : Nat) : State :=
  let t := s.clock.ref
  let pwm := portMode s n == 12 || portMode s n == 13
  let l := levelAt s n t
  updPort s n fun p =>
    let (edge, told) := edgeFor p v t
    { p with out := v, level := l, levelAt := t, rate := rate, dutyStaged := none,
             pwmEdge := if pwm then edge else none, toldEdge := !pwm || told }

/-! ## Output values -/

/-- Put a port's output at its safe value at once (R101); an actuator pair follows it as a target. -/
def holdSafe (s : State) (n : Nat) : State :=
  let v := safeValue s n
  let s1 := setBit (updPort (drive s n v (slewRate s n)) n fun p => { p with safeHeld := true }) (0x2000 + n) 0x03 12 true
  if portMode s n = 14 then aim s1 n (milliPercent v) else s1

/-- Apply a value at an output instant or tick: a voltage at once, a duty at the next PWM boundary (R95), an actuator target.
A tripped port, or one in a reference fault, keeps its value (R31, R101). A duty is applied at the first PWM boundary at or after
instant `start`; until then the value before it stands, a safe value too (R111). -/
def applyOut (s : State) (n : Nat) (v : F32) (start : Nat) : State :=
  if (portAt s n).tripped || s.power.refFault then s
  else
    let m := portMode s n
    let s0 := updPort s n fun p => { p with safeHeld := false }
    let s1 := setBit s0 (0x2000 + n) 0x03 12 false
    if m = 11 then drive s1 n v (slewRate s n)
    else if m = 12 ∨ m = 13 then updPort s0 n fun p => { p with dutyStaged := some v, dutyFrom := start }
    else if m = 14 then aim (updPort s1 n fun p => { p with out := v }) n (milliPercent v)
    else s

/-! ## Trip channels (R104 to R108) -/

/-- Port n is a local source of channel c and stands at its active level (R104). -/
def localActive (s : State) (c n : Nat) : Bool :=
  portMode s n == 5 && getN s (0x2040 + n) 0x18 == c && (portAt s n).known
    && getN s (0x2000 + n) 0x0A == getN s (0x2040 + n) 0x19

/-- A local source asserts channel c. -/
def localAsserted (s : State) (c : Nat) : Bool := (List.range 64).any (localActive s c)
/-- A remote source asserts channel c, or it is stuck asserted by a full table (R352). -/
def remoteAsserted (s : State) (c : Nat) : Bool :=
  s.bus.stuck.testBit c || s.bus.remotes.any fun r => r.channel == c && r.asserted
/-- Channel c is asserted (R104). -/
def asserted (s : State) (c : Nat) : Bool := localAsserted s c || remoteAsserted s c

/-- Trip port n: its trip value at once, at its slew rate or 1 V/µs, whichever is faster (R106); status bit 8, 2000+n.11. -/
def tripPort (s : State) (n : Nat) : State :=
  if (portAt s n).tripped || !isOutput (portMode s n) then s
  else
    let v := getF s (0x2040 + n) 0x1C
    let s0 := if s.power.refFault then updPort s n fun p => { p with dutyStaged := none } else drive s n v (max 10 (slewRate s n))
    let s1 := updPort s0 n fun p => { p with tripped := true }
    let s2 := setBit (setBit (setN s1 (0x2000 + n) 0x11 1) (0x2000 + n) 0x03 8 true) (0x2000 + n) 0x03 12 s.power.refFault
    if portMode s n = 14 ∧ s.power.refFault = false then aim s2 n (milliPercent v) else s2

/-- A loop or group drives port n (binding bits 1 and 2). -/
def loopDriven (s : State) (n : Nat) : Bool := bindingWord s n &&& 6 != 0

/-- Release port n (R107): the loop's staged value waits for the next output instant; a port of the application core takes its
last value, or its safe value, at the next tick. -/
def releasePort (s : State) (n : Nat) : State :=
  let s1 := setBit (setN (updPort s n fun p => { p with tripped := false }) (0x2000 + n) 0x11 0) (0x2000 + n) 0x03 8 false
  if loopDriven s n then s1
  else match (portAt s n).appLast with
    | some v => updPort s1 n fun p => { p with appStaged := some v }
    | none => updPort s1 n fun p => { p with appStaged := none, safeNext := true }

/-- Every port bound to channel c trips (R106). -/
def channelAssert (s : State) (c : Nat) : State :=
  (List.range 64).foldl (fun a n => if getN s (0x2040 + n) 0x1B = c then tripPort a n else a) s

/-- Every tripped port bound to channel c in release mode 1 releases (R107). -/
def channelDeassert (s : State) (c : Nat) : State :=
  (List.range 64).foldl (fun a n =>
    if getN s (0x2040 + n) 0x1B = c ∧ getN s (0x2040 + n) 0x1D = 1 ∧ (portAt s n).tripped = true then releasePort a n else a) s

/-- Port n, with Trip send set, asserts channel c (R104). -/
def sourceSends (s : State) (c n : Nat) : Bool := localActive s c n && getB s (0x2040 + n) 0x1A
/-- A local source with Trip send set asserts channel c: what the node's trip frames say of it (R350; log 38). -/
def sentAsserted (s : State) (c : Nat) : Bool := (List.range 64).any (sourceSends s c)

/-- The state of channel c: as a whole, of its local sources, and of those that send (log 38). -/
def chanState (s : State) (c : Nat) : Bool × Bool × Bool := (asserted s c, localAsserted s c, sentAsserted s c)

/-- The trip counter advances at a state change of a channel (R349; log 38). -/
def countChange (before s : State) (c : Nat) : State :=
  if chanState s c = chanState before c then s
  else { s with bus := { s.bus with tripCounter := (s.bus.tripCounter + 1) % 256 } }

/-- Follow the change of a channel between two states: it is counted, a newly asserted one trips its ports, a newly deasserted
one releases them. -/
def channelFollow (before s : State) (c : Nat) : State :=
  let s1 := countChange before s c
  if asserted s c && !asserted before c then channelAssert s1 c
  else if !asserted s c && asserted before c then channelDeassert s1 c
  else s1

/-! ## Trip frames (R349, R350) -/

/-- Put a trip frame in a path's trip queue: at most 2 per channel, a third replaces the later (R350). -/
def tripInsert (q : List TripFrame) (f : TripFrame) : List TripFrame :=
  if (q.filter fun g => g.channel == f.channel).length < 2 then q ++ [f]
  else (q.reverse.eraseP fun g => g.channel == f.channel).reverse ++ [f]

/-- The pending trip frame that a new one replaces. -/
def tripReplaced (q : List TripFrame) (f : TripFrame) : List TripFrame :=
  if (q.filter fun g => g.channel == f.channel).length < 2 then []
  else (q.reverse.find? fun g => g.channel == f.channel).toList

/-- Queue a trip frame on every path in the mask of an enabled pair (R350), with the pair's own node ID as source. -/
def tripToPair (s : State) (i : Nat) (f : TripFrame) : State :=
  let pr := pairAt s i
  if pr.enabled && !pr.silent then
    let g := { f with src := pr.nodeId, queued := s.clock.ref }
    [0, 1].foldl (fun a h => if pr.mask.testBit h then
      updPath a (2 * i + h) fun p => { p with
        trips := tripInsert p.trips g, left := p.left ++ (tripReplaced p.trips g).map fun t => (.inl t, s.clock.ref) } else a) s
  else s

/-- Queue a trip frame of this node on both pairs. -/
def tripToAll (s : State) (f : TripFrame) : State := tripToPair (tripToPair s 0 f) 1 f

/-- The trip frame of this node for a channel (R349). -/
def ownTrip (s : State) (c : Nat) (on : Bool) (tag : Nat) : TripFrame :=
  ⟨c, on, tag, (pairAt s 0).nodeId, 0, (pairAt s 0).segment, (pairAt s 0).nodeId, s.bus.tripOrder, 0⟩

/-- Send the state of a channel at an assertion or release by a local source (R349, R350), with the trip counter as tag; an
asserted channel is repeated with the same tag at the refresh (log 38). -/
def sendTrip (s : State) (c : Nat) (on : Bool) : State :=
  let tag := s.bus.tripCounter
  let tags := if on then mapSet s.bus.localTags c tag else mapDel s.bus.localTags c
  let s1 := { s with bus := { s.bus with localTags := tags, tripOrder := s.bus.tripOrder + 1 } }
  tripToAll s1 (ownTrip s1 c on tag)

/-- Port n asserted or released channel c since `before`: the bound ports follow, and a trip frame goes out if the port sends
(R104, R106, R350; log 38). -/
def localChange (before s : State) (c n : Nat) : State :=
  let s1 := channelFollow before s c
  if localActive s c n != localActive before c n && getB s (0x2040 + n) 0x1A then sendTrip s1 c (sentAsserted s c) else s1

end Sys2Proof.Machine
end

