-- ==== Sys2Proof/Machine/Ports.lean ====
section
/-! DEFINITION. Field ports (R82 to R112): digital inputs and gate windows, presence, switches and drivers, PWM, actuators,
fault clearing. -/

namespace Sys2Proof.Machine

/-- An instant in reference periods lies before the end of the present tick (log 1). -/
def dueRef (s : State) (t : Nat) : Bool := decide (t < refMs * (s.clock.tick + 1))
/-- Advance the reference counter to an instant. -/
def advance (s : State) (t : Nat) : State := { s with clock := { s.clock with ref := max s.clock.ref t } }

/-! ## Digital inputs (R90 to R93) -/

/-- An edge to `level` is counted under the edge selection (0 rising, 1 falling, 2 both; R90). -/
def edgeCounts (sel : Nat) (level : Bool) : Bool := sel == 2 || (sel == 0 && level) || (sel == 1 && !level)
/-- An edge to `level` has the polarity that periods use: falling for selection 1, else rising (R92). -/
def edgeSelected (sel : Nat) (level : Bool) : Bool := if sel = 1 then !level else level

/-- The duty cycle of the last complete period in mode 7 (R92). -/
def showDuty (s : State) (n : Nat) : State :=
  match (portAt s n).period with
  | some d => if portMode s n = 7 ∧ 0 < d then setF s (0x2000 + n) 0x0C (f32 (100 * (portAt s n).high) d) else s
  | none => s

/-- Account an accepted edge at reference instant t (R91, R92); an edge of either polarity ends a stall (R93). -/
def takeEdge (s : State) (n : Nat) (level : Bool) (t : Nat) : State :=
  let sel := getN s (0x2040 + n) 0x03
  let counts := edgeCounts sel level
  let chosen := edgeSelected sel level
  let s1 := if counts then addN s (0x2000 + n) 0x0B 1 else s
  let s2 := showDuty (updPort s1 n fun p =>
    let p := { p with lastEdge := some t, lastEdgeTick := s.clock.tick, accepted := p.accepted + counts.toNat }
    let p := if level then { p with lastRise := t } else { p with lastFall := t }
    if chosen then
      { p with
        firstSel := if p.countSel = 0 then t else p.firstSel, lastSel := t, countSel := p.countSel + 1, prevSel := some t,
        period := match p.prevSel with | some q => some (t - q) | none => p.period,
        high := match p.prevSel with
          | some q => if level then p.lastFall - q else t - max p.lastRise q
          | none => p.high }
    else p) n
  if portMode s n = 15 then faultGone s2 n 7 else s2

/-- The filter time of port n in reference periods (R90). -/
def filterPeriods (s : State) (n : Nat) : Nat := 24 * getN s (0x2000 + n) 0x09

/-- DIGITAL_FILTER_CHANGE (R90, R104, R108): the input of a port has held `level` for the whole filter time, ending at reference
instant `edge`; no change lies nearer than the filter time to the one before it. The first filtered state after a mode is enabled is no edge (log 13). -/
def execDigitalFilterChange (n : Nat) (level : Bool) (edge : Nat) (s : State) : Out :=
  let ok := islandsRun s && decide (n < 64) && isDigital (portMode s n) && (portAt s n).modeAt.isNone && dueRef s edge
    && !((portAt s n).known && (getN s (0x2000 + n) 0x0A == level.toNat))
    && decide ((portAt s n).changed + filterPeriods s n ≤ edge)
  doneIf ok s (
    let s0 := advance s edge
    let s1 := setN (updPort s0 n fun p => { p with known := true, changed := edge }) (0x2000 + n) 0x0A level.toNat
    let s2 := if (portAt s n).known then takeEdge s1 n level edge else s1
    let c := getN s (0x2040 + n) 0x18
    if portMode s n = 5 ∧ c < 64 then localChange s s2 c n else s2)

/-- The frequency of a window's end as a fraction in hertz (R92): none where no result exists yet (log 53). -/
def windowFrequency (s : State) (n : Nat) : Option (Nat × Nat) :=
  let p := portAt s n
  if 2 ≤ p.countSel ∧ p.firstSel < p.lastSel then some ((p.countSel - 1) * refSec, p.lastSel - p.firstSel)
  else if p.lastEdgeTick + 100000 ≤ s.clock.tick then some (0, 1)
  else match p.period with
    | some d => if d = 0 then none else some (refSec, d)
    | none => none

/-- The rates of the pulse counters fed by port n: pulses over the gate time times weight, per hour (R214). -/
def counterRates (s : State) (n accepted gate : Nat) : State :=
  (List.range 32).foldl (fun a q =>
    if getB s (0x2220 + q) 0x01 ∧ getN s (0x2220 + q) 0x02 = n then
      setF a (0x2220 + q) 0x06 (toF32 (dmul (f64 (accepted * 3600000) gate) (toF64 (getF s (0x2220 + q) 0x04))))
    else a) s

/-- The results of a completed gate window (R91 to R93; log 53). -/
def windowResult (s : State) (n gate : Nat) : State :=
  let p := portAt s n
  let m := portMode s n
  if m = 6 then counterRates (setPv s n (f32 (p.accepted * 1000) gate)) n p.accepted gate
  else match windowFrequency s n with
    | none => s
    | some (a, b) =>
      if m = 7 then setPv s n (f32 a b)
      else if hasFault s n 7 then setPv s n (f32 0)
      else setPv s n (f32 (60 * a) (b * max 1 (getN s (0x2040 + n) 0x0C)))

/-- GATE_WINDOW_END (R92): at a tick that is a whole multiple of the gate time, the running window ends and gives its results,
and the next window starts; the first such tick after the mode is enabled only starts the first window. -/
def execGateWindowEnd (n : Nat) (s : State) : Out :=
  let gate := getN s (0x2040 + n) 0x0B
  let m := portMode s n
  let p := portAt s n
  let ok := islandsRun s && decide (n < 64) && (m == 6 || m == 7 || m == 15) && p.modeAt.isNone
    && s.clock.tick % gate == 0 && p.window != some s.clock.tick
  doneIf ok s (
    let s1 := match p.window with
      | some w => updPort (windowResult s n gate) n fun p => { p with valueStart := refMs * w }
      | none => s
    updPort s1 n fun p => { p with window := some s.clock.tick, accepted := 0, countSel := 0 })

/-- STALL_TIMEOUT (R93): no edge within the stall timeout; the tachometer reads 0 and the stall fault is raised. -/
def execStallTimeout (n : Nat) (s : State) : Out :=
  let ok := islandsRun s && decide (n < 64) && portMode s n == 15 && (portAt s n).modeAt.isNone
    && decide ((portAt s n).lastEdgeTick + getN s (0x2040 + n) 0x0D ≤ s.clock.tick)
  doneIf ok s (setPv (setFault s n 7) n (f32 0))

/-! ## Presence and shunts (R89, R94) -/

/-- PRESENCE_WINDOW_END (R94): the window passes with no pulse and the presence state clears. -/
def execPresenceWindowEnd (n : Nat) (s : State) : Out :=
  let p := portAt s n
  let last := p.pulses.foldl max 0
  let ok := isUp s && decide (n < 64) && portMode s n == 8 && getB s (0x2000 + n) 0x0A
    && decide (last + getN s (0x2040 + n) 0x12 ≤ s.clock.tick)
  doneIf ok s (setN (updPort s n fun p => { p with pulses := [] }) (0x2000 + n) 0x0A 0)

/-- SHUNT_OVERLOAD (R89): a current above 25 mA opens the shunt for 1 s and sets the overload fault. -/
def execShuntOverload (n : Nat) (s : State) : Out :=
  let ok := isUp s && decide (n < 64) && portMode s n == 2 && (portAt s n).shuntTill.isNone && (portAt s n).modeAt.isNone
  doneIf ok s (setFault (updPort s n fun p => { p with shuntTill := some (s.clock.tick + 1000) }) n 3)

/-- SHUNT_RECLOSE (R89): the shunt is reconnected after 1 s; the overload's cause is then absent. -/
def execShuntReclose (n : Nat) (s : State) : Out :=
  let ok := isUp s && decide (n < 64) && (match (portAt s n).shuntTill with | some t => decide (t ≤ s.clock.tick) | none => false)
  doneIf ok s (faultGone (updPort s n fun p => { p with shuntTill := none }) n 3)

/-! ## PWM (R95, R98) -/

/-- The nominal PWM period of port n in reference periods (R98; log 14). -/
def nominalPeriod (s : State) (n : Nat) : Nat :=
  match (v32 (getF s (0x2000 + n) 0x0E)).toRat with
  | some (a, b) => if a ≤ 0 then refMs else max 1 (roundAway (refSec * b) a.toNat).toNat
  | none => refMs

/-- The deviation of the next dithered period (R98): a free value within ±d % of nominal; the deviations never add up to more
than d % of one period, so that the mean period is the nominal one (log 14). -/
def dither (nominal d : Nat) (sum : Int) (x : BitVec 64) : Int :=
  let most : Int := (nominal * d / 100 : Nat)
  let low := max (-most) (-most - sum)
  let high := min most (most - sum)
  low + (x.toNat % ((high - low).toNat + 1) : Nat)

/-- PWM period start at instant t (R98): `len` periods long, with the duty in force kept as a fraction of it. A duty of 0 or
100 % gives a static output; from 100 % to 0 % the period's start is the on-to-off edge. -/
def beginPeriod (s : State) (n t len : Nat) (v : F32) : State :=
  let l := levelAt s n t
  let duty := milliPercent v
  let was := pwmOn (portAt s n) t
  updPort s n fun p => { p with
    out := v, level := l, levelAt := t, rate := slewRate s n, pwmStart := t, pwmAt := t + len, toldStart := false,
    pwmEdge := if duty = 100000 then none else if duty = 0 then (if was then some t else none) else some (t + len * duty / 100000),
    toldEdge := duty == 100000 || (duty == 0 && !was) }

/-- A converter or sync set triggers on event ev of PWM port n, which came at instant e, after Run (R122). -/
def pwmListened (s : State) (n ev e : Nat) : Bool :=
  ((List.range 8).any fun k => decide ((vAt s.convs k convRest).pwmFrom < e) && getB s (0x2100 + k) 0x01 && decide (4 ≤ getN s (0x2100 + k) 0x0A) && getN s (0x2108 + k) 0x02 == 2
      && getN s (0x2108 + k) 0x05 == n && getN s (0x2108 + k) 0x06 == ev)
    || (List.range 4).any fun i => decide ((vAt s.syncs i syncRest).pwmFrom < e) && getN s (0x2110 + i) 0x01 == 2 && getN s (0x2110 + i) 0x04 == n && getN s (0x2110 + i) 0x05 == ev
      && (List.range 8).any fun k => getB s (0x2100 + k) 0x01 && getN s (0x2100 + k) 0x0A == i

/-- An event of the running period of port n is still to be taken by a trigger (R122). -/
def pwmEventOpen (s : State) (n : Nat) : Bool :=
  let p := portAt s n
  (!p.toldStart && pwmListened s n 0 p.pwmStart)
    || (!p.toldEdge && match p.pwmEdge with | some e => pwmListened s n 1 e | none => false)

/-- PWM_PERIOD_BOUNDARY (R95, R98): the running period, whose events the triggers have taken, ends; a duty staged for
this boundary is applied and the next period is chosen (log 14). -/
def execPwmPeriodBoundary (n : Nat) (s : State) : Out :=
  let m := portMode s n
  let p := portAt s n
  let ok := islandsRun s && decide (n < 64) && (m == 12 || m == 13) && p.modeAt.isNone && dueRef s p.pwmAt && !pwmEventOpen s n
  doneIf ok s (
    let s0 := advance s p.pwmAt
    let d := getN s (0x2040 + n) 0x13
    let nominal := nominalPeriod s n
    let (dev, s1) : Int × State := if d = 0 then (0, s0) else ((fun y => (dither nominal d p.dithered y.1, y.2)) (freshFree s0))
    let now : Option F32 := if p.tripped ∨ p.pwmAt < p.dutyFrom then none else p.dutyStaged
    let s2 := beginPeriod s1 n p.pwmAt (max 1 ((nominal : Int) + dev).toNat) (now.getD p.out)
    let s3 := if now.isSome then setBit s2 (0x2000 + n) 0x03 12 false else s2
    updPort s3 n fun x =>
      { x with dithered := if d = 0 then 0 else x.dithered + dev, dutyStaged := if now.isSome then none else p.dutyStaged })

/-! ## Voltage outputs (R97) -/

/-- CURRENT_LIMIT_ACTS (R97): the driver of a voltage output starts or stops limiting; status bit 9. While it acts, a raised
overload fault does not clear. -/
def execCurrentLimitActs (n : Nat) (on : Bool) (s : State) : Out :=
  let ok := isUp s && decide (n < 64) && portMode s n == 11 && (portAt s n).limitSince.isSome != on
  doneIf ok s (
    let s1 := setBit s (0x2000 + n) 0x03 9 on
    if on then updPort (if hasFault s1 n 3 then raiseHeld s1 (faultCode 3 n) else s1) n fun p =>
      { p with limitSince := some s.clock.tick, limitLast := s.clock.tick }
    else faultGone (updPort s1 n fun p => { p with limitSince := none, limitLast := s.clock.tick }) n 3)

/-- OUTPUT_OVERLOAD_TIMEOUT (R97): the limit has acted for 10 ms, and the overload fault is raised. -/
def execOutputOverloadTimeout (n : Nat) (s : State) : Out :=
  let ok := isUp s && decide (n < 64) && portMode s n == 11
    && (match (portAt s n).limitSince with | some t => decide (t + 10 ≤ s.clock.tick) | none => false)
  doneIf ok s (setFault s n 3)

/-! ## Low-side switches and drivers (R99) -/

/-- SWITCH_OVERCURRENT (R99): above 180 mA the switch turns off and raises the overload fault. Within 1 s of a retry it is a
failed retry; the tenth consecutive one latches the switch off, otherwise it retries after 1 s. -/
def execSwitchOvercurrent (n : Nat) (s : State) : Out :=
  let p := portAt s n
  let ok := isUp s && decide (n < 64) && portMode s n == 13 && p.retryAt.isNone && !hasFault s n 8 && !p.hot
  doneIf ok s (
    let s1 := setFault s n 3
    let k := getN s (0x2040 + n) 0x20
    if p.retryRun.isSome then
      let s2 := setN s1 (0x2040 + n) 0x20 (min 10 (k + 1))
      if 10 ≤ k + 1 then updPort (setFault s2 n 8) n fun p => { p with retryAt := none, retryRun := none }
      else updPort s2 n fun p => { p with retryAt := some (s.clock.tick + 1000), retryRun := none }
    else updPort s1 n fun p => { p with retryAt := some (s.clock.tick + 1000), retryRun := none })

/-- SWITCH_RETRY (R99): 1 s after the turn-off the switch retries. -/
def execSwitchRetry (n : Nat) (s : State) : Out :=
  let ok := isUp s && decide (n < 64) && portMode s n == 13
    && (match (portAt s n).retryAt with | some t => decide (t ≤ s.clock.tick) | none => false)
  doneIf ok s (updPort s n fun p => { p with retryAt := none, retryRun := some s.clock.tick })

/-- SWITCH_RETRY_SUCCESS (R99): the switch has run for 1 s after a retry, or after the restart of a driver that over-temperature
turned off meanwhile; the retry count returns to 0 and the overload's
cause is absent and its fault clears (log 15). -/
def execSwitchRetrySuccess (n : Nat) (s : State) : Out :=
  let ok := isUp s && decide (n < 64) && portMode s n == 13 && !(portAt s n).hot
    && (match (portAt s n).retryRun with | some t => decide (t + 1000 ≤ s.clock.tick) | none => false)
  doneIf ok s (clearFault (setN (updPort s n fun p => { p with retryRun := none }) (0x2040 + n) 0x20 0) n 3)

/-- The effect of a write of 1 to fault reset (R99): retry count 0; a latched switch may retry at once (log 15). -/
def faultReset (s : State) (n : Nat) : State :=
  let s1 := setN s (0x2040 + n) 0x20 0
  if hasFault s n 8 then updPort (clearFault s1 n 8) n fun p => { p with retryAt := some s.clock.tick }
  else s1

/-- The even port of the actuator pair that port n drives a line of. -/
def actuatorOf (s : State) (n : Nat) : Option Nat :=
  if portMode s n = 14 then some n else if pairedOdd s n && portMode s (n - 1) == 14 then some (n - 1) else none

/-- The driver of port n turns off: the pair's line that it drives stops with its estimate; a re-homing run is lost. -/
def driverOff (s : State) (n : Nat) : State :=
  match actuatorOf s n with
  | none => s
  | some e =>
    match (portAt s e).line with
    | .opening _ => if n = e then showEstimate (stopLine s e) e else s
    | .closing _ => if n = e then s else showEstimate (stopLine s e) e
    | .homing _ => if n = e then s else startHoming s e
    | _ => s

/-- The driver of port n runs again: its pair goes on to its target, by a new re-homing run where the estimate is unknown. -/
def driverOn (s : State) (n : Nat) : State :=
  match actuatorOf s n with
  | none => s
  | some e =>
    if s.power.refFault then s
    else match (portAt s e).line, (portAt s e).estimate with
      | .still, none => startHoming s e
      | _, _ => startMove s e

/-- DRIVER_OVER_TEMPERATURE (R99): an output driver, of an actuator pair that of one line, turns off and raises the fault. -/
def execDriverOverTemperature (n : Nat) (s : State) : Out :=
  let ok := isUp s && decide (n < 64) && (isOutput (portMode s n) || (actuatorOf s n).isSome) && !(portAt s n).hot
  doneIf ok s (setFault (driverOff (updPort s n fun p => { p with hot := true }) n) n 5)

/-- DRIVER_RESTART (R99): 1 s after the driver has cooled (at tick `cooled`) it restarts; no retry is counted, and the second of a
retry begins anew. DESIGN CHOICE: the fault clears at the restart itself (log 104). -/
def execDriverRestart (n cooled : Nat) (s : State) : Out :=
  let ok := isUp s && decide (n < 64) && (portAt s n).hot && decide (cooled + 1000 ≤ s.clock.tick)
  doneIf ok s (
    let s1 := updPort s n fun p => { p with hot := false, retryRun := p.retryRun.map fun _ => s.clock.tick }
    driverOn (clearFault s1 n 5) n)

/-! ## Actuators (R100) -/

/-- ACTUATOR_RUN_END (R100): a line's run time, a dead time or a re-homing run ends. DESIGN CHOICE: the estimate changes at the end
or the stop of a run, not during it (log 104). -/
def execActuatorRunEnd (n : Nat) (s : State) : Out :=
  let p := portAt s n
  let till := match p.line with | .opening t | .closing t | .dead t | .homing t => some t | .still => none
  let ok := islandsRun s && decide (n < 64) && portMode s n == 14
    && (match till with | some t => decide (t ≤ s.clock.tick) | none => false)
  doneIf ok s (
    match p.line with
    | .homing _ =>
      let s1 := setBit (updPort s n fun p => { p with line := .still, estimate := some 0 }) (0x2000 + n) 0x03 13 false
      startMove (showEstimate s1 n) n
    | .opening _ =>
      let e := if p.target = 100000 then 100000 else min 100000 ((p.estimate.getD 0) + travelled s n (s.clock.tick - p.runFrom))
      startMove (showEstimate (updPort s n fun p => { p with line := .still, estimate := some e }) n) n
    | .closing _ =>
      let e := if p.target = 0 then 0 else (p.estimate.getD 0) - travelled s n (s.clock.tick - p.runFrom)
      startMove (showEstimate (updPort s n fun p => { p with line := .still, estimate := some e }) n) n
    | _ => startMove (updPort s n fun p => { p with line := .still, lastDir := none }) n)

/-! ## Fault clearing (R102) -/

/-- PORT_FAULT_CLEAR (R102): the cause of fault type `t` has been absent for 1 s and the fault clears. -/
def execPortFaultClear (n t : Nat) (s : State) : Out :=
  let ok := isUp s && decide (n < 64) && decide (1 ≤ t ∧ t ≤ 8)
    && s.conds.any fun c => c.code == faultCode t n && !c.cause && decide (c.since + 1000 ≤ s.clock.tick)
  doneIf ok s (clearFault s n t)

/-! ## Mode changes (R83 to R86) -/

/-- Step 1 of R85: both terminals go to high impedance, the faults and the edge count clear, the 2 ms start. An odd port that the
even one no longer pairs is at rest. -/
def modeStart (s : State) (n : Nat) (req : KdpReq) : State :=
  let s0 := if n % 2 = 0 ∧ portMode s (n + 1) = 0 then updPort (clearFaults s (n + 1)) (n + 1) fun p => { p with hot := false } else s
  let s1 := setN (clearFaults s0 n) (0x2000 + n) 0x0B 0
  let s2 := setF (setN (setN s1 (0x2000 + n) 0x0A 0) (0x2000 + n) 0x03 0) (0x2000 + n) 0x0C nan32
  let s3 := setN (setF s2 (0x2000 + n) 0x02 nan32) (0x2040 + n) 0x20 0
  updPort s3 n fun _ => { portRest with modeAt := some (s.clock.tick + 2), modeReq := some req, lastEdgeTick := s.clock.tick }

/-- The port as its mode is enabled: an output holds its safe value until a source stages a first value (R101); an actuator
pair begins re-homing (R100). -/
def modeEnable (s : State) (n : Nat) : State :=
  let s1 := updPort s n fun p =>
    { p with modeAt := none, modeReq := none, since := s.clock.ref, changed := s.clock.ref, levelAt := s.clock.ref,
             pwmStart := s.clock.ref, pwmAt := s.clock.ref, lastEdgeTick := s.clock.tick }
  let m := portMode s1 n
  if m = 14 then startHoming (holdSafe s1 n) n
  else if isOutput m then holdSafe s1 n else s1

end Sys2Proof.Machine
end

