-- ==== Sys2Proof/Machine/Conv.lean ====
section
/-! DEFINITION. Converters, scan frames, sync sets, injected and calibration conversions, references and settling
(R113 to R145). -/

namespace Sys2Proof.Machine

/-- Converter k. -/
def convAt (s : State) (k : Nat) : ConvSt := vAt s.convs k convRest
/-- Change converter k. -/
def updConv (s : State) (k : Nat) (f : ConvSt → ConvSt) : State := { s with convs := vUpd s.convs k f }
/-- Change sync set i. -/
def updSync (s : State) (i : Nat) (f : SyncSt → SyncSt) : State := { s with syncs := vUpd s.syncs i f }

/-- Run of converter k. -/
def convRun (s : State) (k : Nat) : Bool := getB s (0x2100 + k) 0x01
/-- Sync set of converter k; 255 is none (R127). -/
def convSet (s : State) (k : Nat) : Nat := getN s (0x2100 + k) 0x0A

/-- Slot length of an output rate in reference periods (R117). -/
def slotPeriods (rate : Nat) : Nat :=
  match rate with
  | 0 => 2400000 | 1 => 1200000 | 2 => 480000 | 3 => 400000 | 4 => 240000 | 5 => 60000 | 6 => 24000 | 7 => 6000 | _ => 1500

/-- Channel c of converter k is enabled and converted (R115). -/
def channelOn (s : State) (k c : Nat) : Bool :=
  (getN s (0x2100 + k) 0x07).testBit c && !(decide (c < 8) && c % 2 == 1 && portMode s (8 * k + c - 1) == 4
    && pairedOdd s (8 * k + c))

/-- The channels a frame of converter k converts, ascending (R115). -/
def frameChannels (s : State) (k : Nat) : List Nat := (List.range 12).filter (channelOn s k)

/-- The number of channels enabled and converted below channel c (R128). -/
def channelPlace (s : State) (k c : Nat) : Nat := ((List.range c).filter (channelOn s k)).length

/-- Ports a and b are aligned (R128). -/
def aligned (s : State) (a b : Nat) : Bool :=
  let ka := a / 8
  let kb := b / 8
  decide (convSet s ka < 4) && convSet s ka == convSet s kb && getN s (0x2100 + ka) 0x06 == getN s (0x2100 + kb) 0x06
    && getN s (0x2108 + ka) 0x01 == getN s (0x2108 + kb) 0x01 && channelOn s ka (a % 8) && channelOn s kb (b % 8)
    && channelPlace s ka (a % 8) == channelPlace s kb (b % 8)

/-- Port n is converted for its process value: channel in the mask, Run set, no raw mode (R116). -/
def converted (s : State) (n : Nat) : Bool :=
  channelOn s (n / 8) (n % 8) && convRun s (n / 8) && !getB s (0x2108 + n / 8) 0x0C

/-- Port n is in mode 1 to 4 or 8 and is not converted: its process value is NaN (R116). -/
def unscanned (s : State) (n : Nat) : Bool :=
  let m := portMode s n
  (decide (1 ≤ m) && decide (m ≤ 4) || m == 8) && !converted s n

/-- Meter m. -/
def meterAt (s : State) (m : Nat) : MeterSt := vAt s.meters m meterRest
/-- Change meter m. -/
def updMeter (s : State) (m : Nat) (f : MeterSt → MeterSt) : State := { s with meters := vUpd s.meters m f }

/-- The device time of reference instant t, in reference periods, through the tick (R193). -/
def devAt (s : State) (t : Nat) : Int := (devRef s : Int) + ((t : Int) - s.clock.ref)

/-- The temperature of port n becomes NaN at instant t: the meters whose sensor it is note it (R199). -/
def noteNan (s : State) (n t : Nat) : State :=
  (List.range 16).foldl (fun a m =>
    if meterSensor a m n then
      updMeter a m fun x => { x with nans := x.nans ++ [(devAt s t, getN a (0x2210 + m) 0x01 == n)] }
    else a) s

/-- The process values of modes 1 to 4 and 8 that are not converted become NaN (R116). -/
def dropUnconverted (s : State) (k : Nat) : State :=
  (List.range 8).foldl (fun a c => if unscanned a (8 * k + c) then noteNan (setPv a (8 * k + c) nan32) (8 * k + c) a.clock.ref else a) s

/-- 2100+k.02, the state of converter k (R143). -/
def showConv (s : State) (k : Nat) : State :=
  let c := convAt s k
  setN (setN s (0x2100 + k) 0x02 (match c.slot with
    | some sl => (match sl.kind with | .scan => 3 | .injected => 4 | .calibration => 5)
    | none => if c.delay.isSome then 2 else if convRun s k then 1 else 0)) (0x2108 + k) 0x0B
    (c.inject.length + (match c.slot with | some sl => (if sl.kind = .injected then 1 else 0) | none => 0))

/-- The settling flag of converter k is set (R137). -/
def settled (s : State) (k : Nat) : Bool := getB s (0x2100 + k) 0x09

/-- Start a slot at an instant. -/
def startSlot (s : State) (k : Nat) (kind : SlotKind) (ch t : Nat) : State :=
  let rate := if kind = .injected then getN s (0x2108 + k) 0x0A else getN s (0x2100 + k) 0x06
  updConv s k fun c => { c with slot := some ⟨kind, ch, t, t + slotPeriods rate⟩, unsettledNow := !settled s k }

/-- Trigger instant t reaches converter k: one in its delay or frame misses it (R125); one with no
channel stays waiting (R115); otherwise its delay starts (R124). -/
def triggerConv (s : State) (k t : Nat) : State :=
  if !convRun s k then s
  else
    let c := convAt s k
    if c.delay.isSome || c.frame.isSome then raise (addN s (0x2100 + k) 0x0C 1) (0x2010 + k)
    else if (frameChannels s k).isEmpty then s
    else updConv s k fun c => { c with waiting := false, delay := some (t + getN s (0x2108 + k) 0x01) }

/-- The members of sync set i. -/
def setMembers (s : State) (i : Nat) : List Nat := (List.range 8).filter fun k => convSet s k == i

/-- A sync set fires at instant t: the trigger reaches every member in the same period (R127), and its state shows it. -/
def fireSet (s : State) (i t : Nat) : State :=
  (setMembers s i).foldl (fun a k => showConv (triggerConv a k t) k) (addN s (0x2110 + i) 0x09 1)

/-- The coefficients staged for converter k take effect (R176). -/
def takeCoefficients (s : State) (k : Nat) : State :=
  { s with cal := { s.cal with inEffect := s.cal.inEffect.filter fun e => e.1 / 256 != 0x2190 + k } }

/-- A value of a coefficient entry in effect: the one kept while a staged value waits, else the entry (R176, R188). -/
def coefficient (s : State) (index sub : Nat) : Int :=
  match mapGet s.cal.inEffect (keyOf index sub) with
  | some b => toSigned 32 (leNat b)
  | none => getI s index sub

/-- The continuous source after the end of a frame of converter k at instant t (R123): the converter alone, or its set when
every running member with channels has ended its frame. -/
def continuous (s : State) (k t : Nat) : State :=
  let i := convSet s k
  if i < 4 then
    if getN s (0x2110 + i) 0x01 = 3 ∧ (setMembers s i).all (fun j => !convRun s j || (frameChannels s j).isEmpty
        || ((convAt s j).frame.isNone && (convAt s j).delay.isNone)) = true then fireSet s i t else s
  else if getN s (0x2108 + k) 0x02 = 3 then triggerConv s k t else s

/-- A member of converter k's set runs with channels to convert (R123). -/
def othersRun (s : State) (k : Nat) : Bool :=
  decide (convSet s k < 4) && (setMembers s (convSet s k)).any fun j => convRun s j && !(frameChannels s j).isEmpty

/-- The frame of converter k ends at instant t: frame count, duration, the next trigger of a continuous source (R115, R123). A
frame none of whose slots began, for lack of a channel, is none: nothing is counted, and the converter waits (R115). -/
def endFrame (s : State) (k t : Nat) : State :=
  match (convAt s k).frame with
  | none => s
  | some f =>
    let s1 := updConv s k fun c => { c with frame := none, waiting := true }
    if f.begun then continuous (setN (addN s1 (0x2100 + k) 0x0B 1) (0x2100 + k) 0x0E (t - f.start)) k t
    else if othersRun s k then continuous s1 k t
    else s1

/-- Begin the next channel of the frame, at the frame's first slot or later (R115, R124); with none left the frame ends. -/
def startScan (s : State) (k t : Nat) : State :=
  match (convAt s k).frame with
  | some f =>
    match (frameChannels s k).find? fun c => decide (f.next ≤ c) with
    | some ch =>
      let s1 := if f.begun then s else takeCoefficients s k
      let s2 := updConv s1 k fun c =>
        { c with frame := some { f with next := ch, start := if f.begun then f.start else t, begun := true } }
      startSlot s2 k .scan ch t
    | none => endFrame s k t
  | none => s

/-- What runs next at instant t: injected requests back to back, then calibration, then the scan (R130 to R133). -/
def resumeConv (s : State) (k t : Nat) : State :=
  let c := convAt s k
  match c.inject, c.calib with
  | ch :: r, _ => startSlot (updConv s k fun c => { c with inject := r }) k .injected ch t
  | [], ch :: r =>
    let s1 := startSlot (updConv s k fun c => { c with calib := r, calFor := s.cal.captures }) k .calibration ch t
    let s2 := { s1 with cal := { s1.cal with capture := s1.cal.capture.map fun x => { x with running := true } } }
    if s2.cal.capture.isSome then setN s2 0x2181 0x07 2 else s2
  | [], [] => startScan (updConv s k fun c => { c with slot := none }) k t

/-- The monitor's finding on a ratiometric reference ends with the slot it was made in (R136, R137). -/
def slotOver (s : State) (k t : Nat) : State :=
  if getN s (0x2100 + k) 0x08 = 2 ∧ (convAt s k).outOfTol = true then updConv s k fun c => { c with outOfTol := false, settleFrom := t }
  else s

/-- An injected or calibration request is staged at instant t: a running scan conversion is aborted and its frame displaced;
a running injected or calibration conversion is waited for (R130 to R133). -/
def stageRequest (s : State) (k : Nat) (inject : Bool) (ch t : Nat) : State :=
  let s1 := updConv s k fun c => if inject then { c with inject := c.inject ++ [ch] } else { c with calib := c.calib ++ [ch] }
  match (convAt s1 k).slot with
  | none => resumeConv s1 k t
  | some sl => if sl.kind = .scan then
      let s2 := slotOver s1 k t
      resumeConv (updConv s2 k fun c => { c with slot := none, frame := c.frame.map fun f => { f with displaced := true } }) k t
    else s1

/-- A scan slot's end: the frame goes on with the next channel, or ends when none is left (R115, R123). -/
def afterScan (s : State) (k t : Nat) : State :=
  let s1 := updConv s k fun c => { c with slot := none, frame := c.frame.map fun f => { f with next := f.next + 1 } }
  match (convAt s1 k).frame with
  | some f =>
    if (frameChannels s k).any fun c => decide (f.next ≤ c) then resumeConv s1 k t
    else
      let s2 := endFrame s1 k t
      if (convAt s2 k).slot.isSome then s2 else resumeConv s2 k t
  | none => resumeConv s1 k t

/-- The result code of R118, and whether it was clamped (log 52, log 92). -/
def resultCode (vin : Int) (vref : Nat) : Int × Bool :=
  let c := (2 * 2 ^ 23 * vin + vref).fdiv (2 * vref)
  if c < -8388608 then (-8388608, true) else if 8388607 < c then (8388607, true) else (c, false)

/-- A port is converted without excitation under ratiometric selection (R135). -/
def substituted (s : State) (k ch : Nat) : Bool :=
  decide (ch < 8) && getN s (0x2100 + k) 0x08 == 2 && !(portMode s (8 * k + ch) == 3 || portMode s (8 * k + ch) == 4)

/-- Reference of a channel's conversion in nanovolts (R114, R135): the 1.250 V bandgap for internal channels, the internal
selection and a substituted port; else what stands at VREFk or across the reference resistor. -/
def referenceUsed (s : State) (k ch vref : Nat) : Nat :=
  if 8 ≤ ch ∨ getN s (0x2100 + k) 0x08 = 0 ∨ substituted s k ch = true then 1250000000 else vref

/-! ## Excitation (R87) -/

/-- A port measures a resistance in an enabled mode. -/
def resistive (s : State) (n : Nat) : Bool := (portMode s n == 3 || portMode s n == 4) && (portAt s n).modeAt.isNone

/-- End of the running delay and frame of converter k, or of the frame alone, as it stands at instant t; none where it waits. -/
def frameLast (s : State) (k t : Nat) : Option Nat :=
  let c := convAt s k
  let slot := slotPeriods (getN s (0x2100 + k) 0x06)
  let now := match c.slot with | some sl => if sl.kind = .scan then sl.start else sl.fin | none => t
  match c.delay, c.frame with
  | some d, _ => some (d + (frameChannels s k).length * slot)
  | none, some f => some (now + ((frameChannels s k).filter fun x => decide (f.next ≤ x)).length * slot)
  | none, none => none

/-- The instant at which a continuous source fires next for converter k, as it stands at instant t (R123): the end of its frame, or
the last one of its set; none for another source. -/
def refires (s : State) (k t : Nat) : Option Nat :=
  let i := convSet s k
  if i < 4 then
    if getN s (0x2110 + i) 0x01 = 3 then
      match (setMembers s i).filterMap fun j => if convRun s j then frameLast s j t else none with
      | [] => none
      | x :: r => some (r.foldl max x)
    else none
  else if getN s (0x2108 + k) 0x02 = 3 then frameLast s k t else none

/-- The instant after t at which a timer fires next for converter k (R121); none for another source. -/
def timerNext (s : State) (k t : Nat) : Option Nat :=
  let i := convSet s k
  let (source, period, phase) := if i < 4
    then (getN s (0x2110 + i) 0x01, getN s (0x2110 + i) 0x02, getN s (0x2110 + i) 0x03)
    else (getN s (0x2108 + k) 0x02, getN s (0x2108 + k) 0x03, getN s (0x2108 + k) 0x04)
  let n := t / refMs + 1
  if source = 1 ∧ convRun s k = true then some (refMs * (n + (((phase : Int) - n) % (max 1 period : Nat)).toNat)) else none

/-- Starts of the running and coming scan slots of channel ch of converter k, as far as their instants are known at instant t (R87,
R115, R121, R123, R128): in the running delay and frame, and in the frame after the next firing of a timer or continuous source. -/
def scanStarts (s : State) (k ch t : Nat) : List Nat :=
  let c := convAt s k
  let slot := slotPeriods (getN s (0x2100 + k) 0x06)
  let chans := frameChannels s k
  let place := (chans.filter fun x => decide (x < ch)).length
  let now := match c.slot with | some sl => if sl.kind = .scan then sl.start else sl.fin | none => t
  let running := match c.delay, c.frame with
    | some d, _ => [d + place * slot]
    | none, some f =>
      if f.next ≤ ch then [now + (chans.filter fun x => decide (f.next ≤ x ∧ x < ch)).length * slot] else []
    | none, none => []
  let fires := (timerNext s k t).toList ++ (refires s k t).toList
  if chans.contains ch then running ++ fires.map fun b => b + getN s (0x2108 + k) 0x01 + place * slot else []

/-- The excitation current of port n flows at instant t (R87): at all times in continuous mode; in pulsed mode from the lead time
before the port's scan slot to the slot's end. -/
def excitationOn (s : State) (n t : Nat) : Bool :=
  resistive s n && !s.power.refFault && (getN s (0x2040 + n) 0x04 == 0
    || (scanStarts s (n / 8) (n % 8) t).any fun b =>
      decide (b ≤ t + 24 * getN s (0x2040 + n) 0x05) && decide (t < b + slotPeriods (getN s (0x2100 + n / 8) 0x06)))

/-- A slot converts a port whose excitation current flows. -/
def slotExcited (s : State) (k : Nat) (sl : Slot) : Bool :=
  decide (sl.channel < 8) && (if sl.kind = .scan then resistive s (8 * k + sl.channel) else excitationOn s (8 * k + sl.channel) sl.start)

/-- SLOT_END (R138): converter input `vin` and reference `vref` in nanovolts at the conversion (R118, R135). The result, flags and
timestamp are written together; a result not yet taken is replaced and counted as overrun (R139; log 92). -/
def execSlotEnd (k : Nat) (vin : Int) (vref : Nat) (s : State) : Out :=
  match (convAt s k).slot with
  | none => .next s
  | some sl =>
    let vref := referenceUsed s k sl.channel vref
    let ok := islandsRun s && decide (k < 8) && dueRef s sl.fin && decide (0 < vref)
    doneIf ok s (
      let s0 := advance s sl.fin
      let c := convAt s k
      let (code, beyond) := resultCode vin vref
      let old := getN s (0x2100 + k) 0x04
      let overrun := old.testBit 0
      let unsettled := c.unsettledNow || !settled s k
      let displaced := sl.kind == .scan && (match c.frame with | some f => f.displaced | none => false)
      let flags := 1 + bitVal overrun 1 + bitVal (unsettled && decide (sl.channel < 8)) 2 + bitVal (sl.kind == .injected) 3
        + bitVal displaced 4 + bitVal (substituted s k sl.channel) 5 + bitVal beyond 6 + bitVal (sl.kind == .calibration) 7
        + 256 * sl.channel
      let s1 := setN (setN (setI s0 (0x2100 + k) 0x03 code) (0x2100 + k) 0x04 flags) (0x2100 + k) 0x05 (sl.fin % 2 ^ 32)
      let s2 := if overrun then
          let s2 := addN s1 (0x2100 + k) 0x0D 1
          if getB s (0x2108 + k) 0x0C then s2 else raise s2 (0x2020 + k)
        else s1
      let s2 := updConv (slotOver s2 k sl.fin) k fun c => { c with
        resStart := sl.start + 45, resEnd := sl.fin, resFor := c.calFor, resExcited := slotExcited s k sl,
        resGain := coefficient s (0x2190 + k) (0x10 + sl.channel), resOffset := coefficient s (0x2190 + k) (0x18 + sl.channel) }
      let s3 := match sl.kind with
        | .scan => afterScan s2 k sl.fin
        | _ => resumeConv (updConv s2 k fun c => { c with slot := none }) k sl.fin
      showConv s3 k)

/-- TRIGGER_DELAY_END (R124, R176): staged coefficients take effect and the first slot starts; it starts late, displaced, when
injected or calibration conversions are running (R132). -/
def execTriggerDelayEnd (k : Nat) (s : State) : Out :=
  match (convAt s k).delay with
  | none => .next s
  | some t =>
    let ok := islandsRun s && decide (k < 8) && dueRef s t
    doneIf ok s (
      let s0 := advance s t
      let busy := (convAt s k).slot.isSome
      let s1 := updConv s0 k fun c => { c with delay := none, frame := some ⟨0, t, busy, false⟩ }
      showConv (if busy then s1 else startScan s1 k t) k)

/-- A timer of a trigger fires at the present tick (R121): (n - phase) is a whole multiple of the period. -/
def timerFires (s : State) (period phase : Nat) : Bool :=
  ((s.clock.tick : Int) - phase) % (max 1 period : Nat) == 0

/-- CONVERTER_TIMER_TRIGGER (R121): the timer of a converter outside any set (`set` false), or of a sync set. -/
def execConverterTimerTrigger (set : Bool) (i : Nat) (s : State) : Out :=
  if set then
    let ok := islandsRun s && decide (i < 4) && getN s (0x2110 + i) 0x01 == 1
      && timerFires s (getN s (0x2110 + i) 0x02) (getN s (0x2110 + i) 0x03)
      && (vAt s.syncs i syncRest).lastTimer != some s.clock.tick
    doneIf ok s (
      let s1 := updSync s i fun x => { x with lastTimer := some s.clock.tick }
      fireSet s1 i (refMs * s.clock.tick))
  else
    let ok := islandsRun s && decide (i < 8) && decide (4 ≤ convSet s i) && getN s (0x2108 + i) 0x02 == 1
      && timerFires s (getN s (0x2108 + i) 0x03) (getN s (0x2108 + i) 0x04) && (convAt s i).lastTimer != some s.clock.tick
    doneIf ok s (
      let s1 := updConv s i fun x => { x with lastTimer := some s.clock.tick }
      showConv (triggerConv s1 i (refMs * s.clock.tick)) i)

/-- Event `ev` (0 period start, 1 on-to-off edge) of the running PWM period of port n, while no trigger has taken it (R122). -/
def pwmEvent (s : State) (n ev : Nat) : Option Nat :=
  let p := portAt s n
  if ev = 0 then (if p.toldStart then none else some p.pwmStart) else if p.toldEdge then none else p.pwmEdge

/-- PWM_EVENT_TRIGGER (R122, R142): event `ev` of the running period of port n reaches the triggers at instant t, one reference period
after it. Every running converter and sync set that names it counts it, if it came after Run, and fires at each d-th. -/
def execPwmEventTrigger (n ev t : Nat) (s : State) : Out :=
  match pwmEvent s n ev with
  | none => .next s
  | some e =>
  let ok := islandsRun s && decide (n < 64) && (portMode s n == 12 || portMode s n == 13) && t == e + 1 && dueRef s t
  doneIf ok s (
    let s0 := updPort (advance s t) n fun p => if ev = 0 then { p with toldStart := true } else { p with toldEdge := true }
    let s1 := (List.range 8).foldl (fun a k =>
      if 4 ≤ convSet a k ∧ convRun a k = true ∧ getN a (0x2108 + k) 0x02 = 2 ∧ getN a (0x2108 + k) 0x05 = n
          ∧ getN a (0x2108 + k) 0x06 = ev ∧ (convAt a k).pwmFrom < e then
        let c := (convAt a k).pwmCount + 1
        if c < getN a (0x2108 + k) 0x07 then updConv a k fun x => { x with pwmCount := c }
        else showConv (triggerConv (updConv a k fun x => { x with pwmCount := 0 }) k t) k
      else a) s0
    (List.range 4).foldl (fun a i =>
      if (setMembers a i).any (convRun a) = true ∧ getN a (0x2110 + i) 0x01 = 2 ∧ getN a (0x2110 + i) 0x04 = n
          ∧ getN a (0x2110 + i) 0x05 = ev ∧ (vAt a.syncs i syncRest).pwmFrom < e then
        let c := (vAt a.syncs i syncRest).pwmCount + 1
        if c < getN a (0x2110 + i) 0x06 then updSync a i fun x => { x with pwmCount := c }
        else fireSet (updSync a i fun x => { x with pwmCount := 0 }) i t
      else a) s1)

/-- Judge the trigger-source conditions 0x2050 and 0x2060 (R122): a running converter uses a PWM port not in mode 12 or 13. -/
def judgePwmSources (s : State) : State :=
  let bad (n : Nat) : Bool := !(portMode s n == 12 || portMode s n == 13)
  let s1 := (List.range 8).foldl (fun a k =>
    follow a (0x2050 + k) (convRun s k && decide (4 ≤ convSet s k) && getN s (0x2108 + k) 0x02 == 2 && bad (getN s (0x2108 + k) 0x05))) s
  (List.range 4).foldl (fun a i =>
    follow a (0x2060 + i) ((setMembers s i).any (convRun s) && getN s (0x2110 + i) 0x01 == 2 && bad (getN s (0x2110 + i) 0x04))) s1

/-- Run of converter k is set (R126): it waits for its trigger; with the continuous source the first delay starts at once. A
write of 1 while Run is 1 starts the wait again (log 16). PWM events are counted from here; a set counts from the first member's
Run (R122). -/
def convStart (s : State) (k : Nat) : State :=
  let i := convSet s k
  let s0 := if i < 4 ∧ (setMembers s i).all (fun j => j == k || !convRun s j) = true then updSync s i fun x => { x with pwmCount := 0, pwmFrom := s.clock.ref }
    else s
  let s1 := updConv s0 k fun c => { c with waiting := true, pwmCount := 0, pwmFrom := s.clock.ref }
  let s2 := if (convAt s k).frame.isSome || (convAt s k).delay.isSome then s1
    else if i < 4 then
      if getN s (0x2110 + i) 0x01 = 3 then continuous s1 k s.clock.ref else s1
    else if getN s (0x2108 + k) 0x02 = 3 then triggerConv s1 k s.clock.ref else s1
  showConv (judgePwmSources s2) k

/-- Run of converter k is cleared (R126): scanning stops at once; injected conversions go on; R116 applies to its ports; staged
coefficients take effect, since Run is clear (R176). A continuous set whose last unfinished member it was fires again (R123). -/
def convStop (s : State) (k : Nat) : State :=
  let scan : Bool := match (convAt s k).slot with | some sl => decide (sl.kind = .scan) | none => false
  let s1 := updConv (if scan then slotOver s k s.clock.ref else s) k fun c =>
    { c with waiting := false, delay := none, frame := none,
             slot := match c.slot with | some sl => if sl.kind = .scan then none else some sl | none => none }
  let s2 := judgePwmSources (dropUnconverted (takeCoefficients s1 k) k)
  let i := convSet s k
  let inFrame := (convAt s k).frame.isSome || (convAt s k).delay.isSome
  let s3 := if i < 4 ∧ inFrame = true ∧ othersRun s k = true then continuous s2 k s.clock.ref else s2
  showConv s3 k

/-- The settling flag clears at a write of the reference or the resistor, and at an excursion (R137). -/
def unsettle (s : State) (k : Nat) : State :=
  setN (updConv s k fun c => { c with settleFrom := s.clock.ref, unsettledNow := true }) (0x2100 + k) 0x09 0

/-- An accepted write of the reference or the resistor (R136, R137): the flag clears, and a ratiometric reference counts as in
tolerance until it is judged again. -/
def referenceWritten (s : State) (k : Nat) : State :=
  let s1 := unsettle s k
  if getN s (0x2100 + k) 0x08 = 2 then updConv s1 k fun c => { c with outOfTol := false } else s1

/-- The reference in use, in microvolts, is in tolerance by the table of R136; `change` is its change in 1 ms, in microvolts. -/
def inTolerance (sel uv change : Nat) : Bool :=
  match sel with
  | 0 => decide (1243750 ≤ uv) && decide (uv ≤ 1256250)
  | 1 => decide (1000000 ≤ uv) && decide (uv ≤ 2600000) && decide (1000 * change < uv)
  | _ => decide (20000 ≤ uv) && decide (uv ≤ 2500000)

/-- The monitor judges the reference of converter k (R136): at all times, but a ratiometric one only during a slot of a port whose
excitation current flows. -/
def monitorJudges (s : State) (k : Nat) : Bool :=
  getN s (0x2100 + k) 0x08 != 2 || (match (convAt s k).slot with | some sl => slotExcited s k sl | none => false)

/-- REFERENCE_OUT_OF_TOLERANCE (R136, R137): the monitor judges the reference in use by what it sees: an out-of-tolerance finding begins or
goes on, or ends. -/
def execReferenceOutOfTolerance (k : Nat) (m : MonitorIn) (s : State) : Out :=
  let ok := islandsRun s && decide (k < 8) && monitorJudges s k
  doneIf ok s (
    if !inTolerance (getN s (0x2100 + k) 0x08) m.uv m.change then
      raiseHeld (unsettle (updConv s k fun c => { c with outOfTol := true }) k) (0x2030 + k)
    else if (convAt s k).outOfTol then updConv s k fun c => { c with outOfTol := false, settleFrom := s.clock.ref }
    else s)

/-- SETTLING_COMPLETE (R137): 2 ms have passed with the reference in tolerance; the flag is set and 0x2030 + k clears. -/
def execSettlingComplete (k : Nat) (s : State) : Out :=
  let c := convAt s k
  let t := c.settleFrom + 2 * refMs
  let ok := islandsRun s && decide (k < 8) && !c.outOfTol && !settled s k && dueRef s t
  doneIf ok s (dropCond (setN (advance s t) (0x2100 + k) 0x09 1) (0x2030 + k))

end Sys2Proof.Machine
end

