-- ==== Sys2Proof/Machine/Metro.lean ====
section
/-! DEFINITION. The metrology engine's side of a converter result: coefficients and staging (R175, R176, R183), port scaling
(R88, R89, R116), presence (R94), captures (R178 to R181), self-check (R141), meter sensors (R194). -/

namespace Sys2Proof.Machine

/-! ## Coefficients -/

/-- Number of coefficient entries that differ from their opening values (2180.06, R182). -/
def changedCount (s : State) : Nat :=
  (s.cal.opening.filter fun e => decide (getBytes s (e.1 / 256) (e.1 % 256) ≠ e.2)).length

/-- The dirty bit of a coefficient's owner: converters 0 to 7, then lanes (R183). -/
def dirtyBit (index : Nat) : Nat := if index < 0x2190 then 8 + (index - 0x2128) else index - 0x2190
/-- The session-dirty marker (R183). -/
def dirtyBits (s : State) : Nat := match recValue s recDirty with | some b => leNat b | none => 0
/-- Set the owner's bit in the session-dirty marker before the first change is staged (R183). -/
def markDirty (s : State) (index : Nat) : State :=
  let d := dirtyBits s
  if d.testBit (dirtyBit index) then s
  else writeNow s (.record recDirty (leBytes 2 (d + 2 ^ dirtyBit index)))

/-- Stage a coefficient value (R176): the value in effect is kept while it waits, unless it takes effect at once. -/
def stageCoefficient (s : State) (index sub : Nat) (v : Bytes) (now : Bool) : State :=
  let key := keyOf index sub
  let cur := getBytes s index sub
  let opening := if (mapGet s.cal.opening key).isSome then s.cal.opening else mapSet s.cal.opening key cur
  let eff := if now then mapDel s.cal.inEffect key
    else if (mapGet s.cal.inEffect key).isSome then s.cal.inEffect else mapSet s.cal.inEffect key cur
  let s1 := setBytes { s with cal := { s.cal with opening := opening, inEffect := eff } } index sub v
  setN s1 0x2180 0x06 (changedCount s1)

/-! ## Port scaling -/

/-- Two to the 23rd in binary64. -/
def full23 : F64 := f64 8388608

/-- The bank reference resistor in ohms (R135). -/
def bankResistor (s : State) (k : Nat) : F64 :=
  match getN s (0x2108 + k) 0x0D with | 0 => f64 500 | 1 => f64 5000 | _ => f64 50000

/-- The reference voltage of a port channel in volts: 1.250 V, or VREFk (R135). -/
def referenceVolts (s : State) (k : Nat) : F64 :=
  if getN s (0x2100 + k) 0x08 = 1 then Config.externalRef k else f64 1250 1000

/-- A raw code corrected by the coefficients of its conversion (R175, R176): c' = c (1 + G 1e-9) + O / 256. -/
def correctCode (g o : Int) (code : F64) : F64 :=
  dadd (dmul code (dadd (f64 1) (dmul (f64 g) (f64 1 1000000000)))) (ddiv (f64 o) (f64 256))

/-- Volts at the converter input of a corrected code. -/
def codeVolts (s : State) (k : Nat) (c : F64) : F64 := dmul (ddiv c full23) (referenceVolts s k)

/-- Excitation current in amperes (R87). -/
def excitation (s : State) (n : Nat) : F64 := f64 (getN s (0x2000 + n) 0x07) 1000000

/-- Sensor resistance in ohms of a corrected code (R87, R135). -/
def codeOhms (s : State) (n : Nat) (c : F64) : F64 :=
  let k := n / 8
  if getN s (0x2100 + k) 0x08 = 2 then dmul (ddiv c full23) (bankResistor s k) else ddiv (codeVolts s k c) (excitation s n)

/-- Port quantity of a corrected code by the nominal scaling: ohms, milliamperes, or the front end's unit (R84, R89, R177). -/
def codeQuantity (s : State) (n : Nat) (c : F64) : F64 :=
  let m := portMode s n
  if m = 3 ∨ m = 4 then codeOhms s n c
  else if m = 2 then dmul (codeVolts s (n / 8) c) (f64 20)
  else dmul (codeVolts s (n / 8) c) (Config.frontGain m)

/-- The code that the nominal scaling maps to a quantity: volts, amperes or ohms (R177). -/
def expectedCode (s : State) (n : Nat) (y : F64) : F64 :=
  let m := portMode s n
  let k := n / 8
  if m = 3 ∨ m = 4 then
    if getN s (0x2100 + k) 0x08 = 2 then ddiv (dmul full23 y) (bankResistor s k)
    else ddiv (dmul full23 (dmul y (excitation s n))) (referenceVolts s k)
  else if m = 2 then ddiv (dmul full23 (dmul y (f64 50))) (referenceVolts s k)
  else ddiv (dmul full23 (ddiv y (Config.frontGain m))) (referenceVolts s k)

/-- Temperature of a resistance by sensor type (R88). -/
def sensorTemp (s : State) (n : Nat) (r : F64) : F64 :=
  match getN s (0x2000 + n) 0x06 with
  | 0 => platinumTemp (ddiv r (f64 100))
  | 1 => platinumTemp (ddiv r (f64 500))
  | 2 => platinumTemp (ddiv r (f64 1000))
  | 3 => nickelTemp (ddiv r (f64 1000))
  | 4 =>
    let l := lnOf r
    let a := toF64 (getF s (0x2040 + n) 0x08)
    let b := toF64 (getF s (0x2040 + n) 0x09)
    let c := toF64 (getF s (0x2040 + n) 0x0A)
    dsub (ddiv (f64 1) (dadd a (dadd (dmul b l) (dmul c (dmul l (dmul l l)))))) (f64 27315 100)
  | _ => r

/-- Automatic short and open thresholds of a sensor type in ohms (R88). -/
def autoThresholds (ty : Nat) : Nat × Nat :=
  match ty with
  | 0 => (15, 400) | 1 => (75, 2000) | 2 => (150, 4000) | 3 => (500, 3000) | 4 => (50, 1000000) | _ => (1, 1000000)

/-- The short and open thresholds in force (R88). -/
def thresholds (s : State) (n : Nat) : F64 × F64 :=
  let (a, b) := autoThresholds (getN s (0x2000 + n) 0x06)
  let sh := getF s (0x2040 + n) 0x07
  let op := getF s (0x2040 + n) 0x06
  (if feq sh (f32 0) then f64 a else toF64 sh, if feq op (f32 0) then f64 b else toF64 op)

/-! ## Presence (R94) -/

/-- A presence sample of x millivolts whose conversion began at instant t: each excursion beyond a threshold, on either side, is a
pulse. DESIGN CHOICE: a rate below 20 S/s is judged by the time between the starts of two successive conversions, over 50 ms, and the band-passed
amplitude of R84 is the absolute value of each filtered sample (log 104). -/
def presenceSample (s : State) (n : Nat) (x : F64) (t : Nat) : State :=
  let p := portAt s n
  let lo := getF s (0x2040 + n) 0x0E
  let hi := getF s (0x2040 + n) 0x0F
  let out := Config.bandOutput p.band x lo hi
  let level := toF64 (getF s (0x2040 + n) 0x10)
  let beyond := if dlt level out then some true else if dlt level (dneg out) then some false else none
  let slow := match p.lastScan with | some u => decide (50 * refMs < t - u) | none => false
  let win := getN s (0x2040 + n) 0x12
  let pulses := (if beyond.isSome && beyond != p.beyond then [s.clock.tick] else []) ++ p.pulses.filter fun q => decide (s.clock.tick < q + win)
  let s1 := updPort s n fun p => { p with band := Config.bandMemory p.band x lo hi, beyond := beyond, pulses := pulses, lastScan := some t }
  let s2 := judgeFault s1 n 6 slow
  if slow then setN s2 (0x2000 + n) 0x0A 0
  else
    let s3 := setPv s2 n (toF32 (dabs out))
    if getN s (0x2040 + n) 0x11 ≤ pulses.length ∧ getB s (0x2000 + n) 0x0A = false then
      addN (setN s3 (0x2000 + n) 0x0A 1) (0x2000 + n) 0x0B 1
    else s3

/-! ## Meter sensors (R194) -/

/-- Take two sensor results of equal timestamp as an accepted pair (R194). -/
def acceptPair (s : State) (m : Nat) : State :=
  let x := meterAt s m
  match x.supply, x.ret with
  | some a, some b =>
    if a.stamp = b.stamp ∧ a.usable = true ∧ b.usable = true then
      updMeter s m fun x => { x with pairs := x.pairs ++ [(a.at_, a.temp, b.temp)], supply := none, ret := none }
    else s
  | _, _ => s

/-- Set a slot flag of meter m in the interval in progress. -/
def slotFlag (s : State) (m bit : Nat) : State :=
  updMeter s m fun x => { x with slotFlags := if x.slotFlags.testBit bit then x.slotFlags else x.slotFlags + 2 ^ bit }

/-- Give a temperature result with register flags, whose slot ended at instant `fin`, to every enabled meter whose sensor is port n
(R194, R199). -/
def feedMeters (s0 : State) (n flags stamp fin : Nat) (temp : F64) : State :=
  let s := if dIsNaN temp then noteNan s0 n fin else s0
  let bad := flags.testBit 2 || flags.testBit 6 || flags.testBit 3 || flags.testBit 7
  let displaced := flags.testBit 4
  (List.range 16).foldl (fun a m =>
    if meterSensor a m n then
      let r : SensorRes := ⟨stamp, devAt s fin, temp, !bad && !displaced⟩
      let a1 := if getN a (0x2210 + m) 0x01 = n then updMeter a m fun x => { x with supply := some r }
        else updMeter a m fun x => { x with ret := some r }
      let a2 := if displaced && !bad then slotFlag (addN a1 (0x2210 + m) 0x0D 1) m 9 else a1
      acceptPair a2 m
    else a) s

/-! ## Captures (R178 to R181) -/

/-- Stage a computed coefficient as an audited write of the device (R180, R183, R309 kind 2). -/
def stageComputed (s : State) (index sub : Nat) (now : Bool) (v : Int) : State :=
  let b := leBytes 4 (ofSigned 32 v)
  let s1 := markDirty s index
  let s2 := appendAudit s1 .device 2 index sub 0 b
  let s3 := writeNow s2 (.record (keyOf index sub) b)
  stageCoefficient s3 index sub b now

/-- End a capture: state 3 or 4, the kept count. -/
def endCapture (s : State) (state kept : Nat) : State :=
  setN (setN { s with cal := { s.cal with capture := none } } 0x2181 0x07 state) 0x2181 0x08 kept

/-- Mean and sample standard deviation of codes in 1/256 code, rounded half away from zero (R179; log 67). -/
def codeStats (cs : List Int) : Int × Nat :=
  let n := cs.length
  let sum := cs.foldl (· + ·) 0
  let sq := cs.foldl (fun a c => a + c * c) 0
  let mean := roundAway (256 * sum) n
  let dev := if n < 2 then 0 else
    let v := (4 * 65536 * ((n : Int) * sq - sum * sum)).toNat / (n * (n - 1))
    (isqrt v + 1) / 2
  (mean, dev)

/-- A quantity from 1e-9 units. -/
def nano (v : Int) : F64 := ddiv (f64 v) (f64 1000000000)

/-- The session's point of a port and kind. -/
def calPoint (s : State) (port kind : Nat) : Option CalPoint := s.cal.points.find? fun p => p.port == port && p.kind == kind

/-- Store a point, replacing an earlier one of the same port and kind (R180). -/
def putPoint (s : State) (p : CalPoint) : State :=
  { s with cal := { s.cal with points := p :: s.cal.points.filter fun q => !(q.port == p.port && q.kind == p.kind) } }

/-- G and O of R180 from the zero and full-scale points, or none where nothing may be staged. -/
def computeGO (s : State) (z f : CalPoint) : Option (Int × Int) :=
  let e0 := expectedCode s z.port (nano z.reference)
  let e1 := expectedCode s f.port (nano f.reference)
  let m0 := ddiv (f64 z.mean) (f64 256)
  let m1 := ddiv (f64 f.mean) (f64 256)
  let de := dsub e1 e0
  let dm := dsub m1 m0
  let g := droundAway (dmul (f64 1000000000) (dsub (ddiv de dm) (f64 1)))
  let o := droundAway (dmul (f64 256) (dsub e0 (dmul m0 (dadd (f64 1) (dmul (f64 g) (f64 1 1000000000))))))
  if dlt (dabs de) (f64 262144) || (dlt de (f64 0) != dlt dm (f64 0)) || dle (dabs dm) (f64 0)
      || decide (g < -2000000) || decide (2000000 < g) || decide (o < -1000000) || decide (1000000 < o) then none
  else some (g, o)

/-- A done capture: mean, deviation, then the point's own result (R179 to R181). DESIGN CHOICE: in a power-fail warning, in which no
coefficient can be stored (R34), a full-scale capture stages nothing and ends in state 4 (log 105). -/
def captureDone (s : State) (c : Capture) : State :=
  let k := c.port / 8
  let ch := c.port % 8
  let (mean, dev) := codeStats c.kept
  if c.spread < dev then raiseHeld (endCapture s 4 c.kept.length) (0x4010 + k)
  else
    let s1 := setN (setI (endCapture s 3 c.kept.length) 0x2181 0x09 mean) 0x2181 0x0A dev
    match c.kind with
    | 0 => putPoint s1 ⟨c.port, 0, c.reference, mean⟩
    | 1 =>
      let p : CalPoint := ⟨c.port, 1, c.reference, mean⟩
      if !hamperFree s then setN s1 0x2181 0x07 4
      else match calPoint s c.port 0 with
      | some z => match computeGO s z p with
        | some (g, o) => 
          stageComputed (stageComputed (putPoint s1 p) (0x2190 + k) (0x10 + ch) (!convRun s k) g) (0x2190 + k) (0x18 + ch)
            (!convRun s k) o
        | none => raiseHeld (setN s1 0x2181 0x07 4) (0x4020 + k)
      | none => raiseHeld (setN s1 0x2181 0x07 4) (0x4020 + k)
    | _ =>
      let g := getI s (0x2190 + k) (0x10 + ch)
      let o := getI s (0x2190 + k) (0x18 + ch)
      let cc := dadd (dmul (ddiv (f64 mean) (f64 256)) (dadd (f64 1) (dmul (f64 g) (f64 1 1000000000)))) (ddiv (f64 o) (f64 256))
      let q := codeQuantity s c.port cc
      let q := if portMode s c.port = 2 then ddiv q (f64 1000) else q
      setI s1 0x2181 0x0B (droundAway (dmul (f64 1000000000) (dsub q (nano c.reference))))

/-- A calibration result reaches the capture (R178, R179): kept unless unsettled or over-range; done at K, failed after 2 K. -/
def feedCapture (s : State) (k : Nat) (code : Int) (flags : Nat) : State :=
  match s.cal.capture with
  | none => s
  | some c =>
    if c.port / 8 ≠ k ∨ (convAt s k).resFor ≠ s.cal.captures then s
    else
      let keep := !flags.testBit 2 && !flags.testBit 6
      let c1 := { c with passed := c.passed + 1, kept := if keep then c.kept ++ [code] else c.kept }
      let s1 := setN { s with cal := { s.cal with capture := some c1 } } 0x2181 0x08 c1.kept.length
      if c.samples ≤ c1.kept.length then captureDone s1 c1
      else if 2 * c.samples ≤ c1.passed then raiseHeld (endCapture s1 4 c1.kept.length) (0x4010 + k)
      else showConv (stageRequest s1 k false (c.port % 8) s1.clock.ref) k

/-! ## Self-check (R141) and drift (R450) -/

/-- Add a self-check conversion to the day's drift counts. -/
def driftAdd (s : State) (k : Nat) (zero : Bool) (v : Int) : State :=
  let f (l : List DriftDay) : List DriftDay :=
    let (d, r) : DriftDay × List DriftDay := match l with | [] => (⟨0, 0, 0, 0⟩, []) | d :: r => (d, r)
    (if zero then { d with zeros := d.zeros + 1, zeroSum := d.zeroSum + v }
      else { d with refs := d.refs + 1, refSum := d.refSum + v }) :: r
  { s with health := { s.health with drift := vUpd s.health.drift k f } }

/-- A result of channel 8 or 9: the entry, the condition, and its clearing after 10 good conversions of each (R141). -/
def selfCheck (s : State) (k ch : Nat) (code : Int) : State :=
  let v := if ch = 8 then code else code - 6710886
  let good := if ch = 8 then decide (-200 ≤ v ∧ v ≤ 200) else decide (-3355 ≤ v ∧ v ≤ 3355)
  let s1 := driftAdd (setI s (0x2108 + k) (if ch = 8 then 0x0E else 0x0F) v) k (ch == 8) v
  let s2 := updConv s1 k fun c =>
    if ch = 8 then { c with zeroRun := if good then c.zeroRun + 1 else 0 }
    else { c with refRun := if good then c.refRun + 1 else 0 }
  if !good then raiseHeld s2 (0x2040 + k)
  else if 10 ≤ (convAt s2 k).zeroRun ∧ 10 ≤ (convAt s2 k).refRun then dropCond s2 (0x2040 + k) else s2

/-! ## Taking a result (R139) -/

/-- A scan result of port n in its mode, its conversion begun at instant `start`: faults, process value (R82, R84, R88, R89, R102,
R116); a code beyond the converter's range, and a voltage or current below the 0 at which the range of R84 begins, is an input beyond its
mode range (log 17, log 52). -/
def portResult (s0 : State) (n : Nat) (c : F64) (flags stamp start : Nat) (compliance : Bool) : State :=
  let m := portMode s0 n
  let q := codeQuantity s0 n c
  let beyond := flags.testBit 6
  let s := if decide (3 ≤ m ∧ m ≤ 8) || m == 15 then judgeFault s0 n 4 beyond else s0
  if m = 1 then
    setPv (judgeFault s n 4 (dlt (f64 305 10) q || dlt q (f64 0) || beyond)) n (toF32 q)
  else if m = 2 then
    let s1 := judgeFault s n 1 (getN s (0x2000 + n) 0x08 == 1 && dlt q (f64 36 10))
    setPv (judgeFault s1 n 4 (dlt (f64 21) q || dlt q (f64 0) || beyond)) n (toF32 q)
  else if m = 3 ∨ m = 4 then
    let (sh, op) := thresholds s n
    let s1 := judgeFault s n 1 (compliance || dlt op q)
    let s2 := judgeFault s1 n 2 (dlt q sh)
    let t := sensorTemp s n q
    let s3 := setPv s2 n (toF32 t)
    feedMeters s3 n flags stamp (convAt s3 (n / 8)).resEnd (if faultNaN s3 n then nan64 else t)
  else if m = 5 ∨ m = 11 ∨ m = 12 ∨ m = 13 then setPv s n (toF32 q)
  else if m = 8 then presenceSample s n q start
  else s

/-- Terminal voltage and current from a result (R87, R112, R116; log 17, log 51): none without excitation current. -/
def terminals (s : State) (n : Nat) (c : F64) : State :=
  let m := portMode s n
  let q := codeQuantity s n c
  let on := (convAt s (n / 8)).resExcited
  let v := if m = 3 ∨ m = 4 then (if on then dmul q (excitation s n) else f64 0) else if m = 2 then dmul q (f64 5 100) else if m = 13 ∨ m = 8 then
    dmul (codeVolts s (n / 8) c) (Config.frontGain 1) else q
  let i := if m = 3 ∨ m = 4 then (if on then toF32 (dmul (excitation s n) (f64 1000)) else f32 0) else if m = 2 ∨ m = 13 then fneg (toF32 q) else nan32
  setF (setF s (0x2040 + n) 0x1E (toF32 v)) (0x2040 + n) 0x1F i

/-- METROLOGY_TAKES_RESULT (R139): the engine takes the result of converter k outside raw mode. `compliance` says that the
port's excitation source stood at its compliance limit (R88). Scan results are corrected and scaled, those of conversions begun before the mode was enabled set no process value (R85); an injected result sets
the terminal values only (log 17); a calibration result feeds only the capture (R178). -/
def execMetrologyTakesResult (k : Nat) (compliance : Bool) (s : State) : Out :=
  let flags := getN s (0x2100 + k) 0x04
  let ok := isUp s && decide (k < 8) && flags.testBit 0 && !getB s (0x2108 + k) 0x0C
  doneIf ok s (
    let code := getI s (0x2100 + k) 0x03
    let stamp := getN s (0x2100 + k) 0x05
    let ch := flags / 256 % 16
    let s1 := setN s (0x2100 + k) 0x04 (flags - flags % 4)
    if flags.testBit 7 then feedCapture s1 k code flags
    else if ch < 8 then
      let n := 8 * k + ch
      let x := convAt s k
      let c := correctCode x.resGain x.resOffset (f64 code)
      let s2 := setBit (terminals s1 n c) (0x2000 + n) 0x03 10 (flags.testBit 2)
      if flags.testBit 3 then s2
      else if (portAt s2 n).modeAt.isSome || (portAt s2 n).shuntTill.isSome || unscanned s2 n
          || decide (x.resStart < (portAt s2 n).since) then s2
      else updPort (portResult s2 n c flags stamp x.resStart compliance) n fun p => { p with valueStart := x.resStart }
    else if ch = 8 ∨ ch = 9 then selfCheck s1 k ch code
    else if ch = 10 then updConv s1 k fun x => { x with dieCode := some code, dieTick := s.clock.tick }
    else s1)

end Sys2Proof.Machine
end

