-- ==== Sys2Proof/Machine/Meter.lean ====
section
/-! DEFINITION. Energy meters, pulse counters, tariffs, intervals and records (R190 to R216), the period update of striped
counters (R417). -/

namespace Sys2Proof.Machine

/-! ## Period updates (R416, R417) -/

/-- The carry marker's bytes (R417). -/
def markerBytes (st kind owner pe : Nat) (limbs : List (Nat × Nat)) (committed : Nat) : Bytes :=
  leBytes 1 st ++ leBytes 1 kind ++ leBytes 1 owner ++ leBytes 1 limbs.length ++ leBytes 8 pe
    ++ padTo 16 ((limbs.map fun l => leBytes 2 (recordId l.1)).flatten)
    ++ padTo 32 ((limbs.map fun l => leBytes 4 l.2).flatten) ++ leBytes 8 committed

/-- The committed end of the carry marker in use; 0 in a marker never written. -/
def committedEnd (s : State) : Nat := match recValue s recMarker with | some b => fieldN b 60 8 | none => 0

/-- The limbs of one striped counter whose value changes: record and new value, low to high. -/
def changedLimbs (s : State) (c : Nat × Nat × Nat) : List (Nat × Nat) :=
  let old := getN s c.1 c.2.1
  (List.range (entSize c.1 c.2.1 / 4)).filterMap fun k =>
    let o := old / 2 ^ (32 * k) % 2 ^ 32
    let n := c.2.2 / 2 ^ (32 * k) % 2 ^ 32
    if o = n then none else some (recLimb (keyOf c.1 c.2.1) k, n)

/-- A period update as a loss of power may find it (R415, log 75). -/
def noteUpdate (s : State) (limbs : List (Nat × Nat)) : State :=
  { s with stor := { s.stor with
    update := some ⟨s.clock.ref, recFind s.stor.recs recMarker, limbs.map fun l => recFind s.stor.recs l.1⟩
    journal := { s.stor.journal with doneAt := none } } }

/-- One period update (R417): marker set, limbs from low to high, marker clear with the committed end advanced, values
published. `cs` lists index, subindex and new value of each counter, ascending in their limb ids (log 58). -/
def periodUpdate (s : State) (kind owner pe : Nat) (cs : List (Nat × Nat × Nat)) : State :=
  let limbs := (cs.map (changedLimbs s)).flatten
  let com := committedEnd s
  let s0 := applyTarget (drainTo s Writer.metrology.cls) (.record recMarker (markerBytes 1 kind owner pe limbs com))
  let s1 := noteUpdate s0 limbs
  let s2 := limbs.foldl (fun a l => applyTarget a (.record l.1 (leBytes 4 l.2))) s1
  let s3 := applyTarget s2 (.record recMarker (markerBytes 0 kind owner pe limbs (max com pe)))
  cs.foldl (fun a c => setN a c.1 c.2.1 c.2.2) s3

/-! ## Interval flags -/

/-- What the interval in progress has collected (R206): record flags, pulse flags, meter mask, slot flags and slot error times; and the
epoch, audit sequence and time quality of this instant. -/
def soFarBytes (s : State) : Bytes :=
  leBytes 2 (getN s 0x2243 0x03) ++ leBytes 4 s.interval.pulseFlags ++ leBytes 2 s.interval.meterMask
    ++ ((List.range 16).map fun m => leBytes 2 (meterAt s m).slotFlags ++ leBytes 2 (min 65535 (meterAt s m).errTime)).flatten
    ++ leBytes 4 (getN s 0x2180 0x08) ++ leBytes 4 (auditSeq s) ++ leBytes 1 (timeQuality s)

/-- Keep what the interval has collected in the Hamper at its start and at each committed period end, where the record of an interval
that a power loss cuts short ends (R184, R206, R209, R486; log 89). -/
def keepSoFar (s : State) : State :=
  let b := soFarBytes s
  if s.interval.running && recValue s recSoFar != some b then writeNow s (.record recSoFar b) else s

/-- Set a record flag of the interval in progress (R206). -/
def recFlag (s : State) (i : Nat) : State := setBit s 0x2243 0x03 i true

/-- What is kept of the interval in progress, with a record flag set. -/
def flaggedSoFar (s : State) (i : Nat) : List Bytes :=
  match recValue s recSoFar with
  | some b =>
    let f := fieldN b 0 2
    if s.interval.running && !f.testBit i then [leBytes 2 (f + 2 ^ i) ++ b.drop 2] else []
  | none => []

/-- Set a record flag of the interval in progress that its rule gives to this interval's record, whenever that ends: a time step, an M
entry, a tariff setting, a tamper event (R192, R206, R312, R383; log 89). -/
def recEvent (s : State) (i : Nat) : State :=
  (flaggedSoFar s i).foldl (fun a b => writeNow a (.record recSoFar b)) (recFlag s i)

/-- The metering engine works: firmware up, an interval in progress, the Hamper taking writes (R207). -/
def meterRuns (s : State) : Bool := isUp s && hamperFree s && s.interval.running

/-! ## Meters: enabling (R190 to R193) -/

/-- Flow source of meter m: kind and number. -/
def flowKind (s : State) (m : Nat) : Nat := getN s (0x2210 + m) 0x03
def flowNumber (s : State) (m : Nat) : Nat := getN s (0x2210 + m) 0x04

/-- Counter q is the flow source of an enabled meter. -/
def flowMeter (s : State) (q : Nat) : Option Nat :=
  (List.range 16).find? fun m => getB s (0x2200 + m) 0x01 && flowKind s m == 1 && flowNumber s m == q

/-- The refusals of R191 for a write of 1 to Enable of meter m. -/
def meterRefused (s : State) (m : Nat) : Bool :=
  let a := getN s (0x2210 + m) 0x01
  let b := getN s (0x2210 + m) 0x02
  let mode34 (n : Nat) : Bool := portMode s n == 3 || portMode s n == 4
  let bound (n : Nat) : Bool := (List.range 16).any fun i => i != m && meterSensor s i n
  let k := flowNumber s m
  decide (63 < a) || decide (63 < b) || a == b || !mode34 a || !mode34 b || bound a || bound b || !aligned s a b
    || (flowKind s m == 0 && (decide (7 < k) || getN s (0x2120 + k) 0x01 != 1
        || decide (1000 * getN s (0x2210 + m) 0x08 < getN s (0x2120 + k) 0x03)))
    || (flowKind s m == 1 && (!getB s (0x2220 + k) 0x01 || getN s (0x2220 + k) 0x03 != 1))
    || ((List.range 16).any fun i => i != m && getB s (0x2200 + i) 0x01 && flowKind s i == flowKind s m && flowNumber s i == k)
    || (decide (1 ≤ getN s (0x2210 + m) 0x06) && !getB s (0x224B + getN s (0x2210 + m) 0x06) 0x03)

/-- Status and bound meter of counter q (R214). -/
def showCounter (s : State) (q : Nat) : State :=
  let f := flowMeter s q
  setN (setN s (0x2220 + q) 0x08 (bitVal (getB s (0x2220 + q) 0x01) 0 + bitVal (raised s (0x5100 + q)) 1 + bitVal f.isSome 2))
    (0x2220 + q) 0x09 (f.getD 0xFF)

/-- Every counter's status. -/
def showCounters (s : State) : State := (List.range 32).foldl showCounter s

/-- A device time of a result lies at or before boundary b (R193: a period includes its end). -/
def upTo (b : Nat) (t : Int) : Bool := decide (t ≤ (b * refMs : Nat))

/-- A period starts at device time t (R193, R199): what fell at or before t belongs to the period that ended; what fell after it is
kept. -/
def startPeriod (s : State) (m t : Nat) : State :=
  let nan (sub : Nat) : Bool := fIsNaN (getF s (0x2000 + getN s (0x2210 + m) sub) 0x02)
  updMeter s m fun x => { x with
    start := some t, startRef := s.clock.tick, pairs := x.pairs.filter fun p => !upTo t p.1,
    lastPair := (((x.pairs.filter fun p => upTo t p.1).getLast?).map some).getD x.lastPair,
    nans := x.nans.filter fun p => !upTo t p.1, nanFrom := (nan 0x01, nan 0x02), lane := x.lane.filter fun p => !upTo t p.1,
    pulses := x.pulses.filter fun p => decide (t < p.1), invalid := !s.power.metrologyValid, session := s.cal.open_,
    stepped := false }

/-- Enable of meter m changes (R191, R193, R206): slot flag 1, the meter mask, and the wait for the next boundary; a disabled meter
has no period with a cause (R216; log 99). -/
def meterEnabled (s : State) (m : Nat) (on : Bool) : State :=
  let s1 := slotFlag s m 1
  let s2 := updMeter s1 m fun x => { x with
    start := none, supply := none, ret := none, pairs := [], nans := [], lane := [], pulses := [], enabledAt := devTime s }
  let mask := s2.interval.meterMask
  let s3 := if on && !mask.testBit m then { s2 with interval := { s2.interval with meterMask := mask + 2 ^ m } } else s2
  showCounters (if on then s3 else [0x5010, 0x5020, 0x5030, 0x5040].foldl (fun a c => dropCond a (c + m)) s3)

/-! ## One metering period (R193 to R200) -/

/-- Metering period of meter m in milliseconds. -/
def periodMs (s : State) (m : Nat) : Nat := 1000 * max 1 (getN s (0x2210 + m) 0x08)

/-- The temperatures of the period (R194): the means of its pairs, or the last accepted pair within the stale limit. -/
def periodTemps (s : State) (m b : Nat) : Option (F64 × F64) × Bool :=
  let x := meterAt s m
  let ps := x.pairs.filter fun p => upTo b p.1
  let mean (f : Int × F64 × F64 → F64) : F64 := ddiv (ps.foldl (fun a p => dadd a (f p)) (f64 0)) (f64 ps.length)
  if !ps.isEmpty then (some (mean fun p => p.2.1, mean fun p => p.2.2), false)
  else match x.lastPair with
    | some (t, a, r) =>
      if ((b * refMs : Nat) : Int) ≤ t + ((1000 * refMs * getN s (0x2210 + m) 0x0C : Nat) : Int) then (some (a, r), true) else (none, false)
    | none => (none, false)

/-- The supply, and the return, temperature was NaN at some instant of the period that ends at b (R199). -/
def periodNan (s : State) (m b : Nat) : Bool × Bool :=
  let x := meterAt s m
  (x.nanFrom.1 || x.nans.any fun p => upTo b p.1 && p.2, x.nanFrom.2 || x.nans.any fun p => upTo b p.1 && !p.2)

/-- Linear interpolation in a table of points (R196). -/
def interpolate : List (F64 × F64) → F64 → F64
  | (x0, y0) :: (x1, y1) :: r, x =>
    if dle x x1 || r.isEmpty then dadd y0 (ddiv (dmul (dsub y1 y0) (dsub x x0)) (dsub x1 x0)) else interpolate ((x1, y1) :: r) x
  | _, _ => nan64

/-- Points of a column of user table t: temperature with density (0x30) or enthalpy (0x50). -/
def fluidPoints (s : State) (t col : Nat) : List (F64 × F64) :=
  (List.range (min 32 (getN s (0x224C + t) 0x01))).map fun i =>
    (toF64 (getF s (0x224C + t) (0x10 + i)), toF64 (getF s (0x224C + t) (col + i)))

/-- The fluid of meter m: its valid range, density and enthalpy (R196). -/
def fluidLow (s : State) (m : Nat) : F64 :=
  match getN s (0x2210 + m) 0x06 with
  | 0 => f64 0
  | t + 1 => ((fluidPoints s t 0x30).head?.map (·.1)).getD nan64
def fluidHigh (s : State) (m : Nat) : F64 :=
  match getN s (0x2210 + m) 0x06 with
  | 0 =>
    let sat := waterSaturation (toF64 (getF s (0x2210 + m) 0x07))
    if dlt sat (f64 150) then sat else f64 150
  | t + 1 => ((fluidPoints s t 0x30).getLast?.map (·.1)).getD nan64
def density (s : State) (m : Nat) (x : F64) : F64 :=
  match getN s (0x2210 + m) 0x06 with
  | 0 => waterDensity x (toF64 (getF s (0x2210 + m) 0x07))
  | t + 1 => interpolate (fluidPoints s t 0x30) x
def enthalpy (s : State) (m : Nat) (x : F64) : F64 :=
  match getN s (0x2210 + m) 0x06 with
  | 0 => waterEnthalpy x (toF64 (getF s (0x2210 + m) 0x07))
  | t + 1 => interpolate (fluidPoints s t 0x50) x

/-- A temperature lies in the fluid's valid range. -/
def inFluid (s : State) (m : Nat) (x : F64) : Bool := dle (fluidLow s m) x && dle x (fluidHigh s m)

/-- What one period comes to, before anything is added. -/
structure PeriodCalc where
  /-- temperatures, NaN where there are none; whether each was NaN at some instant -/
  sup : F64
  ret : F64
  supNan : Bool
  retNan : Bool
  stale : Bool
  tempFault : Bool
  rangeFault : Bool
  flowFault : Bool
  laneFault : Bool
  reverse : Bool
  invalid : Bool
  session : Bool
  /-- volume in m³, NaN with a flow fault; energy in J and heat coefficient in MJ/(m³ K), NaN where not computed -/
  volume : F64
  energy : F64
  coefficient : F64

/-- The flow of the period (R195, R200; log 56): its volume, whether the lane's results give a flow fault, whether flow ran
backwards. -/
def periodFlow (s : State) (m b : Nat) : F64 × Bool × Bool :=
  let x := meterAt s m
  if flowKind s m = 1 then
    let n : Nat := ((x.pulses.filter fun p => decide (p.1 ≤ b)).map (·.2)).sum
    (ddiv (dmul (f64 n) (toF64 (getF s (0x2220 + flowNumber s m) 0x04))) (f64 1000), false, false)
  else
    let rs := x.lane.filter fun p => upTo b p.1
    let bad := rs.isEmpty || rs.any fun p => p.2.2.1
    let back := rs.any fun p => p.2.2.2
    (if back then f64 0 else rs.foldl (fun a p => dadd a p.2.1) (f64 0), bad, back)

/-- The period of meter m that ends at boundary b (R194 to R199). -/
def periodCalc (s : State) (m b : Nat) : PeriodCalc :=
  let x := meterAt s m
  let (temps, stale) := periodTemps s m b
  let (ts, tr) := temps.getD (nan64, nan64)
  let (sn, rn) := periodNan s m b
  let known := !(dIsNaN ts || dIsNaN tr)
  let rf := known && !(inFluid s m ts && inFluid s m tr)
  let (v, lf, back) := periodFlow s m b
  let ff := lf || (back && getN s (0x2210 + m) 0x0B == 0)
  let rho := density s m (if getN s (0x2210 + m) 0x05 = 0 then ts else tr)
  let dh := dsub (enthalpy s m ts) (enthalpy s m tr)
  let ok := known && !rf
  { sup := ts, ret := tr, supNan := sn || dIsNaN ts, retNan := rn || dIsNaN tr, stale := stale, tempFault := !known || sn || rn,
    rangeFault := rf, flowFault := ff, laneFault := lf, reverse := back,
    invalid := x.invalid || !s.power.metrologyValid, session := x.session || s.cal.open_, volume := if ff then nan64 else v,
    energy := if ok && !ff then dmul (dmul (dmul rho v) dh) (f64 1000) else nan64,
    coefficient := if ok then ddiv (ddiv (dmul rho dh) (dsub ts tr)) (f64 1000) else nan64 }

/-- The period is faulted (R199). -/
def PeriodCalc.faulted (c : PeriodCalc) : Bool := c.invalid || c.session || c.tempFault || c.rangeFault || c.flowFault
/-- Its volume is added (R197). -/
def PeriodCalc.counts (c : PeriodCalc) : Bool := !c.invalid && !c.session && !c.flowFault

/-- Which register the energy goes to (R197): 0 heating, 1 cooling, none. -/
def energyTo (s : State) (m : Nat) (c : PeriodCalc) : Option Nat :=
  let d := dsub c.sup c.ret
  let th := toF64 (getF s (0x2210 + m) 0x09)
  let dir := getN s (0x2200 + m) 0x02
  if c.faulted then none
  else if dle th d ∧ (dir = 0 ∨ dir = 2) then some 0
  else if dle d (dneg th) ∧ (dir = 1 ∨ dir = 2) then some 1
  else none

/-- Whole units of an amount with a remainder, and the new remainder (R198; log 55). -/
def wholeUnits (x rest : F64) : Nat × F64 :=
  let y := dadd x rest
  let n := (dfloor y).toNat
  (n, dsub y (f64 n))

/-- Seconds by which the faulted time of meter m that ends at boundary b counts: Tm for each period of it, several where a reference fault
spanned more than one (R199, R491), or with a step inside the elapsed time rounded (R384). -/
def errorSeconds (s : State) (m b : Nat) : Nat :=
  let x := meterAt s m
  if x.stepped then (s.clock.tick - x.startRef + 500) / 1000 else (b - x.start.getD b) / 1000

/-- Elapsed seconds of the period for thermal power (R384). -/
def elapsedSeconds (s : State) (m : Nat) : F64 :=
  let x := meterAt s m
  if x.stepped then f64 (s.clock.tick - x.startRef) 1000 else f64 (getN s (0x2210 + m) 0x08)

/-- The counters of meter m that the period changes, with the new remainders (R197 to R199; log 55). -/
def periodAdds (s : State) (m b : Nat) (c : PeriodCalc) : List (Nat × Nat × Nat) × State :=
  let i := 0x2200 + m
  let t := getN s 0x2240 0x05 % 4
  let (e, s1) := match energyTo s m c with
    | some d =>
      let r := 4 * d + t
      let x := dmul (if d = 1 then dneg c.energy else c.energy) (f64 1000)
      let (n, rest) := wholeUnits x (vAt (meterAt s m).rest r 0)
      ([(i, 0x30 + r, (getN s i (0x30 + r) + n) % 2 ^ 128)],
        updMeter s m fun y => { y with rest := vUpd y.rest r fun _ => rest })
    | none => ([], s)
  let (v, s2) := if c.counts then
      let (n, rest) := wholeUnits (dmul c.volume (f64 1000000)) (meterAt s m).volRest
      ([(i, 0x0C, (getN s i 0x0C + n) % 2 ^ 64)], updMeter s1 m fun y => { y with volRest := rest })
    else ([], s1)
  let f := if c.faulted then [(i, 0x0B, (getN s i 0x0B + errorSeconds s m b) % 2 ^ 32)] else []
  (f ++ v ++ e, s2)

/-- The result group of the period (R211, R212). -/
def showPeriod (s : State) (m : Nat) (c : PeriodCalc) (dest : Option Nat) : State :=
  let i := 0x2200 + m
  let th := toF64 (getF s (0x2210 + m) 0x09)
  let d := dsub c.sup c.ret
  let s1 := setF (setF (setF s i 0x03 (toF32 c.sup)) i 0x04 (toF32 c.ret)) i 0x05 (toF32 d)
  let s2 := setF s1 i 0x06 (toF32 (ddiv (dmul c.volume (f64 3600)) (f64 (getN s (0x2210 + m) 0x08))))
  let s3 := setF s2 i 0x07 (if c.faulted then nan32 else toF32 (ddiv (ddiv c.energy (elapsedSeconds s m)) (f64 1000)))
  let s4 := setF s3 i 0x08 (toF32 c.coefficient)
  setN s4 i 0x09 (bitVal (!c.faulted) 0 + bitVal (dest == some 0) 1 + bitVal (dest == some 1) 2 + bitVal (dlt (dabs d) th) 3
    + bitVal c.supNan 4 + bitVal c.retNan 5 + bitVal c.flowFault 6
    + bitVal (c.reverse && getN s (0x2210 + m) 0x0B == 1) 7 + bitVal c.rangeFault 8
    + bitVal c.stale 9 + bitVal c.session 10 + bitVal c.invalid 11)

/-- Slot flags and error time of the interval (R199, R206). -/
def slotPeriod (s : State) (m b : Nat) (c : PeriodCalc) (dest : Option Nat) : State :=
  let set (a : State) (on : Bool) (i : Nat) : State := if on then slotFlag a m i else a
  let s1 := set (set (set (set (set s c.tempFault 2) c.flowFault 3) c.rangeFault 4) c.session 5) c.invalid 6
  let s2 := set (set s1 (c.reverse && getN s (0x2210 + m) 0x0B == 1) 7) c.stale 8
  let s3 := set (set s2 (dest == some 0) 10) (dest == some 1) 11
  if c.faulted then updMeter s3 m fun x => { x with errTime := x.errTime + errorSeconds s m b } else s3

/-- The conditions of R216's table that a period judges. -/
def periodConds (s : State) (m : Nat) (c : PeriodCalc) : State :=
  follow (follow (follow (follow s (0x5010 + m) c.tempFault) (0x5020 + m) c.laneFault)
    (0x5030 + m) c.rangeFault)
    (0x5040 + m) (c.reverse && getN s (0x2210 + m) 0x0B == 0)

/-- The latest boundary of a period or interval of `len` ms not after the present time, if it is later than `start` (R384). -/
def boundary (s : State) (start len : Nat) : Option Nat :=
  let b := devTime s / len * len
  if start < b then some b else none

/-- The reference instant at which device time was b (R193). -/
def refAt (s : State) (b : Nat) : Int := (s.clock.ref : Int) - ((devRef s : Int) - (b * refMs : Nat))

/-- No result of converter k with a timestamp up to device time b waits: none in its register for the engine, no slot that has
ended (R139, R193). -/
def converterTaken (s : State) (k b : Nat) : Bool :=
  (getB s (0x2108 + k) 0x0C || !getBit s (0x2100 + k) 0x04 0 || decide (refAt s b < (convAt s k).resEnd))
    && (!islandsRun s || match (convAt s k).slot with | some sl => decide (refAt s b < sl.fin) | none => true)

/-- Shots of one measurement of lane k (R152). -/
def shotTotal (s : State) (k : Nat) : Nat :=
  let n := getN s (0x2128 + k) 0x04
  if getN s (0x2120 + k) 0x01 = 1 then 2 * n
  else ((List.range 8).filter fun c => (getN s (0x2128 + k) 0x03).testBit c).length * n
/-- Shot interval of lane k in reference periods. -/
def shotInterval (s : State) (k : Nat) : Nat := 24 * getN s (0x2128 + k) 0x05

/-- The instant of a lane's result: the last stop event (R163), or the end of its shots where the last shot had none. -/
def laneInstant (s : State) (k : Nat) (m : Meas) : Nat := m.stop.getD (m.start + shotTotal s k * shotInterval s k)

/-- No result of lane k with a timestamp up to device time b waits: none handed, no measurement whose last shot has begun by then
and, once taken, had its stop event by then (R162, R163, R193). -/
def laneTaken (s : State) (k b : Nat) : Bool :=
  let l := vAt s.lanes k laneRest
  (match l.handed with | some m => decide (refAt s b < laneInstant s k m) | none => true)
    && (!islandsRun s || match l.meas with
      | some m =>
        if m.shots < shotTotal s k then decide (refAt s b < (m.start + (shotTotal s k - 1) * shotInterval s k : Nat))
        else decide (refAt s b < laneInstant s k m)
      | none => true)

/-- Every result and pulse reading of the period of meter m that ends at b has been taken: a period includes its end (R193, R195,
log 57). -/
def resultsTaken (s : State) (m b : Nat) : Bool :=
  converterTaken s (getN s (0x2210 + m) 0x01 / 8) b && converterTaken s (getN s (0x2210 + m) 0x02 / 8) b
    && (if flowKind s m = 0 then laneTaken s (flowNumber s m) b
      else decide (b ≤ 1000 * (vAt s.counters (flowNumber s m) counterRest).readSecond))

/-- METERING_PERIOD_END (R193 to R200, R384): a period of meter m ends at its boundary, when its results are taken; a newly
enabled meter starts its first period at the first boundary after enabling (log 57). -/
def execMeteringPeriodEnd (m : Nat) (s : State) : Out :=
  let x := meterAt s m
  match boundary s (x.start.getD x.enabledAt) (periodMs s m) with
  | none => .next s
  | some b =>
    let ok := meterRuns s && decide (m < 16) && getB s (0x2200 + m) 0x01 && resultsTaken s m b
    doneIf ok s (
      match x.start with
      | none => startPeriod s m b
      | some _ =>
        let c := periodCalc s m b
        let dest := energyTo s m c
        let (adds, s1) := periodAdds s m b c
        let s2 := periodUpdate s1 0 m b adds
        startPeriod (periodConds (keepSoFar (slotPeriod (showPeriod s2 m c dest) m b c dest)) m c) m b)

/-- A lane result of instant t reaches the meter that the lane feeds (R195, R200): the delivered flow in m³/h, NaN where invalid
(log 55, log 56). -/
def feedLane (s : State) (k : Nat) (q : F32) (t : Nat) : State :=
  (List.range 16).foldl (fun a m =>
    if getB a (0x2200 + m) 0x01 = true ∧ flowKind a m = 0 ∧ flowNumber a m = k then
      let x := toF64 q
      let bad := dIsNaN x || dlt (toF64 (getF a (0x2210 + m) 0x0A)) (dabs x)
      let v := ddiv (dmul x (f64 (getN a (0x2120 + k) 0x03) 1000)) (f64 3600)
      updMeter a m fun y => { y with lane := y.lane ++ [(devAt s t, if bad then f64 0 else v, bad, dlt x (f64 0))] }
    else a) s

/-! ## Pulse counters (R201) -/

/-- The refusals of R201 for a write of 1 to Enable of counter q. -/
def counterRefused (s : State) (q : Nat) : Bool :=
  let n := getN s (0x2220 + q) 0x02
  decide (63 < n) || portMode s n != 6
    || (List.range 32).any fun i => i != q && getB s (0x2220 + i) 0x01 && getN s (0x2220 + i) 0x02 == n

/-- Change counter q. -/
def updCounter (s : State) (q : Nat) (f : CounterSt → CounterSt) : State := { s with counters := vUpd s.counters q f }

/-- Set bit q of the interval's pulse flags (R206). -/
def pulseFlag (s : State) (q : Nat) : State :=
  let f := s.interval.pulseFlags
  if f.testBit q then s else { s with interval := { s.interval with pulseFlags := f + 2 ^ q } }

/-- Enable of counter q changes (R201, R214); a counter that reads no port has no source fault (R216;
log 99). -/
def counterEnabled (s : State) (q : Nat) (on : Bool) : State :=
  let s1 := if on then updCounter s q fun _ => ⟨getN s (0x2000 + getN s (0x2220 + q) 0x02) 0x0B, devTime s / 1000⟩
    else setF (pulseFlag (dropCond s (0x5100 + q)) q) (0x2220 + q) 0x06 nan32
  showCounter s1 q

/-- PULSE_COUNTER_SECOND (R201, R417): at a whole second of device time counter q takes the edges since its last reading
(log 57, log 58). -/
def execPulseCounterSecond (q : Nat) (s : State) : Out :=
  let n := getN s (0x2220 + q) 0x02
  let c := vAt s.counters q counterRest
  let sec := devTime s / 1000
  let ok := meterRuns s && decide (q < 32) && getB s (0x2220 + q) 0x01 && c.readSecond != sec
  doneIf ok s (
    let e := getN s (0x2000 + n) 0x0B
    let d := (e + 2 ^ 32 - c.lastCount) % 2 ^ 32
    let s1 := updCounter s q fun _ => ⟨e, sec⟩
    let s2 := periodUpdate s1 1 q (1000 * sec) [(0x2220 + q, 0x05, (getN s (0x2220 + q) 0x05 + d) % 2 ^ 64)]
    let s3 := addN s2 (0x2220 + q) 0x07 d
    let s4 := match flowMeter s3 q with
      | some m => updMeter s3 m fun x => { x with pulses := x.pulses ++ [(1000 * sec, d)] }
      | none => s3
    let bad := faultOrder.any (hasFault s4 n)
    let s5 := follow s4 (0x5100 + q) bad
    keepSoFar (showCounter (if bad then pulseFlag s5 q else s5) q))

/-! ## Tariffs (R202) -/

/-- A binary32 value as a whole number, if it is one and not negative (R395). -/
def wholeF (x : F32) : Option Nat :=
  match (v32 x).toRat with
  | some (a, b) => if a % (b : Int) = 0 ∧ 0 ≤ a then some (a / (b : Int)).toNat else none
  | none => none

/-- The tariff selection (R202): the fixed tariff, or the program's output where it is 0 to 3, else the previous value. -/
def tariffSelect (s : State) : Nat :=
  if getN s 0x2240 0x02 = 0 then getN s 0x2240 0x03
  else match wholeF (programNow s (getN s 0x2240 0x04)) with
    | some t => if t ≤ 3 then t else getN s 0x2240 0x06
    | none => getN s 0x2240 0x06

/-- Show the present selection in 2240.06. -/
def showTariff (s : State) : State := setN s 0x2240 0x06 (tariffSelect s)

/-! ## Billing dates (R205) -/

/-- The latest billing date not after a date; none without one. -/
def lastBilling (s : State) (day : Nat) : Option Nat :=
  let (y, m, d) := civil day
  match getN s 0x2240 0x07 with
  | 1 =>
    let w := getN s 0x2240 0x08
    if w ≤ d then some (dateOf y m w) else if m = 1 then some (dateOf (y - 1) 12 w) else some (dateOf y (m - 1) w)
  | 2 =>
    let dates := ((List.range 12).map fun i =>
      let v := getN s 0x2240 (0x10 + i)
      if v = 0 then [] else [dateOf y (v / 100) (v % 100)] ++ (if y ≤ 2000 then [] else [dateOf (y - 1) (v / 100) (v % 100)])).flatten
    (dates.filter fun x => decide (x ≤ day)).foldl (fun a x => some (max x (a.getD 0))) none
  | _ => none

/-- The earliest billing date after a date, within a year. -/
def nextBilling (s : State) (day : Nat) : Option Nat :=
  ((List.range 366).map fun i => day + 1 + i).find? fun d => lastBilling s d == some d

/-- The local date of the last interval boundary (R205, R286; log 59). -/
def lastDate (s : State) : Nat := match recValue s recDates with | some b => leNat b | none => 0

/-- The next billing instant as device time, with the present local offset (R205; log 59): one whose date has been reached but whose
boundary has not is the end of the interval in progress or of the one that comes; else the first interval boundary at or after local
00:00 of the next billing date. -/
def billingInstant (s : State) : Nat :=
  let today := localDate s (devTime s)
  let len := 60000 * max 1 (getN s 0x2240 0x01)
  let due := match lastBilling s today with | some d => decide (lastDate s < d) | none => false
  if due then
    let l := if s.interval.running then 60000 * max 1 s.interval.length else len
    let b := (devTime s + l - 1) / l * l
    if s.interval.running && decide (b ≤ getN s 0x2243 0x01) then b + l else b
  else match nextBilling s (max (lastDate s) today) with
    | none => 0
    | some d =>
      let t := ((d * dayMs : Nat) - s.clock.localOffset * 60000 : Int).toNat
      (t + len - 1) / len * len

/-- Show 2240.09. -/
def showBilling (s : State) : State := setN s 0x2240 0x09 (billingInstant s)

/-! ## Interval records (R203 to R209) -/

/-- The starting values of an interval (R204, R208): start time, length, tariff, then per meter 8 energy totals and the volume
total, then 32 pulse totals, then whether an interval is in progress, and the last committed period end. -/
def startBytes (s : State) (on : Bool) (start len tariff : Nat) : Bytes :=
  leBytes 8 start ++ leBytes 2 len ++ leBytes 1 tariff
    ++ ((List.range 16).map fun m =>
      ((List.range 8).map fun r => getBytes s (0x2200 + m) (0x30 + r)).flatten ++ getBytes s (0x2200 + m) 0x0C).flatten
    ++ ((List.range 32).map fun q => getBytes s (0x2220 + q) 0x05).flatten ++ leBytes 1 (bitVal on 0) ++ leBytes 8 (committedEnd s)

/-- The starting record in use; totals of 0 before the first. -/
def startRecord (s : State) : Bytes :=
  match recValue s recStart with | some b => b | none => List.replicate (11 + 16 * 136 + 256 + 9) 0

/-- Starting total of meter m, register r (0 to 3 heating, 4 to 7 cooling). -/
def startEnergy (b : Bytes) (m r : Nat) : Nat := fieldN b (11 + 136 * m + 16 * r) 16
/-- Starting volume of meter m. -/
def startVolume (b : Bytes) (m : Nat) : Nat := fieldN b (11 + 136 * m + 128) 8
/-- Starting pulse total of counter q. -/
def startPulses (b : Bytes) (q : Nat) : Nat := fieldN b (11 + 2176 + 8 * q) 8
/-- An interval is in progress in the starting record. -/
def startRunning (b : Bytes) : Bool := fieldN b 2443 1 == 1

/-- An increment in units of `div` between two totals (R204). -/
def increment (last first div : Nat) : Nat := last / div - first / div

/-- Energy increment of meter m, direction d, over the tariffs (R204). -/
def energyIncrement (s : State) (b : Bytes) (m d : Nat) : Nat :=
  ((List.range 4).map fun t => increment (getN s (0x2200 + m) (0x30 + 4 * d + t)) (startEnergy b m (4 * d + t)) 10000).foldl (· + ·) 0
/-- Volume increment of meter m in litres (log 60). -/
def volumeIncrement (s : State) (b : Bytes) (m : Nat) : Nat := increment (getN s (0x2200 + m) 0x0C) (startVolume b m) 1000

/-- An increment of meter m exceeds its field (R204; log 60). -/
def saturates (s : State) (b : Bytes) (m : Nat) : Bool :=
  decide (2 ^ 36 ≤ energyIncrement s b m 0) || decide (2 ^ 36 ≤ energyIncrement s b m 1) || decide (2 ^ 32 ≤ volumeIncrement s b m)

/-- Meter slot m of the record; all 0 for a meter outside the mask (log 60). -/
def slotRecord (s : State) (b : Bytes) (mask m : Nat) : Bytes :=
  if mask.testBit m then
    let x := meterAt s m
    let fl := x.slotFlags + bitVal (getB s (0x2200 + m) 0x01 && !x.slotFlags.testBit 1) 0 + bitVal (saturates s b m && !x.slotFlags.testBit 12) 12
    leBytes 4 (min (2 ^ 36 - 1) (energyIncrement s b m 0)) ++ leBytes 4 (min (2 ^ 36 - 1) (energyIncrement s b m 1))
      ++ leBytes 4 (min (2 ^ 32 - 1) (volumeIncrement s b m)) ++ leBytes 2 (min 65535 x.errTime) ++ leBytes 2 fl
  else List.replicate 16 0

/-- Byte m of the increment high bits. -/
def highBits (s : State) (b : Bytes) (mask m : Nat) : Byte :=
  if mask.testBit m then
    byte (min (2 ^ 36 - 1) (energyIncrement s b m 0) / 2 ^ 32 + 16 * (min (2 ^ 36 - 1) (energyIncrement s b m 1) / 2 ^ 32))
  else 0

/-- The chain head (R278); all 0x00 before the first record. -/
def chainHead (s : State) : Bytes := match recValue s recChain with | some b => b | none => List.replicate 32 0

/-- The 512 bytes of the interval record that ends at `fin` (R206), with the epoch, the audit sequence and the time quality at its end. -/
def makeRecord (s : State) (start fin len tariff flags pulse mask epoch audit quality : Nat) : Bytes :=
  let b := startRecord s
  let body := leBytes 4 0x31494A54 ++ leBytes 2 1 ++ leBytes 2 len ++ leBytes 8 (recordCount s) ++ leBytes 8 start ++ leBytes 8 fin
    ++ leBytes 4 epoch ++ leBytes 1 quality ++ leBytes 1 tariff ++ leBytes 2 flags ++ leBytes 4 pulse
    ++ leBytes 2 mask ++ leBytes 2 0 ++ chainHead s ++ leBytes 16 Config.serial.toNat
    ++ ((List.range 16).map fun m => slotRecord s b mask m).flatten
    ++ ((List.range 32).map fun q => leBytes 4 (getN s (0x2220 + q) 0x05 + 2 ^ 64 - startPulses b q)).flatten
    ++ leBytes 4 audit ++ (List.range 16).map (fun m => highBits s b mask m) ++ leBytes 8 0
  body ++ leBytes 4 (crc32c body).toNat

/-- The highest last record of the stored seals (R280, R287); a slot that fails its check counts as empty (R296). -/
def sealedLast (s : State) : Option Nat :=
  ((s.kiln.seals.filter (·.valid)).filterMap (·.last)).foldl (fun a x => some (max x (a.getD 0))) none

/-- Append a record in one journalled operation (R208, R278, R292): the record, the chain head, the next starting values, the
dates, the kept seal requests and the next sequence; a replaced unsealed record raises 0x8030 (R280). -/
def appendRecord (s : State) (r starts dates : Bytes) : State :=
  let seq := recordCount s
  let lost := decide (recordSlots ≤ seq) && (match sealedLast s with | none => true | some l => decide (l < seq - recordSlots))
  let s1 := journalOp s [⟨.metrology, .bytes (recordAddr seq) r⟩, recordImage recChain (sha256 r), recordImage recStart starts,
    recordImage recDates dates, keptImage s.kiln.queue, entryImage 0x2243 0x02 (leBytes 8 (seq + 1))]
  let s2 := addN (setN s1 0x2243 0x02 (seq + 1)) 0x2243 0x04 1
  if lost then
    let s3 := raiseHeld s2 0x8030
    { s3 with kiln := { s3.kiln with recordsLost := true } }
  else s2

/-- The billing copy of R205, in one journalled operation: every total, every pulse total, the instant, the count and the last
record. -/
def billingCopy (s : State) (b seq : Nat) : State :=
  let es := [(0x2242, 0x01, leBytes 8 b), (0x2242, 0x02, leBytes 4 (getN s 0x2242 0x02 + 1)), (0x2242, 0x03, leBytes 8 seq),
      (0x2240, 0x0A, leBytes 8 b)]
    ++ ((List.range 128).map fun i => (0x2242, 0x10 + i, getBytes s (0x2200 + i / 8) (0x30 + i % 8)))
    ++ ((List.range 32).map fun q => (0x2220 + q, 0x0B, getBytes s (0x2220 + q) 0x05))
  let s1 := journalOp s (es.map fun e => entryImage e.1 e.2.1 e.2.2)
  es.foldl (fun a e => setBytes a e.1 e.2.1 e.2.2) s1

/-- The pulse flags at the start of an interval: counters disabled or with a source fault (log 89). -/
def pulseFlagsNow (s : State) : Nat :=
  (List.range 32).foldl (fun a q => a + bitVal (!getB s (0x2220 + q) 0x01 || raised s (0x5100 + q)) q) 0
/-- The meters enabled now (log 89). -/
def metersNow (s : State) : Nat := (List.range 16).foldl (fun a m => a + bitVal (getB s (0x2200 + m) 0x01) m) 0

/-- What is collected in an interval begins anew at device time t, with the given first flags. -/
def startInterval (s : State) (t len tariff flags : Nat) : State :=
  let s1 := (List.range 16).foldl (fun a m => updMeter a m fun x => { x with errTime := 0, slotFlags := 0 }) s
  let s2 := (List.range 32).foldl (fun a q => setN a (0x2220 + q) 0x07 0)
    ((List.range 16).foldl (fun a m => setN a (0x2200 + m) 0x0A tariff) s1)
  let s3 := setN (setN (setN s2 0x2243 0x01 t) 0x2240 0x05 tariff) 0x2243 0x03
    (flags + bitVal (!timeTrusted s) 2 + bitVal s.cal.open_ 5)
  keepSoFar { s3 with interval := ⟨true, len, pulseFlagsNow s3, metersNow s3⟩ }

/-- The metering periods and counter seconds that end with the interval at boundary b have ended: every interval boundary is a
period boundary, and the totals at the interval's end hold them (R193, R204, log 57). -/
def periodsEnded (s : State) (b : Nat) : Bool :=
  ((List.range 16).all fun m => !getB s (0x2200 + m) 0x01
    || match (meterAt s m).start with | some t => decide (b ≤ t) | none => true)
  && (List.range 32).all fun q => !getB s (0x2220 + q) 0x01 || decide (b ≤ 1000 * (vAt s.counters q counterRest).readSecond)

/-- The programs and the local offset have been evaluated for the present minute: a boundary samples the tariff of the interval that
begins there (R202, R392, R395). -/
def minuteSettled (s : State) : Bool :=
  s.clock.lastMinute == localTime s / 60000 && s.clock.localDue == false

/-- The meters whose increments do not fit their fields raise 0x5050 + m (R204). -/
def showSaturated (s : State) (b : Bytes) (mask : Nat) : State :=
  (List.range 16).foldl (fun a m => follow a (0x5050 + m) (mask.testBit m && saturates s b m)) s

/-- INTERVAL_END (R203 to R208, R286, R384): the interval ends at its boundary b; its record is appended, at a billing date the
totals are copied and a billing seal is queued, on a new local date a daily seal; the next interval starts at b
(log 57, log 59). -/
def execIntervalEnd (s : State) : Out :=
  let len := s.interval.length
  match boundary s (getN s 0x2243 0x01) (60000 * max 1 len) with
  | none => .next s
  | some b =>
    doneIf (meterRuns s && periodsEnded s b && minuteSettled s) s (
      let day := localDate s b
      let bill := match lastBilling s day with | some d => decide (lastDate s < d) | none => false
      let daily := decide (lastDate s < day)
      let seq := recordCount s
      let flags := getN s 0x2243 0x03 + bitVal (bill && !getBit s 0x2243 0x03 9) 9
      let mask := s.interval.meterMask
      let start := startRecord s
      let s0 := showSaturated s start mask
      let r := makeRecord s0 (getN s 0x2243 0x01) b len (getN s 0x2240 0x05) flags s.interval.pulseFlags mask (getN s 0x2180 0x08)
        (auditSeq s) (timeQuality s)
      let newLen := getN s 0x2240 0x01
      let s1 := showTariff s0
      let tariff := getN s1 0x2240 0x06
      let s2 := if bill then queueBilling s1 b seq else s1
      let s3 := if daily then setQueue s2 (queueDaily s2.kiln.queue b seq) else s2
      let s4 := appendRecord s3 r (startBytes s3 true b newLen tariff) (leBytes 8 (max day (lastDate s)))
      let s5 := if bill then billingCopy s4 b seq else s4
      showBilling (startInterval s5 b newLen tariff (bitVal (newLen != len) 8)))

/-! ## Fluid tables (R216) -/

/-- Consecutive values rise strictly. -/
def rises : List F32 → Bool
  | a :: b :: r => flt a b && rises (b :: r)
  | _ => true

/-- Set Valid of fluid table t after a write (R216). -/
def judgeFluid (s : State) (t : Nat) : State :=
  let i := 0x224C + t
  let n := min 32 (getN s i 0x01)
  let col (c : Nat) : List F32 := (List.range n).map fun j => getF s i (c + j)
  setB s i 0x03 (decide (2 ≤ n) && rises (col 0x10) && ((col 0x30).all fun x => flt (f32 0) x) && rises (col 0x50))

/-- An enabled meter uses fluid table t. -/
def fluidUsed (s : State) (t : Nat) : Bool :=
  (List.range 16).any fun m => getB s (0x2200 + m) 0x01 && getN s (0x2210 + m) 0x06 == t + 1

end Sys2Proof.Machine
end

