-- ==== Sys2Proof/Machine/Lane.lean ====
section
/-! DEFINITION. Flight-time lanes: shots, measurements, flow and capacitance results, zero-flow capture (R146 to R169). -/

namespace Sys2Proof.Machine

/-- Lane k. -/
def laneAt (s : State) (k : Nat) : LaneSt := vAt s.lanes k laneRest
/-- Change lane k. -/
def updLane (s : State) (k : Nat) (f : LaneSt → LaneSt) : State := { s with lanes := vUpd s.lanes k f }

/-- Run of lane k. -/
def laneRun (s : State) (k : Nat) : Bool := getB s (0x2120 + k) 0x02
/-- Mode of lane k (R150). -/
def laneMode (s : State) (k : Nat) : Nat := getN s (0x2120 + k) 0x01
/-- Shots N of lane k. -/
def laneShots (s : State) (k : Nat) : Nat := getN s (0x2128 + k) 0x04
/-- The masked bank channels of lane k, ascending. -/
def laneMask (s : State) (k : Nat) : List Nat := (List.range 8).filter fun c => (getN s (0x2128 + k) 0x03).testBit c
/-- Duration D in µs of a measurement with a mode, shots, interval and mask (R152). -/
def laneDuration (mode n i mask : Nat) : Nat :=
  if mode = 1 then 2 * n * i else if mode = 2 then ((List.range 8).filter fun c => mask.testBit c).length * n * i else 0

/-- The refusals of R151 for a write of 1 to Run of lane k. -/
def laneRefused (s : State) (k : Nat) : Bool :=
  let up := getN s (0x2128 + k) 0x01
  let dn := getN s (0x2128 + k) 0x02
  match laneMode s k with
  | 1 => portMode s (8 * k + up) != 10 || portMode s (8 * k + dn) != 10 || up == dn
  | 2 => (laneMask s k).isEmpty || (laneMask s k).any fun c => portMode s (8 * k + c) != 9
  | _ => true

/-- The lane coefficients staged for lane k take effect (R160). -/
def takeLane (s : State) (k : Nat) : State :=
  { s with cal := { s.cal with inEffect := s.cal.inEffect.filter fun e => e.1 / 256 != 0x2128 + k } }

/-- Abandon a zero-flow capture without a result (R161). -/
def abandonZero (s : State) (k : Nat) : State :=
  if (laneAt s k).capture.isSome then raiseHeld (updLane s k fun l => { l with capture := none }) (0x3060 + k) else s

/-- Run of lane k is set (R151, R152). -/
def laneStart (s : State) (k : Nat) : State :=
  updLane s k fun l => { l with runTick := s.clock.tick, lastStart := none, meas := none }
/-- Run of lane k is cleared (R153): the measurement is abandoned, staged values take effect, a capture is abandoned; nothing measured
keeps a condition raised (R169; log 99). -/
def laneStop (s : State) (k : Nat) : State :=
  let s1 := abandonZero (takeLane (updLane s k fun l => { l with meas := none }) k) k
  [0x3010, 0x3020, 0x3030, 0x3040].foldl (fun a c => causeGone a (c + k)) s1

/-! ## Measurement and shots -/

/-- A measurement at its start. -/
def measRest (start : Nat) : Meas := ⟨start, 0, [], [], [], [], false, none, []⟩

/-- LANE_MEASUREMENT_START (R152, R160 to R162): at a tick that is a whole number of measurement periods after Run. A result
the engine has not taken makes the lane skip the measurement. DESIGN CHOICE: the 10 x K measurement periods of a zero-flow capture are
counted at these starts, and the capture is abandoned at the one after the last of them (log 105). -/
def execLaneMeasurementStart (k : Nat) (s : State) : Out :=
  let l := laneAt s k
  let ok := islandsRun s && decide (k < 8) && laneRun s k && l.meas.isNone && l.lastStart != some s.clock.tick
    && decide (l.runTick ≤ s.clock.tick) && (s.clock.tick - l.runTick) % max 1 (getN s (0x2120 + k) 0x03) == 0
  doneIf ok s (
    let s1 := updLane s k fun l => { l with lastStart := some s.clock.tick, capture := l.capture.map fun c => { c with periods := c.periods + 1 } }
    let s2 := match (laneAt s1 k).capture with
      | some c => if 10 * c.wanted < c.periods then abandonZero s1 k else s1
      | none => s1
    if l.handed.isSome then raise (addN (updLane s2 k fun l => { l with skipped := true }) (0x2120 + k) 0x0C 1) (0x3050 + k)
    else updLane (takeLane s2 k) k fun l => { l with meas := some (measRest (refMs * s.clock.tick)) })

/-- The calibration pair is in range (R147). -/
def pairGood (i : ShotIn) : Bool := decide (i.n1 + 2000 ≤ i.n2) && decide (i.n2 ≤ i.n1 + 5500)

/-- A measured time in picoseconds, rounded (R147, R148): coarse edges times T less taps times T over n2 - n1, T of 24 MHz. -/
def hitTime (i : ShotIn) (h : Nat × Nat) : Nat :=
  let d := i.n2 - i.n1
  (roundAway ((((h.1 * d : Nat) : Int) - (h.2 : Int)) * 125000) (3 * d)).toNat

/-- A time the lane can measure: 4.0 ms is the longest (R149). -/
def timed (x : Nat) : Bool := decide (x ≤ 4000000000)

/-- The time of a burst shot (R154): the mean of the h hit times less (h - 1) / 2 cycles of the burst. -/
def shotTime (i : ShotIn) (h div : Nat) : Nat :=
  let sum : Nat := ((i.hits.take h).map (hitTime i)).foldl (· + ·) 0
  (roundAway (6 * (sum : Int) - ((h * (h - 1) * div * 125000 : Nat) : Int)) (6 * h)).toNat

/-- The reference counter at the stop event of a shot started at t. -/
def stopCount (t : Nat) (h : Nat × Nat) : Nat := t + h.1 - (if h.2 = 0 then 0 else 1)

/-- The time of the first half-cycle that exceeds the amplitude threshold between the window start and the window end (R154). -/
def firstEcho (s : State) (k : Nat) (i : ShotIn) : Option Nat :=
  let level := dmul (toF64 (getF s (0x2128 + k) 0x0B)) (f64 1000)
  (i.halves.find? fun x => decide (getN s (0x2128 + k) 0x09 ≤ x.1) && decide (x.1 < getN s (0x2128 + k) 0x0A)
    && dlt level (f64 x.2)).map (·.1)

/-- The stop events of a burst shot (R154, R155): the zero crossings after the first echo and before the window end. -/
def stopHits (s : State) (k : Nat) (i : ShotIn) : List (Nat × Nat) :=
  match firstEcho s k i with
  | none => []
  | some t => i.hits.filter fun x => decide (t ≤ hitTime i x) && decide (hitTime i x < getN s (0x2128 + k) 0x0A) && timed (hitTime i x)

/-- The burst of the shot that starts at t (R154): an upstream shot is sent by the upstream port, a downstream one by the other. -/
def burstOf (s : State) (k shots t : Nat) : Burst :=
  { channel := getN s (0x2128 + k) (if shots % 2 = 0 then 0x01 else 0x02), start := t, cycles := getN s (0x2128 + k) 0x07,
    divisor := getN s (0x2128 + k) 0x06, mv := match getN s (0x2128 + k) 0x08 with | 0 => 3300 | 1 => 5000 | _ => 12000 }

/-- A burst shot of a measurement (R154, R155). DESIGN CHOICE: of the h stop events of a shot the last gives the timestamp (log 105). -/
def burstShot (s : State) (k : Nat) (m : Meas) (i : ShotIn) (t : Nat) : Meas :=
  let h := max 1 (getN s (0x2128 + k) 0x0C)
  let hits := stopHits s k i
  let ok := pairGood i && decide (h ≤ hits.length)
  let m1 := { m with shots := m.shots + 1, calFault := m.calFault || !pairGood i,
                     stop := (hits.take h).getLast?.map (stopCount t) }
  if !ok then m1
  else
    let x := shotTime { i with hits := hits } h (getN s (0x2128 + k) 0x06)
    if m.shots % 2 = 0 then { m1 with up := m1.up ++ [x], peakUp := m1.peakUp ++ [i.peak] }
    else { m1 with down := m1.down ++ [x], peakDown := m1.peakDown ++ [i.peak] }

/-- The bank channel of a capacitance shot: N shots for each masked port, ascending (R165). -/
def shotChannel (s : State) (k shots : Nat) : Nat := (laneMask s k).getD (shots / max 1 (laneShots s k)) 0

/-- What the capacitance shot whose start event is at t does with its element (R165). -/
def chargeOf (s : State) (k shots t : Nat) : Charge :=
  { channel := shotChannel s k shots, shorted := t - shotInterval s k / 2, start := t,
    ohms := if getN s (0x2128 + k) 0x18 = 0 then 100000 else 1000000, mv := 3300 }

/-- A capacitance shot of a measurement whose start event is at t (R165, R166). -/
def chargeShot (s : State) (k : Nat) (m : Meas) (i : ShotIn) (t : Nat) : Meas × State :=
  let c := shotChannel s k m.shots
  let s1 := judgeFault s (8 * k + c) 2 i.level
  let m1 := { m with shots := m.shots + 1, calFault := m.calFault || !pairGood i, stop := i.hits.head?.map (stopCount t) }
  match i.hits.head? with
  | some h =>
    let x := hitTime i h
    let r := hitTime i i.refHit
    if pairGood i && !i.level && decide (2 * x ≤ 1000000 * getN s (0x2128 + k) 0x05) && timed x && timed r then
      ({ m1 with caps := m1.caps ++ [(c, x, r)] }, s1)
    else (m1, s1)
  | none => (m1, s1)

/-- The start event of the next shot of a measurement (R152, R154, R165): shots are spaced by the shot interval; a charge starts
after the half interval in which the element is discharged. -/
def shotStart (s : State) (k : Nat) (m : Meas) : Nat :=
  m.start + m.shots * shotInterval s k + (if laneMode s k = 1 then 0 else shotInterval s k / 2)

/-- LANE_SHOT (R147, R148, R154, R165): the next shot of the measurement, as the timed island senses it. -/
def execLaneShot (k : Nat) (i : ShotIn) (s : State) : Out :=
  match (laneAt s k).meas with
  | none => .next s
  | some m =>
    let t := shotStart s k m
    let ok := islandsRun s && decide (k < 8) && decide (m.shots < shotTotal s k) && dueRef s t
    doneIf ok s (
      let s0 := advance s t
      if laneMode s k = 1 then
        updLane s0 k fun l => { l with meas := some (burstShot s k m i t), burst := some (burstOf s k m.shots t) }
      else
        let (m1, s1) := chargeShot s0 k m i t
        updLane s1 k fun l => { l with meas := some m1, charge := some (chargeOf s k m.shots t) })

/-- LANE_MEASUREMENT_END (R162): the last shot is done and the result is handed to the metrology engine. -/
def execLaneMeasurementEnd (k : Nat) (s : State) : Out :=
  match (laneAt s k).meas with
  | none => .next s
  | some m =>
    let ok := islandsRun s && decide (k < 8) && decide (shotTotal s k ≤ m.shots)
    doneIf ok s (addN (updLane s k fun l => { l with meas := none, handed := some m }) (0x2120 + k) 0x0D 1)

/-! ## Results (R156 to R167) -/

/-- Pi in binary64. -/
def pi64 : F64 := f64Of 0x400921FB54442D18
/-- Mean of picosecond times in binary64. -/
def meanTime (l : List Nat) : F64 := ddiv (f64 (l.foldl (· + ·) 0 : Nat)) (f64 l.length)
/-- Picoseconds in seconds. -/
def seconds (x : F64) : F64 := ddiv x (f64 1000000000000)

/-- The sample standard deviation of times is at most the limit in ps (R155, log 18). -/
def spreadWithin (l : List Nat) (limit : Nat) : Bool :=
  let n := l.length
  let sum : Nat := l.foldl (· + ·) 0
  let sq := l.foldl (fun a x => a + x * x) 0
  decide (n * sq - sum * sum ≤ limit * limit * n * (n - 1))

/-- A coefficient of lane k in effect as binary32 (R160). -/
def laneF (s : State) (k sub : Nat) : F64 :=
  toF64 (match mapGet s.cal.inEffect (keyOf (0x2128 + k) sub) with
    | some b => BitVec.ofNat 32 (leNat b)
    | none => getF s (0x2128 + k) sub)

/-- Mean peak in mV; NaN with no valid shot. -/
def meanPeak (l : List Nat) : F32 := if l.isEmpty then nan32 else f32 (l.foldl (· + ·) 0 : Nat) (1000 * l.length)

/-- What a flow measurement comes to. -/
structure FlowCalc where
  tup : F64
  tdn : F64
  dt : F64
  v : F64
  q : F64
  c : F64
  echo : Bool
  spread : Bool
  sound : Bool

/-- The flow equations R156, R157 and the checks of R155. -/
def flowCalc (s : State) (k : Nat) (m : Meas) : FlowCalc :=
  let n := laneShots s k
  let t0 := f64 (coefficient s (0x2128 + k) 0x14)
  let z := f64 (coefficient s (0x2128 + k) 0x15)
  let tup := if m.up.isEmpty then f64 0 else dsub (dsub (meanTime m.up) t0) z
  let tdn := if m.down.isEmpty then f64 0 else dsub (meanTime m.down) t0
  let both := !m.up.isEmpty && !m.down.isEmpty
  let dt := if both then dsub tup tdn else f64 0
  let su := seconds tup
  let sd := seconds tdn
  let len := laneF s k 0x10
  let cosine := cosOf (ddiv (dmul (laneF s k 0x11) pi64) (f64 180))
  let v := ddiv (dmul len (seconds dt)) (dmul (dmul (dmul (f64 2) cosine) su) sd)
  let dia := laneF s k 0x12
  let area := ddiv (dmul pi64 (dmul dia dia)) (f64 4)
  let c := dmul (ddiv len (f64 2)) (dadd (ddiv (f64 1) su) (ddiv (f64 1) sd))
  { tup := tup, tdn := tdn, dt := dt, v := v,
    q := dmul (dmul (dmul (laneF s k 0x13) area) v) (f64 3600), c := c,
    echo := decide (n ≤ 2 * m.up.length) && decide (n ≤ 2 * m.down.length),
    spread := spreadWithin m.up (getN s (0x2128 + k) 0x0D) && spreadWithin m.down (getN s (0x2128 + k) 0x0D),
    sound := !both || (dle (toF64 (getF s (0x2128 + k) 0x0E)) c && dle c (toF64 (getF s (0x2128 + k) 0x0F))) }

/-- The timestamp of a result: the counter at the last shot's stop event; free where that shot had none (R163, log 2). -/
def laneStamp (s : State) (m : Meas) : Nat × State :=
  match m.stop with
  | some t => (t % 2 ^ 32, s)
  | none => let (x, s1) := freshFree s; (x.toNat % 2 ^ 32, s1)

/-- Store a computed lane coefficient: audited, staged for the next measurement (R161; log 67). -/
def zeroResult (s : State) (k : Nat) (diffs : List Int) : State :=
  let mean := roundAway (diffs.foldl (· + ·) 0) diffs.length
  stageComputed (updLane s k fun l => { l with capture := none }) (0x2128 + k) 0x15 (!laneRun s k)
    (coefficient s (0x2128 + k) 0x15 + mean)

/-- A valid measurement reaches the zero-flow capture (R161). DESIGN CHOICE: one that was in progress, or handed and not yet taken,
when K was written counts as one of the next K; in a power-fail warning, in which no coefficient can be stored (R34), the capture is
abandoned at its end (log 105). -/
def feedZero (s : State) (k : Nat) (dt : F64) : State :=
  match (laneAt s k).capture with
  | none => s
  | some c =>
    let ds := c.diffs ++ [droundAway dt]
    if c.wanted ≤ ds.length then (if hamperFree s then zeroResult s k ds else abandonZero s k)
    else updLane s k fun l => { l with capture := some { c with diffs := ds } }

/-- The result of a mode-1 measurement (R156 to R159, R163). -/
def flowResult (s : State) (k : Nat) (m : Meas) : State :=
  let i := 0x2120 + k
  let f := flowCalc s k m
  let valid := f.echo && f.spread && f.sound
  let cut := valid && dlt (dabs f.v) (laneF s k 0x16)
  let v := if !valid then nan32 else if cut then f32 0 else toF32 f.v
  let q := if !valid then nan32 else if cut then f32 0 else toF32 f.q
  let (stamp, s0) := laneStamp s m
  let s1 := setF (setF (setF s0 i 0x04 q) i 0x05 v) i 0x06 (if valid then toF32 f.c else nan32)
  let s2 := setI (setI (setI s1 i 0x07 (droundAway f.tup)) i 0x08 (droundAway f.tdn)) i 0x09 (droundAway f.dt)
  let s3 := setN s2 i 0x0A (bitVal valid 0 + bitVal cut 1 + bitVal (flt q (f32 0)) 2 + bitVal (!f.echo) 3 + bitVal (!f.spread) 4
    + bitVal (!f.sound) 5 + bitVal m.calFault 6 + bitVal (laneAt s k).capture.isSome 7 + bitVal (laneAt s k).skipped 8)
  let s4 := setF (setF (setN s3 i 0x0B stamp) i 0x0E (meanPeak m.peakUp)) i 0x0F (meanPeak m.peakDown)
  let s5 := judge (judge (judge s4 (0x3010 + k) (!f.echo)) (0x3020 + k) (f.echo && !f.spread)) (0x3030 + k)
    (f.echo && f.spread && !f.sound)
  feedLane (if valid then feedZero s5 k f.dt else s5) k q (laneInstant s k m)

/-- Capacitance of one valid shot in pF (R165). -/
def shotCap (s : State) (k : Nat) (x : Nat × Nat × Nat) : F64 :=
  dsub (ddiv (dmul (f64 100) (f64 x.2.1)) (f64 x.2.2)) (toF64 (getF s (0x2128 + k) 0x19))

/-- The result of one masked port in mode 9, measured since the mode was enabled (R85, R165 to R167): its process value, faults and
humidity, and whether humidity was clamped. -/
def capPort (s : State) (k : Nat) (m : Meas) (c : Nat) : State × Bool :=
  let n := 8 * k + c
  let xs := (m.caps.filter fun x => x.1 == c).map (shotCap s k)
  let enough := decide (laneShots s k ≤ 2 * xs.length)
  let cx := if enough then ddiv (xs.foldl dadd (f64 0)) (f64 xs.length) else nan64
  let s1 := if enough then judgeFault (judgeFault s n 1 (dlt cx (f64 2))) n 4 (dlt (f64 1100) cx) else s
  let s2 := updPort (setPv s1 n (toF32 cx)) n fun p => { p with valueStart := m.start }
  let rh := ddiv (dsub (toF64 (getF s2 (0x2000 + n) 0x02)) (toF64 (getF s (0x2128 + k) (0x20 + c)))) (toF64 (getF s (0x2128 + k) (0x28 + c)))
  let lim := if dlt rh (f64 0) then f64 0 else if dlt (f64 100) rh then f64 100 else rh
  (setF s2 (0x2120 + k) (0x10 + c) (toF32 lim), dlt rh (f64 0) || dlt (f64 100) rh)

/-- The result of a mode-2 measurement (R165 to R167). DESIGN CHOICE: the entries that only mode 1 gives (04 to 09, 0E, 0F) keep their
last values (log 105). -/
def capResult (s : State) (k : Nat) (m : Meas) : State :=
  let i := 0x2120 + k
  let (stamp, s0) := laneStamp s m
  let (s1, clamped) := (List.range 8).foldl (fun (a : State × Bool) c =>
    if (laneMask s k).contains c && portMode s (8 * k + c) == 9 && decide ((portAt s (8 * k + c)).since ≤ m.start) then
      let (b, x) := capPort a.1 k m c
      (b, a.2 || x)
    else (setF a.1 i (0x10 + c) nan32, a.2)) (s0, false)
  let valid := (laneMask s k).all fun c => !fIsNaN (getF s1 (0x2000 + 8 * k + c) 0x02)
  setN (setN s1 i 0x0A (bitVal valid 0 + bitVal m.calFault 6 + bitVal (laneAt s k).capture.isSome 7 + bitVal (laneAt s k).skipped 8
    + bitVal clamped 9)) i 0x0B stamp

/-- LANE_RESULT_TAKEN (R155 to R167): the metrology engine takes the handed result, computes and publishes it. DESIGN CHOICE: with the
mode, shots and mask present when it takes it (log 105). -/
def execLaneResultTaken (k : Nat) (s : State) : Out :=
  match (laneAt s k).handed with
  | none => .next s
  | some m =>
    doneIf (isUp s && decide (k < 8)) s (
      let s1 := updLane s k fun l => { l with handed := none }
      let s2 := judge s1 (0x3040 + k) m.calFault
      let s3 := if laneMode s k = 2 then capResult s2 k m else flowResult s2 k m
      updLane s3 k fun l => { l with skipped := false, valueStart := m.start })

/-- A write of the capacitance mask: a port that it leaves out has no humidity (R168). -/
def maskWritten (s : State) (k : Nat) : State :=
  (List.range 8).foldl (fun a c => if (laneMask s k).contains c then a else setF a (0x2120 + k) (0x10 + c) nan32) s

/-- A write of K to the zero-flow capture (R161): the capture starts and 0x3060 + k clears. -/
def zeroStart (s : State) (k n : Nat) : State :=
  dropCond (updLane s k fun l => { l with capture := some ⟨n, [], 0⟩ }) (0x3060 + k)

end Sys2Proof.Machine
end

