-- ==== Sys2Proof/Machine/Loop.lean ====
section
/-! DEFINITION. The loop engine (R217 to R247), competition groups and hand-over (R249 to R255), the repetitive controller
(R256 to R260), trace sets (R268 to R270). -/

namespace Sys2Proof.Machine

/-! ## Admission (R224, R225) -/

/-- The configuration is admitted (R224). -/
def admitted (s : State) : Bool := (activeLoops s).all fun l => decide (coincidence s l ≤ 120)

/-! ## Mode writes (R235, R249) -/

/-- Modes a process value of a measurement may come from (R235). -/
def measurable (m : Nat) : Bool := !(m == 0 || (decide (11 ≤ m) && decide (m ≤ 14)) || m == 16)

/-- The timing of a member differs from that of another member not in mode Off (R249). -/
def timingDiffers (s : State) (g l : Nat) : Bool :=
  (groupMembers s g).any fun j => j != l && loopMode s j != 0
    && [0x01, 0x02, 0x03, 0x04].any fun sub => getN s (0x2400 + j) sub != getN s (0x2400 + l) sub

/-- The 0x0401 refusals of a mode write 1 to 4 to a loop in mode Off (R235, R249). -/
def loopRefused (s : State) (l : Nat) : Bool :=
  let i := 0x2300 + l
  let src := getN s i 0x0C
  let sm := portMode s (getN s i 0x0D)
  (getN s i 0x0A == 0 && (decide (63 < getN s i 0x0B) || !measurable (portMode s (getN s i 0x0B))))
    || (getN s i 0x0A == 1 && (decide (7 < getN s i 0x0B) || laneMode s (getN s i 0x0B) != 1))
    || (src == 1 && (decide (63 < getN s i 0x0D) || !(decide (1 ≤ sm) && decide (sm ≤ 4))))
    || (src == 2 && (decide (63 < getN s i 0x0D) || !(sm == 6 || sm == 7)))
    || (match groupOf s l with
      | some g => !getB s (0x2700 + g) 0x01 || timingDiffers s g l
      | none => decide (63 < getN s i 0x0E) || !isOutput (portMode s (getN s i 0x0E)))

/-- Bits of the status word that the mode in force and the table mode give (R245). -/
def statusWord (s : State) (l : Nat) : Nat :=
  let x := loopAt s l
  (x.status &&& 0x19FE) + bitVal (x.active == 1 || x.active == 2) 0 + bitVal (x.active == 3) 9 + bitVal (x.active == 4) 10
    + bitVal x.ramp 13 + bitVal (x.table != 0) 14

/-- Set or clear one live status bit of loop l. -/
def loopBit (s : State) (l i : Nat) (b : Bool) : State :=
  updLoop s l fun x => { x with status := putBit x.status i b }

/-- A mode write ends the following-error alarm of actions 1 and 2 (R237). -/
def ackAlarm (s : State) (l : Nat) : State :=
  if (loopAt s l).acted then
    let s1 := updLoop s l fun x => { x with acted := false, vars := { x.vars with tfe := 0 } }
    dropCond (loopBit s1 l 7 false) (0x6200 + l)
  else s

/-- The controller state while the loop is not in Auto (R273). -/
def repIdle (s : State) (l : Nat) : State :=
  if getB s (0x2500 + l) 0x01 then setN s (0x2500 + l) 0x0A 5 else s

/-- No member of group g offers a candidate (R252): no winner, and the output port goes to its safe value at the next tick. -/
def groupIdle (s : State) (g : Nat) : State :=
  let i := 0x2700 + g
  let n := getN s i 0x02
  raiseHeld (updPort (setN (setF (setN s i 0x0A 0xFF) i 0x0B (safeValue s n)) i 0x0D 0) n fun p => { p with safeNext := true })
    (0x6500 + g)

/-- Mode 0 takes effect at once (R234, R235): a job is abandoned, the output port goes to its safe value at the next tick, the
ramp ends. A group whose last member this was offers nothing any more (R252, log 62). A fault and an alarm stay shown until a
completed job ends them (R232, R237). -/
def loopOff (s : State) (l : Nat) : State :=
  let s0 := ackAlarm s l
  let n := getN s (0x2300 + l) 0x0E
  let s1 := updLoop s0 l fun x => { loopRest with
    vars := x.vars, safe := x.safe, table := x.table, node10 := x.node10, status := x.status &&& 0x86 }
  let s2 := repIdle (setN s1 (0x2300 + l) 0x07 (statusWord s1 l)) l
  match groupOf s l with
  | some g => if getB s (0x2700 + g) 0x01 = true ∧ (groupMembers s g).all (fun j => j == l || (loopAt s j).active == 0) = true
      then groupIdle s2 g else s2
  | none => if n < 64 then updPort s2 n fun p => { p with safeNext := true } else s2

/-- The output-value range of a port mode (R84). -/
def outHigh (m : Nat) : F32 := if m = 11 then f32 10 else f32 100
/-- Clamp to the range of the port (R231; log 61). -/
def clampPort (s : State) (n : Nat) (v : F32) : F32 := fclamp v (f32 0) (outHigh (portMode s n))

/-- The manual output within the limits and the port's range (R231). -/
def manualValue (s : State) (l : Nat) (man : F32) : F32 := clampPort s (loopPort s l) (fclamp man (lf s l 0x0C) (lf s l 0x0D))

/-- The accepted mode write m, 1 to 4 (R235, R255): from Off the loop waits for its next sample instant; Hold and Safe take
effect now, Manual and Auto at the next release instant. Before its first release a group member offers its present manual or safe
output (R251). A write of Manual, Hold or Safe ends the ramp, also that of a job in progress. -/
def loopEnter (s : State) (l m : Nat) (fromOff : Bool) : State :=
  let s0 := ackAlarm s l
  let s1 := if m = 2 then s0
    else updLoop s0 l fun x => { x with ramp := false, job := x.job.map fun j => { j with ramp := false } }
  if fromOff then
    updLoop s1 l fun x => { loopRest with
      active := m, vars := x.vars, applied := x.applied, safe := lf s l 0x1D, table := x.table, man := manualValue s l (getF s (0x2300 + l) 0x08),
      node10 := x.node10, status := x.status &&& 0x86 }
  else if m = 3 ∨ m = 4 then
    repIdle (updLoop s1 l fun x => { x with active := m, resume := max x.resume (if x.resume = 1 then 1 else 2) }) l
  else s1

/-! ## Sample instants (R217, R220, R222, R228) -/

/-- An enabled subscription map that names an entry is timed out (R222). -/
def subTimedOut (s : State) (index sub : Nat) : Bool :=
  (List.range 64).any fun m => getB s (0x1240 + m) 0x01 && getN s (0x1240 + m) 0x08 == 3
    && (mapItems s (0x1240 + m) 0x07).any fun it => it.1 == index && it.2.1 == sub

/-- The latched setpoint source value of loop l (R228 step 1). -/
def sourceValue (s : State) (l : Nat) : F32 :=
  let i := 0x2300 + l
  let n := getN s i 0x0D
  match getN s i 0x0C with
  | 0 => if subTimedOut s i 0x02 then nan32 else getF s i 0x02
  | 1 => getF s (0x2000 + n) 0x02
  | 2 => if getN s (0x2400 + l) 0x1A = 1 then getF s (0x2000 + n) 0x0C else getF s (0x2000 + n) 0x02
  | 3 => getF s (0x2800 + n) (if getN s i 0x0F = 0 then 0x08 else 0x09)
  | _ => programNow s n

/-- LOOP_SAMPLE_INSTANT (R217, R220, R222, R228): at a tick of the loop's period and phase the setpoint source, the manual
output and the input register are latched. -/
def execLoopSampleInstant (l : Nat) (s : State) : Out :=
  let ok := islandsRun s && decide (l < 96) && loopMode s l != 0 && (loopAt s l).lastSample != some s.clock.tick
    && ((s.clock.tick : Int) - getN s (0x2400 + l) 0x02) % (loopTs s l : Nat) == 0
  doneIf ok s (updLoop s l fun x => { x with
    lastSample := some s.clock.tick,
    latch := some ⟨s.clock.tick, sourceValue s l, getF s (0x2300 + l) 0x08,
      if subTimedOut s (0x2300 + l) 0x09 then nan32 else getF s (0x2300 + l) 0x09, localTime s⟩ })

/-! ## Measurements and freshness (R220, R221) -/

/-- The measurement of loop l at its release (R220). -/
def loopInput (s : State) (l : Nat) (reg : F32) : F32 :=
  let n := getN s (0x2300 + l) 0x0B
  match getN s (0x2300 + l) 0x0A with
  | 0 => getF s (0x2000 + n) 0x02
  | 1 => getF s (0x2120 + n) 0x04
  | _ => reg

/-- A fresh value exists for the sample at tick ts (R221). -/
def isFresh (s : State) (l ts : Nat) : Bool :=
  let n := getN s (0x2300 + l) 0x0B
  match getN s (0x2300 + l) 0x0A with
  | 0 => decide (refMs * ts ≤ (portAt s n).valueStart)
  | 1 => decide (refMs * ts ≤ (laneAt s n).valueStart)
  | _ => true

/-! ## Outputs of the law -/

/-- Output limits and integrator limits (R231). -/
def iLow (s : State) (l : Nat) : F32 := if getN s (0x2400 + l) 0x0E = 0 then lf s l 0x0C else lf s l 0x0F
def iHigh (s : State) (l : Nat) : F32 := if getN s (0x2400 + l) 0x0E = 0 then lf s l 0x0D else lf s l 0x10

/-- The output applied at the last output instant (R236, R253, R254); for a group member that of its group (R253); for a single loop
before one since Off, what the port holds. -/
def lastApplied (s : State) (l : Nat) : F32 :=
  match groupOf s l, (loopAt s l).applied with
  | some g, _ => getF s (0x2700 + g) 0x0B
  | none, some v => v
  | none, none => (portAt s (loopPort s l)).out

/-! ## The gain table (R230) -/

/-- The points of loop l's table. -/
def tablePoints (s : State) (l : Nat) : List (F32 × F32) :=
  (List.range (min 16 (getN s (0x2600 + l) 0x01))).map fun i => (getF s (0x2600 + l) (0x10 + i), getF s (0x2600 + l) (0x20 + i))

/-- Between the points. -/
def tableBetween : List (F32 × F32) → F32 → F32
  | (x0, y0) :: (x1, y1) :: r, x =>
    if flt x x1 then fadd y0 (fmul (fsub y1 y0) (fdiv (fsub x x0) (fsub x1 x0))) else tableBetween ((x1, y1) :: r) x
  | [(_, y0)], _ => y0
  | [], _ => nan32

/-- f(s) of R230. -/
def tableValue (ps : List (F32 × F32)) (x : F32) : F32 :=
  match ps with
  | (x0, y0) :: _ => if fle x x0 then y0 else tableBetween ps x
  | [] => nan32

/-! ## The repetitive controller (R256 to R259) -/

/-- Period of the controller of loop l in ms. -/
def repPeriod (s : State) (l : Nat) : Nat := if getN s (0x2500 + l) 0x02 = 0 then 86400000 else 604800000
/-- Cells N of the controller under the present settings. -/
def repCells (s : State) (l : Nat) : Nat := repPeriod s l / loopTs s l
/-- The cell of a local instant (R257). -/
def repCell (s : State) (l lam : Nat) : Nat :=
  if getN s (0x2500 + l) 0x02 = 0 then lam % 86400000 / loopTs s l
  else (((lam : Int) - 172800000) % 604800000).toNat / loopTs s l
/-- The cell writes of loop l that are pending are given up: every cell of the loop is written anew (R256, R273). -/
def dropCells (s : State) (l : Nat) : State :=
  let isCell (t : Target) : Bool := match t with | .cell i _ _ _ => i == l | _ => false
  { s with stor := { s.stor with pend := s.stor.pend.filter fun p => !isCell p.target } }

/-- The high-water instant H. -/
def highWater (s : State) (l : Nat) : Nat := getN s (0x2500 + l) 0x0D

/-- Cells of the pool in use by other loops (R256). -/
def poolUsed (s : State) (l : Nat) : Nat :=
  ((List.range 96).map fun i => if i != l && getB s (0x2500 + i) 0x01 then getN s (0x2500 + i) 0x03 else 0).foldl (· + ·) 0

/-- The lead is not below the number of cells (R256). -/
def leadTooLong (s : State) (l : Nat) : Bool := decide (repCells s l ≤ getN s (0x2500 + l) 0x06)

/-- The abort of a write of 1 to Enable of the controller of loop l at steps 8 to 10 (R256; log 34). -/
def repRefused (s : State) (l : Nat) : Option Nat :=
  if repPeriod s l % loopTs s l ≠ 0 then some 0x0401
  else if 3145728 < poolUsed s l + repCells s l then some 0x0501
  else none

/-- A hand-over event of the controller while the loop is in Auto (R254). -/
def repEvent (s : State) (l : Nat) : State :=
  if (loopAt s l).active = 2 then updLoop s l fun x => { x with repChanged := true } else s

/-- Enable of the controller is set: cells taken and zeroed, H = 0 (R256). -/
def repEnabled (s : State) (l : Nat) : State :=
  let s1 := updRep (dropCells s l) l fun _ => ⟨[], true⟩
  let s2 := putN (setN (putN s1 (0x2500 + l) 0x0D 0) (0x2500 + l) 0x03 (repCells s l)) (0x2500 + l) 0x0E 0
  repEvent (setN s2 (0x2500 + l) 0x0A (if (loopAt s l).active = 2 then 1 else 5)) l
/-- Enable is cleared: the cells return to the pool and their contents are lost. -/
def repDisabled (s : State) (l : Nat) : State :=
  let s1 := updRep (dropCells s l) l fun _ => ⟨[], true⟩
  repEvent (dropCond (setN (setN s1 (0x2500 + l) 0x03 0) (0x2500 + l) 0x0A 0) (0x6600 + l)) l
/-- A write of 1 to Clear memory: every M and E to 0 and H to 0 (R273). -/
def repClear (s : State) (l : Nat) : State :=
  repEvent (putN (updRep (dropCells s l) l fun x => { x with cells := [] }) (0x2500 + l) 0x0D 0) l

/-- The term r of a job, whether it learns in Auto, and the controller's state (R258, R259); H was settled before (R260). -/
def repTerm (s : State) (l lam : Nat) (auto : Bool) : F32 × Bool × Nat :=
  if !getB s (0x2500 + l) 0x01 then (f32 0, false, 0)
  else if !timeTrusted s then ((loopAt s l).vars.r, false, 4)
  else
    let j := repCell s l lam
    let n := max 1 (getN s (0x2500 + l) 0x03)
    let m := (cellAt s l j).1
    let st := (loopAt s l).status
    let frozen := getB s (0x2500 + l) 0x08 || st.testBit 4 || st.testBit 5 || st.testBit 12
    let suspended := decide (lam ≤ highWater s l)
    let mode := if !auto then 5 else if frozen then 2 else if suspended then 3 else 1
    if frozen || suspended then (m, false, mode)
    else
      let e := (cellAt s l ((j + getN s (0x2500 + l) 0x06) % n)).2
      let lim := getF s (0x2500 + l) 0x07
      (fclamp (fadd (fmul (getF s (0x2500 + l) 0x04) m) (fmul (getF s (0x2500 + l) 0x05) e)) (fneg lim) lim, auto, mode)

/-- The cells that a job of loop l uses with trusted local time are read from the learning memory (R258, R404): M of the present one, E of the
one ahead by the lead. -/
def readCells (s : State) (l lam : Nat) : State :=
  let j := repCell s l lam
  let ahead := (j + getN s (0x2500 + l) 0x06) % max 1 (getN s (0x2500 + l) 0x03)
  (readRuns [(cellAddr l j / 128, 1), (cellAddr l ahead / 128, 1)] s).2

/-- What a release in mode 1 or 2 does to an enabled controller before the job is computed (R257, R258, R260): the first with
trusted local time after a reset settles H; the state and the cell are shown; 0x6600 + l follows the trust in local time. -/
def repRelease (s : State) (l lam : Nat) (auto : Bool) : State :=
  let i := 0x2500 + l
  if !getB s i 0x01 then s
  else
    let trusted := timeTrusted s
    let s1 := if (repAt s l).settled || !trusted then s
      else setN (updRep s l fun x => { x with settled := true }) i 0x0D (max (highWater s l) lam)
    let s2 := if trusted then readCells s1 l lam else s1
    follow (setN (setN s2 i 0x0A (repTerm s2 l lam auto).2.2) i 0x0B (repCell s2 l lam)) (0x6600 + l) (!trusted)

/-! ## The law (R227 to R236) -/

/-- Setpoint processing (R228, R229): ws, wf, w and whether the rate limit acts. -/
def setpoint (s : State) (l : Nat) (v dt : F32) (lost : Bool) : F32 × F32 × F32 × Bool :=
  let src := getN s (0x2300 + l) 0x0C
  let raw := if src = 1 ∨ src = 2 then fadd (fmul (lf s l 0x14) v) (lf s l 0x15) else v
  let ws := fclamp raw (lf s l 0x16) (lf s l 0x17)
  let x := (loopAt s l).vars
  let wf0 := if lost then ws else x.wf
  let w0 := if lost then ws else x.w
  let tf := lf s l 0x18
  let wf := if feq tf (f32 0) then ws else fadd wf0 (fmul (fdiv dt (fadd tf dt)) (fsub ws wf0))
  let r := lf s l 0x19
  let step := fmul r dt
  let d := fsub wf w0
  let acts := !feq r (f32 0) && (flt d (fneg step) || flt step d)
  (ws, wf, if feq r (f32 0) then wf else fadd w0 (fclamp d (fneg step) step), acts)

/-- The scheduling variable (R230). -/
def scheduling (s : State) (l : Nat) (e w y : F32) : F32 :=
  match getN s (0x2400 + l) 0x12 with
  | 0 => fabs e
  | 1 => e
  | 2 => w
  | 3 => y
  | _ => getF s (0x2000 + getN s (0x2400 + l) 0x13) 0x02

/-- The derivative term (R229). -/
def derivative (s : State) (l : Nat) (k y dt sigma : F32) (resumed : Bool) : F32 :=
  let td := lf s l 0x08
  let x := (loopAt s l).vars
  if feq td (f32 0) || resumed then f32 0
  else
    let tn := fdiv td (lf s l 0x09)
    fdiv (fsub (fmul tn x.d) (fmul (fmul k td) (fmul sigma (fsub y x.yprev)))) (fadd tn dt)

/-- An input fault: the measurement, the setpoint source or the auxiliary port reads NaN (R232). -/
def inputFault (s : State) (l : Nat) (y v : F32) : Bool :=
  fIsNaN y || fIsNaN v || (getN s (0x2400 + l) 0x12 == 4
    && (decide (63 < getN s (0x2400 + l) 0x13) || fIsNaN (getF s (0x2000 + getN s (0x2400 + l) 0x13) 0x02)))

/-- The loop is in Auto, a group member, and not the winner of the previous output instant (R253). -/
def loses (s : State) (l : Nat) (auto : Bool) : Bool :=
  auto && (match groupOf s l with
    | some g => getN s (0x2700 + g) 0x0A != l
    | none => false)

/-- Tracking time of the loop's group (R253); 0 outside a group. -/
def trackingTime (s : State) (l : Nat) : F32 := match groupOf s l with | some g => getF s (0x2700 + g) 0x09 | none => f32 0

/-- A job of loop l released with mode `auto` for the sample in `c` (R229 to R236, R253 to R255, R258). Everything it will
commit is computed from what stands at the release instant (R226, R238; log 61, log 63, log 93). -/
def computeJob (s : State) (l : Nat) (c : LoopLatch) (auto : Bool) : LoopJob :=
  let x := loopAt s l
  let y := loopInput s l c.reg
  let prev := x.prev.getD (lastApplied s l)
  let kept := if auto || (groupOf s l).isNone then prev else manualValue s l c.man
  let zone := if getN s (0x2300 + l) 0x0C = 3 then some (getN s (0x2300 + l) 0x0D) else none
  let bad (fault : Nat) : LoopJob :=
    { ts := c.ts, released := s.clock.tick, auto := auto, fault := fault, vars := x.vars, staged := kept, bits := 0,
      handOver := false, rampStart := false, ramp := x.ramp, cell := 0, lam := c.lam, learn := false,
      action := getN s (0x2300 + l) 0x10, zone := zone, tookTable := x.tableChanged, tookRep := x.repChanged }
  let (r, learn, _) := repTerm s l c.lam auto
  if inputFault s l y c.v then bad 1
  else
    let resumed := x.resume != 0 || x.tlast.isNone
    let dtMs := if resumed then loopTs s l else c.ts - x.tlast.getD 0
    let dt := f32 dtMs 1000
    let (ws, wf, w, rate) := setpoint s l c.v dt (x.resume == 1)
    let sigma := if getN s (0x2300 + l) 0x0F = 0 then f32 1 else f32 (-1)
    let e := fmul sigma (fsub w y)
    let gm := getN s (0x2400 + l) 0x11
    let sv := scheduling s l e w y
    let f := tableValue (tablePoints s l) sv
    let g := if gm = 2 then f else f32 1
    let k := fmul (lf s l 0x06) g
    let p := fmul k (fmul sigma (fsub (fmul (lf s l 0x0A) w) y))
    let d := derivative s l k y dt sigma resumed
    let bias := lf s l 0x0B
    let lo := iLow s l
    let hi := iHigh s l
    let ua := if auto then lastApplied s l else manualValue s l c.man
    let back := fsub (fsub (fsub (fsub ua p) d) bias) r
    let hand := resumed || x.tableChanged || (x.repChanged && auto)
    let sets := if gm = 1 then resumed else hand || !auto
    let raw := if sets then back
      else if flt (f32 0) (lf s l 0x07) && gm != 1 then fadd x.vars.i (fmul (fdiv (fmul k dt) (lf s l 0x07)) e)
      else x.vars.i
    let clampI := sets || (flt (f32 0) (lf s l 0x07) && gm != 1)
    let i1 := if clampI then fclamp raw lo hi else raw
    let tt := trackingTime s l
    let track := loses s l auto && flt (f32 0) tt && gm != 1
    let u0 := fadd (fadd (fadd (fadd p i1) d) bias) r
    let t2 := fadd i1 (fmul (fmin (fdiv dt tt) (f32 1)) (fsub (lastApplied s l) u0))
    let i := if track then fclamp t2 lo hi else i1
    let clamped := (clampI && (flt raw lo || flt hi raw)) || (track && (flt t2 lo || flt hi t2))
    let u := if gm = 1 then fadd (fadd f bias) r else fadd (fadd (fadd (fadd p i) d) bias) r
    let ulo := lf s l 0x0C
    let uhi := lf s l 0x0D
    let uout := fclamp u ulo uhi
    let limit := lf s l 0x1B
    let sup := auto && flt (f32 0) limit
    let beyond := flt limit (fabs (fsub w y))
    let tfe := if !sup then x.vars.tfe else if beyond then fadd x.vars.tfe dt else f32 0
    let start := hand && auto && ((clampI && (flt raw lo || flt hi raw)) || gm == 1 || x.ramp)
    let ramping := auto && (start || x.ramp)
    let q0 := if start then lastApplied s l else x.vars.q
    let rt := getF s 0x2710 (l + 1)
    let q := if feq rt (f32 0) then uout else fadd q0 (fclamp (fsub uout q0) (fneg (fmul rt dt)) (fmul rt dt))
    let want := if !auto then fclamp c.man ulo uhi else if ramping then q else uout
    let staged := clampPort s (loopPort s l) want
    let raw1 := if auto then u else c.man
    let low := flt raw1 ulo || flt want (f32 0)
    let high := flt uhi raw1 || flt staged want
    if ([uout, i, d, w, wf].any fun z => !fFinite z) then bad 2
    else
      { ts := c.ts, released := s.clock.tick, auto := auto, fault := 0,
        vars := { wf := wf, w := w, i := i, d := d, yprev := y, tfe := tfe, q := q, y := y, e := e, p := p, g := g, sv := sv,
                  r := r, u := uout, ws := ws, dt := dt, dtMs := dtMs },
        staged := staged,
        bits := bitVal low 4 + bitVal high 5 + bitVal clamped 6 + bitVal rate 8 + bitVal sup 16 + bitVal beyond 17
          + bitVal (flt (f32 (getN s (0x2400 + l) 0x1C) 1000) tfe) 18,
        handOver := hand, rampStart := start, ramp := ramping && !feq q uout, cell := repCell s l c.lam,
        lam := c.lam, learn := learn, action := getN s (0x2300 + l) 0x10, zone := zone, tookTable := x.tableChanged,
        tookRep := x.repChanged }

/-! ## Trace sets (R268 to R270) -/

/-- The nodes named by trace set t, in column order. -/
def traceNodes (s : State) (t : Nat) : List Nat := ((List.range 8).map fun i => getN s (0x2780 + t) (0x03 + i)).filter (· < 16)

/-- The value of internal node k of loop l (R244). -/
def nodeValue (s : State) (l k : Nat) : F32 :=
  let x := loopAt s l
  match k with
  | 0 => x.vars.w | 1 => x.vars.y | 2 => x.vars.e | 3 => x.vars.p | 4 => x.vars.i | 5 => x.vars.d | 6 => x.vars.g
  | 7 => x.vars.sv | 8 => x.vars.r | 9 => x.vars.u | 10 => x.node10 | 11 => x.vars.dt
  | 12 => f32 (statusWord s l) | 13 => x.vars.tfe | 14 => x.vars.wf | _ => x.vars.ws

/-- The stored data of a trace (R270). -/
def traceData (s : State) (t : Nat) : Bytes :=
  let x := traceAt s t
  let ns := traceNodes s t
  leBytes 4 0x31535254 ++ leBytes 1 (getN s (0x2780 + t) 0x02) ++ leBytes 1 ns.length ++ leBytes 2 (getN s (0x2780 + t) 0x0D)
    ++ (ns.map byte ++ List.replicate (8 - ns.length) 0xFF) ++ leBytes 4 x.rows.length ++ leBytes 4 (x.trig.getD 0)
    ++ leBytes 8 x.trigTime ++ (x.rows.map fun r => leBytes 4 r.1 ++ (r.2.map fun v => leBytes 4 v.toNat).flatten).flatten

/-- A set becomes done once its rows stand in the trace buffer: they are kept (R34, R268, R269; log 64). -/
def traceDone (s : State) (t : Nat) : State :=
  let s0 := if hamperFree s then drainTo s 5 else s
  let s1 := updTrace s0 t fun x => { x with kept := some (traceData s0 t) }
  setN (setN s1 (0x2780 + t) 0x13 3) (0x2780 + t) 0x01 0

/-- The trigger test of a row (R269). -/
def triggerHit (s : State) (t : Nat) (v : F32) (st : Bool) : Bool :=
  let x := traceAt s t
  let level := getF s (0x2780 + t) 0x10
  let up (p : F32) : Bool := flt p level && fle level v
  let down (p : F32) : Bool := flt level p && fle v level
  x.manual || (match x.prev with
    | none => false
    | some (p, q) => (match getN s (0x2780 + t) 0x0E with
      | 0 => up p
      | 1 => down p
      | 2 => up p || down p
      | 3 => st && !q
      | _ => false))

/-- The armed sets of loop l count its release instant (R269); at each d-th count a row for the sample at ts becomes due. -/
def traceCount (s : State) (l ts : Nat) : State :=
  (List.range 8).foldl (fun a t => if traceArmed a t && getN a (0x2780 + t) 0x02 == l then
      updTrace a t fun x => { x with
        count := x.count + 1, due := if (x.count + 1) % max 1 (getN a (0x2780 + t) 0x0D) = 0 then some ts else none }
    else a) s

/-- The armed set t of loop l takes its row where one is due for the sample at ts (R269; log 64): a page write of the last class of R34, which
the controller refuses in a power-fail warning and a reset entry: there is no row then (R415, R461). -/
def traceRow (s : State) (t l ts : Nat) : State :=
  if (traceAt s t).due ≠ some ts then s
  else
    let s0 := updTrace s t fun x => { x with due := none }
    let x := traceAt s0 t
    let row := (ts % 2 ^ 32, (traceNodes s t).map (nodeValue s l))
    let v := nodeValue s l (getN s (0x2780 + t) 0x0F)
    let st := (statusWord s l &&& getN s (0x2780 + t) 0x11) != 0
    let pre := getN s (0x2780 + t) 0x0C
    let depth := getN s (0x2780 + t) 0x0B
    let s1 := queueWrite s0 .loop 5 (.row t (ts % 2 ^ 32))
    if hamperFree s = false then updTrace s0 t fun x => { x with prev := some (v, st) }
    else if x.trig.isSome then
      let s2 := updTrace s1 t fun x => { x with rows := x.rows ++ [row], left := x.left - 1, prev := some (v, st) }
      let s3 := addN s2 (0x2780 + t) 0x14 1
      if (traceAt s3 t).left = 0 then traceDone s3 t else s3
    else if triggerHit s0 t v st then
      let s2 := updTrace s1 t fun x => { x with
        rows := x.rows ++ [row], trig := some x.rows.length, trigTime := devTime s - (s.clock.tick - ts),
        left := depth - pre - 1, prev := some (v, st), manual := false }
      let s3 := setN (setN (setN s2 (0x2780 + t) 0x13 2) (0x2780 + t) 0x14 (x.rows.length + 1)) (0x2780 + t) 0x16
        (devTime s - (s.clock.tick - ts))
      if (traceAt s3 t).left = 0 then traceDone s3 t else s3
    else
      let rows := (x.rows ++ [row]).drop (x.rows.length + 1 - pre)
      setN (updTrace s1 t fun x => { x with rows := rows, prev := some (v, st) }) (0x2780 + t) 0x14 rows.length

/-- Every armed set of loop l takes its row. -/
def traceRows (s : State) (l ts : Nat) : State :=
  (List.range 8).foldl (fun a t => if traceArmed a t && getN a (0x2780 + t) 0x02 == l then traceRow a t l ts else a) s

/-- Size in bytes a set can grow to (R268). -/
def traceSize (s : State) (t : Nat) : Nat := 32 + getN s (0x2780 + t) 0x0B * (4 + 4 * (traceNodes s t).length)

/-- No node is named, or the pre-trigger rows are not less than the depth (R268). -/
def traceIllFormed (s : State) (t : Nat) : Bool :=
  (traceNodes s t).isEmpty || decide (getN s (0x2780 + t) 0x0B ≤ getN s (0x2780 + t) 0x0C)

/-- The abort of a write of 1 to Arm of set t at steps 8 to 10 (R268), before admission (log 34). -/
def traceRefused (s : State) (t : Nat) : Option Nat :=
  let held := ((List.range 8).map fun i => if i = t then 0 else if traceArmed s i then traceSize s i
    else match (traceAt s i).kept with | some b => b.length | none => 0).foldl (· + ·) 0
  if traceArmed s t then some 0x0401
  else if 1048576 < traceSize s t then some 0x0502
  else if 3145728 < held + traceSize s t then some 0x0501
  else none

/-- Arm set t: its previous data is discarded. -/
def traceArm (s : State) (t : Nat) : State :=
  let s1 := updTrace s t fun _ => ⟨0, [], none, 0, 0, false, none, none, none⟩
  setN (setN (setN s1 (0x2780 + t) 0x13 1) (0x2780 + t) 0x14 0) (0x2780 + t) 0x16 0
/-- Disarm set t: a triggered set that is not done keeps its rows as a done trace; an armed one returns to idle. -/
def traceDisarm (s : State) (t : Nat) : State :=
  if !traceArmed s t then s
  else if (traceAt s t).trig.isSome then traceDone s t
  else setN (setN (updTrace s t fun _ => ⟨0, [], none, 0, 0, false, none, none, none⟩) (0x2780 + t) 0x13 0) (0x2780 + t) 0x14 0
/-- A manual trigger of an armed set: the next row is its trigger row (R269; log 64). -/
def traceManual (s : State) (t : Nat) : State :=
  if (traceAt s t).trig.isSome then s else updTrace s t fun x => { x with manual := true }

/-! ## Release, job end, output (R218, R226, R229, R241) -/

/-- A hand-over event acts in the first job that completes: one that a job took and did not commit stands again (R254, log 63). -/
def giveBack (s : State) (l : Nat) (job : Option LoopJob) : State :=
  match job with
  | some j => updLoop s l fun x => { x with
      tableChanged := x.tableChanged || j.tookTable, repChanged := x.repChanged || j.tookRep }
  | none => s

/-- A missed sample (R241): counted, bit 6 of 2F00.01, condition; the previous output stays staged. -/
def missSample (s : State) (l : Nat) (stale : Bool) : State :=
  let s1 := giveBack (updLoop s l fun x => { x with job := none, staged := none }) l (loopAt s l).job
  let s2 := loopBit (loopBit s1 l 3 true) l 11 stale
  let s3 := addN s2 (0x2300 + l) 0x12 1
  raise { s3 with power := { s3.power with deadlineMiss := true } } (0x6300 + l)

/-- The mode in force at a release instant (R235, R489): the entry's mode once metrology is valid. -/
def enterMode (s : State) (l : Nat) : State :=
  let x := loopAt s l
  let m := loopMode s l
  if x.active = m then s
  else if (x.active = 3 ∨ x.active = 4) ∧ !s.power.step8 then s
  else updLoop s l fun x => { x with active := m, resume := if x.active = 3 ∨ x.active = 4 then (if x.resume = 1 then 1 else 2) else x.resume }

/-- Loop l is suspended (R466): the device is in Quiet and the sample period is below the Quiet loop limit (log 90). -/
def suspended (s : State) (l : Nat) : Bool := s.power.quiet && decide (loopTs s l < getN s 0x3000 0x03)

/-- LOOP_RELEASE (R218, R221, R226, R241, R466, R489): the release instant of the latched sample. The mode in force is settled,
the measurement is taken and the job released; in fresh mode a sample without a fresh value is missed. A suspended loop releases
no job, and its next one is a resumption; an output due by then is applied first (log 63, log 90). -/
def execLoopRelease (l : Nat) (s : State) : Out :=
  match (loopAt s l).latch with
  | none => .next s
  | some c =>
    let tr := getN s (0x2400 + l) 0x03
    let tout := getN s (0x2400 + l) 0x04
    let ok := islandsRun s && decide (l < 96) && loopMode s l != 0 && decide (c.ts + tr ≤ s.clock.tick)
      && (match (loopAt s l).outAt with | some t => decide (s.clock.tick < t) | none => true)
    doneIf ok s (
      let s1 := enterMode s l
      let s2 := updLoop s1 l fun x => { x with
        latch := none, outAt := some (if tout = 0 then c.ts + tr + 1 else c.ts + tout)
        safe := lf s l 0x1D, table := getN s (0x2400 + l) 0x11, man := manualValue s l c.man }
      let m := (loopAt s2 l).active
      if m = 1 ∨ m = 2 then
        let s3 := traceCount s2 l c.ts
        if suspended s l then updLoop s3 l fun x => { x with resume := if x.resume = 1 then 1 else 2 }
        else
          let s4 := repRelease s3 l c.lam (m == 2)
          if getN s (0x2400 + l) 0x05 = 1 ∧ isFresh s l c.ts = false then traceRows (missSample s4 l true) l c.ts
          else updLoop s4 l fun x => { x with job := some (computeJob s4 l c (m == 2)), tableChanged := false, repChanged := false }
      else s2)

/-- Latch a trip in a loop's zone (R267). -/
def latchTrip (s : State) (zone : Option Nat) : State :=
  match zone with
  | some z => setBit (raiseHeld s (0x7060 + z)) (0x2800 + z) 0x0A 5 true
  | none => s

/-- Following-error supervision of a completed job (R237). -/
def supervise (s : State) (l : Nat) (j : LoopJob) : State :=
  if !j.bits.testBit 16 then s
  else if !j.bits.testBit 17 then dropCond (loopBit s l 7 false) (0x6200 + l)
  else if j.bits.testBit 18 ∧ (loopAt s l).status.testBit 7 = false then
    let s1 := raiseHeld (loopBit s l 7 true) (0x6200 + l)
    match j.action with
    | 1 => putN (repIdle (updLoop s1 l fun x => { x with active := 3, resume := 2, staged := none, fresh := none, ramp := false, acted := true }) l)
        (0x2300 + l) 0x01 3
    | 2 => putN (repIdle (updLoop s1 l fun x => { x with active := 4, resume := 2, staged := none, fresh := none, ramp := false, acted := true }) l)
        (0x2300 + l) 0x01 4
    | 3 => latchTrip s1 j.zone
    | _ => s1
  else s

/-- The cell a completed job writes (R258, R260): M := r, E := e, H := the local instant. The cell's page write is issued to the
Hamper controller in the same job; a controller disabled since the release learns nothing. -/
def learnCell (s : State) (l : Nat) (j : LoopJob) : State :=
  let i := 0x2500 + l
  if j.learn && getB s i 0x01 then
    addN (setN (queueWrite s .loop Writer.loop.cls (.cell l j.cell j.vars.r j.vars.e)) i 0x0D j.lam) i 0x0E 1
  else s

/-- A completed job commits (R226, R229). -/
def commitJob (s : State) (l : Nat) (j : LoopJob) : State :=
  let s1 := updLoop s l fun x => { x with
    job := none, vars := j.vars, tlast := some j.ts, resume := 0, staged := some j.staged,
    fresh := some (j.vars.w, j.vars.y, j.vars.u), ramp := j.ramp,
    status := (x.status &&& 0x1080) + (j.bits &&& 0x170) }
  let s2 := addN (dropCond (dropCond s1 (0x6100 + l)) (0x6400 + l)) (0x2300 + l) 0x11 1
  let s3 := if j.handOver then addN s2 0x2711 (l + 1) 1 else s2
  let s4 := if j.rampStart then addN s3 0x2712 (l + 1) 1 else s3
  supervise (learnCell s4 l j) l j

/-- The last sample of loop l was not missed (R245, bits 3 and 11). -/
def noMiss (s : State) (l : Nat) : State := loopBit (loopBit s l 3 false) l 11 false

/-- The job of loop l is the first in the engine's order: release tick, then output instant, then loop number (R226). -/
def jobFirst (s : State) (l : Nat) (j : LoopJob) : Bool :=
  let key (x : LoopSt) (y : LoopJob) (i : Nat) : Nat × Nat × Nat := (y.released, x.outAt.getD 0, i)
  let own := key (loopAt s l) j l
  (List.range 96).all fun i => match (loopAt s i).job with
    | some y =>
      let k := key (loopAt s i) y i
      decide (own.1 < k.1) || (own.1 == k.1 && (decide (own.2.1 < k.2.1) || (own.2.1 == k.2.1 && decide (own.2.2 ≤ k.2.2))))
    | none => true

/-- LOOP_JOB_END (R226, R229 to R237): the released job that is first in the engine's order ends. It commits and stages its output; after an input fault or an
arithmetic fault it commits nothing and stages the previous output again (log 63); inputs that are numbers end an input fault. -/
def execLoopJobEnd (l : Nat) (s : State) : Out :=
  match (loopAt s l).job with
  | none => .next s
  | some j =>
    doneIf (isUp s && decide (l < 96) && jobFirst s l j) s (
      let s1 := match j.fault with
        | 0 => commitJob s l j
        | 1 =>
          let s1 := updLoop (giveBack s l (some j)) l fun x => { x with job := none, staged := some j.staged, resume := if x.resume = 0 then 2 else x.resume }
          raiseHeld (loopBit (noMiss s1 l) l 1 true) (0x6100 + l)
        | _ =>
          let s1 := updLoop (giveBack s l (some j)) l fun x => { x with job := none, staged := some j.staged }
          raiseHeld (loopBit (dropCond (loopBit (noMiss s1 l) l 1 false) (0x6100 + l)) l 2 true) (0x6400 + l)
      traceRows s1 l j.ts)

/-- What loop l offers at an output instant (R234, R251): the staged value, a group member's manual output, the previous value in
Hold, the safe output in Safe. A single loop in Hold with nothing applied yet keeps the port's safe value (R489; log 62). -/
def candidate (s : State) (l : Nat) : Option F32 :=
  let x := loopAt s l
  match x.staged with
  | some v => some v
  | none =>
    if suspended s l then x.prev
    else match x.active with
    | 1 => if (groupOf s l).isSome then some x.man else x.prev
    | 2 | 3 => x.prev
    | 4 => some x.safe
    | _ => none

/-- The snapshot group 03 to 07 of loop l at an output instant (R243; log 61). -/
def showLoop (s : State) (l : Nat) (v : F32) : State :=
  let i := 0x2300 + l
  let x := loopAt s l
  let s1 := match x.fresh with
    | some (w, y, u) => setF (setF (setF s i 0x03 w) i 0x04 y) i 0x05 u
    | none => s
  let s2 := updLoop (setF s1 i 0x06 v) l fun x => { x with staged := none, fresh := none, outAt := none, applied := some v, node10 := v }
  setN s2 i 0x07 (statusWord s2 l)

/-- What stands at port n after a loop value was given to it: the trip's value while a trip is active (R31, R243). -/
def appliedAt (s : State) (n : Nat) (v : F32) : F32 :=
  if (portAt s n).tripped || s.power.refFault then (portAt s n).out else v

/-- A single loop's output instant. -/
def loopOutput (s : State) (l : Nat) : State :=
  let n := loopPort s l
  let s0 := if (loopAt s l).job.isSome then traceRows (missSample s l false) l (((loopAt s l).job.map (·.ts)).getD 0) else s
  match (candidate s0 l).map (clampPort s0 n) with
  | some v =>
    let s1 := applyOut s0 n v (refMs * s.clock.tick)
    showLoop (updLoop s1 l fun x => { x with prev := some v }) l (appliedAt s1 n v)
  | none => showLoop s0 l (portAt s0 n).out

/-- The lowest candidate of a group; the previous winner keeps a tie, else the lowest loop number (R251). -/
def lowest (cs : List (Nat × F32)) (winner : Nat) : Option (Nat × F32) :=
  cs.foldl (fun a c => match a with
    | none => some c
    | some b => if flt c.2 b.2 || (feq c.2 b.2 && b.1 != winner && (c.1 == winner || decide (c.1 < b.1))) then some c else some b) none

/-- GROUP_OUTPUT (R251, R252): at the group's output instant the lowest candidate is applied; with none the output port goes to
its safe value (log 93). -/
def groupOutput (s : State) (g : Nat) : State :=
  let i := 0x2700 + g
  let n := getN s i 0x02
  let ms := groupMembers s g
  let s0 := ms.foldl (fun a l => match (loopAt a l).job with
    | some j => traceRows (missSample a l false) l j.ts
    | none => a) s
  let offers := (List.range 6).map fun k => let l := groupMember s0 g k; (l, if l < 96 then candidate s0 l else none)
  let cs := offers.filterMap fun o => o.2.map fun v => (o.1, v)
  let bits := ((List.range 6).map fun k => bitVal ((offers.getD k (0, none)).2.isSome) k).foldl (· + ·) 0
  let s1 := ms.foldl (fun a l => match candidate s0 l with
    | some v => updLoop a l fun x => { x with prev := some v }
    | none => a) (setN s0 i 0x0D bits)
  match lowest cs (getN s i 0x0A) with
  | some (w, v) =>
    let old := getN s i 0x0A
    let v1 := clampPort s1 n v
    let s2 := applyOut s1 n v1 (refMs * s.clock.tick)
    let shown := appliedAt s2 n v1
    let s3 := setF (setN s2 i 0x0A w) i 0x0B shown
    let s4 := if old != 0xFF && old != w then addN s3 i 0x0C 1 else s3
    let s5 := ms.foldl (fun a l => if (loopAt a l).active = 0 then a else showLoop (loopBit a l 12 (l != w)) l shown) s4
    dropCond s5 (0x6500 + g)
  | none =>
    ms.foldl (fun a l => if (loopAt a l).active = 0 then a else showLoop a l (safeValue s n)) (groupIdle s1 g)

/-- LOOP_OUTPUT_INSTANT (R218, R234, R241, R243, R251): the staged output of the loop, or of its group once for all members, is
applied; a job that has not ended is missed. -/
def execLoopOutputInstant (l : Nat) (s : State) : Out :=
  let ok := islandsRun s && decide (l < 96) && (loopAt s l).active != 0
    && (match (loopAt s l).outAt with | some t => decide (t ≤ s.clock.tick) | none => false)
  doneIf ok s (
    match groupOf s l with
    | some g =>
      if (vAt s.groups g ⟨none⟩).last = some s.clock.tick then updLoop s l fun x => { x with outAt := none }
      else groupOutput { s with groups := vUpd s.groups g fun _ => ⟨some s.clock.tick⟩ } g
    | none => loopOutput s l)

/-! ## Groups (R249, R250) -/

/-- The 0x0401 refusals of a member write of loop l to group g (R249). -/
def memberRefused (s : State) (g l : Nat) : Bool :=
  getB s (0x2700 + g) 0x01
    || (decide (l < 96) && (loopMode s l != 0 || getN s (0x2300 + l) 0x0E != 0xFF || (groupOf s l).isSome))

/-- The 0x0401 refusals of a write of 1 to Enable of group g (R250). -/
def groupRefused (s : State) (g : Nat) : Bool :=
  let n := getN s (0x2700 + g) 0x02
  (groupMembers s g).isEmpty || decide (63 < n) || !isOutput (portMode s n) || loopDriven s n

/-- Enable of group g is cleared: the shown values return to their defaults and 0x6500 + g clears (log 19). -/
def groupDisabled (s : State) (g : Nat) : State :=
  let i := 0x2700 + g
  dropCond (setN (setF (setN s i 0x0A 0xFF) i 0x0B nan32) i 0x0D 0) (0x6500 + g)

/-- HIGH_WATER_FLUSH (R260): H of loop l is written to the Hamper, after the loop engine's earlier writes (R34), and the count of
cells written with it (R273; log 102). -/
def execHighWaterFlush (l : Nat) (s : State) : Out :=
  let v := getBytes s (0x2500 + l) 0x0D
  let ok := isUp s && hamperFree s && decide (l < 96) && getB s (0x2500 + l) 0x01
    && (recValue s (keyOf (0x2500 + l) 0x0D)).getD (leBytes 8 0) != v
  doneIf ok s (saveN (writeNow s (.record (keyOf (0x2500 + l) 0x0D) v)) (0x2500 + l) 0x0E (getN s (0x2500 + l) 0x0E))

/-- Valid of the gain table of loop l (R240, R247). -/
def judgeTable (s : State) (l : Nat) : State :=
  let ps := tablePoints s l
  setB s (0x2600 + l) 0x02 (decide (2 ≤ ps.length) && rises (ps.map (·.1)))

end Sys2Proof.Machine
end

