-- ==== Sys2Proof/Machine/Schedule.lean ====
section
/-! DEFINITION. Local time and daylight saving (R392), schedule programs and exception dates (R394 to R397), the consumers of a
changed program output, the due instants of the user alarms (R385). -/

namespace Sys2Proof.Machine

/-! ## Daylight saving (R392) -/

/-- The device time in ms, possibly negative, of a rule's instant in a year: rule bytes as in R392, the standard offset and the
wall offset before the change, in minutes. -/
def ruleInstant (rule : Bytes) (year : Nat) (std wall : Int) : Int :=
  let day := nthWeekday year (fieldN rule 0 1) (fieldN rule 1 1) (fieldN rule 2 1)
  let off : Int := match fieldN rule 3 1 with | 0 => 0 | 1 => std | _ => wall
  ((day * 1440 + fieldN rule 4 2 : Nat) - off) * 60000

/-- Standard offset in minutes. -/
def stdOffset (s : State) : Int := getI s 0x2902 0x01
/-- Daylight-saving offset in minutes. -/
def dstOffset (s : State) : Int := getI s 0x2902 0x03

/-- Start and end instants of a year. -/
def dstStart (s : State) (y : Nat) : Int := ruleInstant (getBytes s 0x2902 0x04) y (stdOffset s) (stdOffset s)
def dstEnd (s : State) (y : Nat) : Int := ruleInstant (getBytes s 0x2902 0x05) y (stdOffset s) (stdOffset s + dstOffset s)

/-- The year of a device time. -/
def yearOf (t : Nat) : Nat := (civil (t / dayMs)).1

/-- The instants at which daylight saving starts (true) and ends in the year of a device time and its neighbours, none before 2000: a
rule on a local basis may fall in another year of UTC. -/
def ruleEvents (s : State) (t : Nat) : List (Int × Bool) :=
  (([yearOf t - 1, yearOf t, yearOf t + 1].filter fun y => decide (2000 ≤ y)).map fun y =>
    [(dstStart s y, true), (dstEnd s y, false)]).flatten

/-- The latest of the events not after t. -/
def latestEvent (t : Int) (es : List (Int × Bool)) : Option (Int × Bool) :=
  es.foldl (fun a e => if t < e.1 then a else match a with
    | some b => if b.1 < e.1 then some e else a
    | none => some e) none

/-- Daylight saving is active at device time t: since the latest start, or, before the first event of all, where the start month comes
after the end month. -/
def dstActive (s : State) (t : Nat) : Bool :=
  getB s 0x2902 0x02 && (match latestEvent t (ruleEvents s t) with
    | some e => e.2
    | none => decide (fieldN (getBytes s 0x2902 0x05) 0 1 < fieldN (getBytes s 0x2902 0x04) 0 1))

/-- Local offset in minutes at device time t under the present rules. -/
def offsetAt (s : State) (t : Nat) : Int := stdOffset s + (if dstActive s t then dstOffset s else 0)

/-- The next change of the local offset after device time t; 0 if none. -/
def nextChange (s : State) (t : Nat) : Nat :=
  let cs := if getB s 0x2902 0x02 then (ruleEvents s t).map (·.1) else []
  ((cs.filter fun c => decide ((t : Int) < c)).foldl (fun (a : Option Int) c => some (match a with | none => c | some b => min b c)) none
    |>.getD 0).toNat

/-- Device time of the start of a local minute: with two, the earlier; in a gap, the first minute after it (R395, R397). -/
def localMinute (s : State) (m : Nat) : Nat :=
  let t1 := (((m : Int) - stdOffset s - dstOffset s) * 60000).toNat
  let t2 := (((m : Int) - stdOffset s) * 60000).toNat
  if dstActive s t1 then t1 else if !dstActive s t2 then t2 else nextChange s t1

/-! ## Programs (R394 to R396) -/

/-- The switch points of a profile: minute and value. -/
def switchPoints : Bytes → List (Nat × F32)
  | a :: b :: c :: d :: e :: f :: r => (leNat [a, b], BitVec.ofNat 32 (leNat [c, d, e, f])) :: switchPoints r
  | _ => []

/-- Exception entry i applies to a date and a program (R396). -/
def exceptionHits (s : State) (i p day : Nat) : Bool :=
  let b := getBytes s 0x2903 i
  let (y, m, d) := civil day
  fieldN b 4 1 != 0 && (fieldN b 0 2 == 0 || fieldN b 0 2 == y) && fieldN b 2 1 == m && fieldN b 3 1 == d && (fieldN b 8 8).testBit p

/-- Day type of a local date for program p: 0 to 6 Monday to Sunday, 7 and 8 the exception profiles (R395, R396). -/
def dayType (s : State) (p day : Nat) : Nat :=
  match ((List.range 64).map (· + 1)).find? fun i => exceptionHits s i p day with
  | some i => 6 + fieldN (getBytes s 0x2903 i) 4 1
  | none => weekday day

/-- The profile of program p on a local date. -/
def profile (s : State) (p day : Nat) : List (Nat × F32) := switchPoints (getBytes s (0x2880 + p) (0x10 + dayType s p day))

/-- The last switch point of the dates before `day`, up to `n` of them (R395). -/
def lastBefore (s : State) (p : Nat) : Nat → Nat → Option F32
  | 0, _ => none
  | n + 1, day =>
    if day = 0 then none
    else match (profile s p (day - 1)).getLast? with
      | some x => some x.2
      | none => lastBefore s p n (day - 1)

/-- The value program p gives at a local minute counted from 2000-01-01 (R395). -/
def programAt (s : State) (p m : Nat) : Option F32 :=
  match ((profile s p (m / 1440)).filter fun x => decide (x.1 ≤ m % 1440)).getLast? with
  | some x => some x.2
  | none => lastBefore s p 7 (m / 1440)

/-- The present local minute. -/
def nowMinute (s : State) : Nat := localTime s / 60000

/-- The output of program p now (R395). -/
def programOutput (s : State) (p : Nat) : Option F32 :=
  if getB s (0x2880 + p) 0x01 && timeTrusted s then programAt s p (nowMinute s) else none

/-- The output of program p at a device time, under the present offset and rules (R397). -/
def outputAt (s : State) (p t : Nat) : Option F32 := programAt s p (((t : Int) + offsetAt s t * 60000).toNat / 60000)

/-- Insert an instant, ascending. -/
def insertTime (t : Nat) : List Nat → List Nat
  | [] => [t]
  | u :: r => if t ≤ u then t :: u :: r else u :: insertTime t r

/-- The coming instants of the present local date and the 7 after it at which the output of program p may change, ascending: each switch
point and each midnight, under either offset, and each change of offset (R397). -/
def comingInstants (s : State) (p : Nat) : List Nat :=
  let now := devTime s
  let day := nowMinute s / 1440
  let mins : List Nat := ((List.range 8).map fun i => (day + i) * 1440 :: (profile s p (day + i)).map fun x => (day + i) * 1440 + x.1).flatten
  let std : List Int := mins.map fun (m : Nat) => ((m : Int) - stdOffset s) * 60000
  let all := if getB s 0x2902 0x02 then std ++ (mins.map fun (m : Nat) => ((m : Int) - stdOffset s - dstOffset s) * 60000)
    ++ (ruleEvents s now).map (·.1) else std
  let ok (t : Int) : Bool := decide ((now : Int) < t) && decide ((t + offsetAt s t.toNat * 60000).toNat / dayMs ≤ day + 7)
  ((all.filter ok).map Int.toNat).foldl (fun a t => insertTime t a) []

/-- The first of the instants at which an output that stood as `cur` becomes one that a test accepts (R397). -/
def firstBecomes (out : Nat → Option F32) (ok : Option F32 → Bool) : Option F32 → List Nat → Option Nat
  | _, [] => none
  | cur, t :: r => if ok (out t) && !ok cur then some t else firstBecomes out ok (out t) r

/-- A program has outputs to come: it is enabled and local time is trusted (R395). -/
def programRuns (s : State) (p : Nat) : Bool := getB s (0x2880 + p) 0x01 && timeTrusted s

/-- The first instant at which the output of program p becomes v (R397), as device time. -/
def becomes (s : State) (p : Nat) (v : F32) : Option Nat :=
  let is (o : Option F32) : Bool := match o with | some x => feq x v | none => false
  if programRuns s p then firstBecomes (outputAt s p) is (programOutput s p) (comingInstants s p) else none

/-- Two outputs are the same. -/
def sameOutput (a b : Option F32) : Bool :=
  match a, b with
  | some x, some y => feq x y
  | none, none => true
  | _, _ => false

/-- The next change of output of program p and its value, NaN for none (R397). -/
def nextOutput (s : State) (p : Nat) : Option (Nat × F32) :=
  if programRuns s p then
    ((comingInstants s p).find? fun t => !sameOutput (outputAt s p t) (programOutput s p)).map fun t => (t, (outputAt s p t).getD nan32)
  else none

/-- Evaluate program p: output, day type, next change and value (R395, R397). -/
def evalProgram (s : State) (p : Nat) : State :=
  let i := 0x2880 + p
  let out := programOutput s p
  let nx := nextOutput s p
  let s1 := setN (setF s i 0x02 (out.getD nan32)) i 0x03 (dayType s p (nowMinute s / 1440))
  setF (setN s1 i 0x04 ((nx.map (·.1)).getD 0)) i 0x05 ((nx.map (·.2)).getD nan32)

/-- Evaluate every program, and show the tariff selection that may follow (R202, R395). -/
def evalPrograms (s : State) : State := showTariff ((List.range 64).foldl evalProgram s)

/-! ## Alarms (R385) -/

/-- User alarm a. -/
def alarmAt (s : State) (a : Nat) : AlarmSt := vAt s.alarms a ⟨none, none⟩
/-- Change user alarm a. -/
def updAlarm (s : State) (a : Nat) (f : AlarmSt → AlarmSt) : State := { s with alarms := vUpd s.alarms a f }

/-- The first occurrence of a daily or weekly alarm at or after a local instant in ms, on a date later than that of its last
firing, however far ahead that lies; local ms. -/
def nextOccurrence (s : State) (a : Nat) (from_ : Nat) : Option Nat :=
  let i := 0x2904 + a
  let min := getN s i 0x04
  let first := max (from_ / dayMs) (match (alarmAt s a).lastDate with | some l => l + 1 | none => 0)
  let ok (d : Nat) : Bool := (getN s i 0x02 == 1 || (getN s i 0x05).testBit (weekday d))
    && decide (from_ ≤ d * dayMs + min * 60000)
  (((List.range 9).map fun k => first + k).find? ok).map fun d => d * dayMs + min * 60000

/-- Set an alarm's due instant from `from_` local ms on, and show 2904+a.08 (R385, R400; log 70). -/
def planAlarm (s : State) (a : Nat) (from_ : Nat) : State :=
  let i := 0x2904 + a
  let due := if !getB s i 0x01 then none else if getN s i 0x02 = 0 then some (getN s i 0x03) else nextOccurrence s a from_
  let shown := match due with
    | none => 0
    | some d => if getN s i 0x02 = 0 then d else localMinute s (d / 60000)
  setN (updAlarm s a fun x => { x with due := due }) i 0x08 shown

/-- The alarm's due instant has been reached (log 70). -/
def alarmDue (s : State) (a : Nat) : Bool :=
  getB s (0x2904 + a) 0x01 && (match (alarmAt s a).due with
    | some d => decide (d ≤ if getN s (0x2904 + a) 0x02 = 0 then devTime s else localTime s)
    | none => false)

/-- Every alarm that is not due takes its next due instant under the present offset (R385, R400). -/
def planAlarms (s : State) : State :=
  (List.range 8).foldl (fun a i => if alarmDue a i then a else planAlarm a i (localTime a)) s

/-- Local offset, daylight saving and the next change as they stand now (R392); a change of offset evaluates the programs and moves the due
instants of the alarms. -/
def refreshLocal (s : State) : State :=
  let t := devTime s
  let off := offsetAt s t
  let s1 := { s with clock := { s.clock with localOffset := off, localDue := false } }
  let s2 := setN (setN s1 0x2902 0x06 (bitVal (dstActive s t) 0)) 0x2902 0x07 (nextChange s t)
  planAlarms (evalPrograms (showBilling s2))

/-- SCHEDULE_MINUTE (R395): at a whole local minute every program is evaluated. -/
def execScheduleMinute (s : State) : Out :=
  doneIf (isUp s && s.clock.lastMinute != nowMinute s) s (
    evalPrograms { s with clock := { s.clock with lastMinute := nowMinute s } })

/-- DAYLIGHT_SAVING_CHANGE (R392, R395): the instant of a change of local offset. -/
def execDaylightSavingChange (s : State) : Out :=
  doneIf (isUp s && offsetAt s (devTime s) != s.clock.localOffset) s (refreshLocal s)

end Sys2Proof.Machine
end

