-- ==== Sys2Proof/Machine/Zone.lean ====
section
/-! DEFINITION. Zones: modes, requests, presence, optimum start and rate learning (R261 to R267). -/

namespace Sys2Proof.Machine

/-- Zone z. -/
def zoneAt (s : State) (z : Nat) : ZoneSt := vAt s.zones z zoneRest
/-- Change zone z. -/
def updZone (s : State) (z : Nat) (f : ZoneSt → ZoneSt) : State := { s with zones := vUpd s.zones z f }

/-- Zone z is enabled. -/
def zoneOn (s : State) (z : Nat) : Bool := getB s (0x2800 + z) 0x01
/-- Zone temperature (R265); NaN without a port. -/
def zoneTemp (s : State) (z : Nat) : F32 :=
  let n := getN s (0x2820 + z) 0x15
  if n < 64 then getF s (0x2000 + n) 0x02 else nan32
/-- Heating and cooling setpoints of a mode 1 to 5 (R261). -/
def heatSet (s : State) (z m : Nat) : F32 := getF s (0x2820 + z) (0x02 + m)
def coolSet (s : State) (z m : Nat) : F32 := getF s (0x2820 + z) (0x07 + m)
/-- The value given in Off (R261). -/
def offValue : F32 := f32 (10 ^ 30)

/-! ## Requests and boosts (R263) -/

/-- A write of 0 to 4 to the request: it is set, with its expiry. -/
def zoneRequest (s : State) (z m : Nat) : State :=
  let d := getN s (0x2800 + z) 0x03
  putN (setBit (setN s (0x2800 + z) 0x02 m) (0x2800 + z) 0x0A 2 true) (0x2800 + z) 0x10 (if d = 0 then 0 else devTime s + d * 60000)
/-- A write of 5: a boost starts and the request is unchanged (log 66). -/
def zoneBoost (s : State) (z : Nat) : State :=
  setBit (updZone s z fun x => { x with boostEnd := some (s.clock.tick + getN s (0x2820 + z) 0x1B) }) (0x2800 + z) 0x0A 3 true
/-- The request returns to none: a write of the device to an audited entry (R309). -/
def requestOver (s : State) (z : Nat) : State :=
  putN (deviceWrite (setBit s (0x2800 + z) 0x0A 2 false) (0x2800 + z) 0x02 [0xFF]) (0x2800 + z) 0x10 0
/-- A write of 0xFF: any request and any boost end. -/
def zoneEnd (s : State) (z : Nat) : State :=
  let s1 := setBit (setBit (updZone s z fun x => { x with boostEnd := none }) (0x2800 + z) 0x0A 3 false) (0x2800 + z) 0x0A 2 false
  putN (setN s1 (0x2800 + z) 0x02 0xFF) (0x2800 + z) 0x10 0

/-- The expiry of zone z's request has been reached (R263, R385). -/
def requestExpired (s : State) (z : Nat) : Bool :=
  let t := getN s (0x2800 + z) 0x10
  t != 0 && decide (t ≤ devTime s)

/-- REQUEST_EXPIRY (R263): the request returns to 0xFF at its expiry. -/
def execRequestExpiry (z : Nat) (s : State) : Out :=
  doneIf (isUp s && decide (z < 32) && requestExpired s z) s (requestOver s z)

/-- BOOST_END (R263): the boost ends at its end time, in a disabled zone too. -/
def execBoostEnd (z : Nat) (s : State) : Out :=
  let ok := isUp s && decide (z < 32) && (match (zoneAt s z).boostEnd with | some t => decide (t ≤ s.clock.tick) | none => false)
  doneIf ok s (setBit (updZone s z fun x => { x with boostEnd := none }) (0x2800 + z) 0x0A 3 false)

/-! ## Presence (R264) -/

/-- The presence ports of zone z. -/
def presencePorts (s : State) (z : Nat) : List Nat := ((List.range 4).map fun i => getN s (0x2820 + z) (0x0D + i)).filter (· < 64)

/-- The refusal of a write of 1 to Enable: a named presence port in a mode other than 5 or 8. -/
def zoneRefused (s : State) (z : Nat) : Bool := (presencePorts s z).any fun n => portMode s n != 5 && portMode s n != 8

/-- A port has a fault (R102). -/
def portFaulty (s : State) (n : Nat) : Bool := faultOrder.any (hasFault s n)

/-- PRESENCE_SAMPLE (R264): every 100 ms raw presence is the OR of the sources; a faulty port counts as absent. -/
def execPresenceSample (z : Nat) (s : State) : Out :=
  let ok := isUp s && decide (z < 32) && zoneOn s z && s.clock.tick % 100 == 0 && (zoneAt s z).lastSample != some s.clock.tick
  doneIf ok s (
    let ps := presencePorts s z
    let bad := ps.any (portFaulty s)
    let reg := getB s (0x2820 + z) 0x11 && getB s (0x2800 + z) 0x0B && !subTimedOut s (0x2800 + z) 0x0B
    let raw := reg || ps.any fun n => !portFaulty s n && getN s (0x2000 + n) 0x0A == 1
    let s1 := setBit (judge s (0x7040 + z) bad) (0x2800 + z) 0x0A 6 bad
    updZone s1 z fun x => { x with
      raw := raw, rawSince := if x.raw = raw ∧ x.lastSample.isSome then x.rawSince else s.clock.tick, lastSample := some s.clock.tick })

/-- OCCUPIED_SET (R264): raw presence has held for the on-delay. -/
def execOccupiedSet (z : Nat) (s : State) : Out :=
  let x := zoneAt s z
  let ok := isUp s && decide (z < 32) && zoneOn s z && x.raw && !getB s (0x2800 + z) 0x06
    && decide (x.rawSince + getN s (0x2820 + z) 0x12 ≤ s.clock.tick)
  doneIf ok s (setBit (setN s (0x2800 + z) 0x06 1) (0x2800 + z) 0x0A 1 true)

/-- OCCUPIED_CLEAR (R264): raw presence has been absent for the hold-off. -/
def execOccupiedClear (z : Nat) (s : State) : Out :=
  let x := zoneAt s z
  let ok := isUp s && decide (z < 32) && zoneOn s z && !x.raw && getB s (0x2800 + z) 0x06
    && decide (x.rawSince + getN s (0x2820 + z) 0x13 ≤ s.clock.tick)
  doneIf ok s (setBit (setN s (0x2800 + z) 0x06 0) (0x2800 + z) 0x0A 1 false)

/-! ## Trips (R267) -/

/-- The zone trip is latched. -/
def zoneTripped (s : State) (z : Nat) : Bool := raised s (0x7060 + z)
/-- The following-error condition of a loop that names the zone is raised. -/
def zoneAlarm (s : State) (z : Nat) : Bool :=
  (List.range 96).any fun l => getN s (0x2300 + l) 0x0C == 3 && getN s (0x2300 + l) 0x0D == z && raised s (0x6200 + l)
/-- A write of 1 to trip reset: the latch is released. -/
def zoneTripReset (s : State) (z : Nat) : State := setBit (dropCond s (0x7060 + z)) (0x2800 + z) 0x0A 5 false

/-! ## Optimum start and learning (R265, R266) -/

/-- The lead in minutes (R265; log 65). -/
def leadMinutes (s : State) (z : Nat) : F64 :=
  let x := toF64 (zoneTemp s z)
  let wh := toF64 (heatSet s z 4)
  let wc := toF64 (coolSet s z 4)
  let lmax := f64 (getN s (0x2820 + z) 0x17)
  let cap (v : F64) : F64 := if dlt lmax v then lmax else v
  if dlt x wh then cap (ddiv (dmul (f64 60) (dsub wh x)) (toF64 (getF s (0x2820 + z) 0x18)))
  else if dlt wc x then cap (ddiv (dmul (f64 60) (dsub x wc)) (toF64 (getF s (0x2820 + z) 0x19)))
  else f64 0

/-- The next instant at which the output of the zone's program becomes Comfort (R265); a program that gives no output, disabled or
without trusted time, has none (R395). -/
def comfortStart (s : State) (z : Nat) : Option Nat :=
  let p := getN s (0x2820 + z) 0x01
  if p < 64 && getB s (0x2880 + p) 0x01 && timeTrusted s then becomes s p (f32 4) else none

/-- The scheduled mode, its reason, and whether the schedule is unavailable (R262). -/
def scheduledMode (s : State) (z : Nat) : Nat × Nat × Bool :=
  let p := getN s (0x2820 + z) 0x01
  let dflt := getN s (0x2820 + z) 0x02
  if 63 < p then (dflt, 6, false)
  else
    let out := programNow s p
    if fIsNaN out then (dflt, 7, true)
    else match wholeF out with
      | some m => if m ≤ 5 then (m, 6, false) else ((zoneAt s z).scheduled, 6, false)
      | none => ((zoneAt s z).scheduled, 6, false)

/-- Optimum start at this evaluation (R265): whether it is active, with its tc. -/
def optimumNow (s : State) (z sched : Nat) (tc : Option Nat) : Option Nat :=
  if !getB s (0x2820 + z) 0x16 || fIsNaN (zoneTemp s z) || sched == 4 then none
  else match (zoneAt s z).optimum with
    | some t => if devTime s ≤ t then some t else none
    | none => match tc with
      | some t => if dle (dsub (f64 t) (dmul (leadMinutes s z) (f64 60000))) (f64 (devTime s)) then some t else none
      | none => none

/-- The effective mode and its reason (R262). -/
def effective (s : State) (z : Nat) (sched reason : Nat) (opt : Bool) : Nat × Nat :=
  let req := getN s (0x2800 + z) 0x02
  let act := getN s (0x2820 + z) 0x14
  let occ := getB s (0x2800 + z) 0x06
  if !zoneOn s z then (0, 0)
  else if zoneTripped s z then (getN s (0x2820 + z) 0x1C, 1)
  else if (zoneAt s z).boostEnd.isSome then (5, 3)
  else if req != 0xFF then (req, 2)
  else if opt then (4, 4)
  else if decide (1 ≤ act) && sched == 4 && !occ then (3, 5)
  else if act == 2 && (sched == 2 || sched == 3) && occ then (4, 5)
  else (sched, reason)

/-- The rate after a measurement (R266; log 65). -/
def learnedRate (old w : F32) (diff : F64) (ms : Nat) : F32 :=
  let rho := toF64 old
  let m := ddiv (dabs diff) (ddiv (f64 ms) (f64 3600000))
  fclamp (toF32 (dadd rho (dmul (toF64 w) (dsub m rho)))) (f32 1 10) (f32 20)

/-- Rate learning at an evaluation that gives mode m with a reason (R266). The new rate is an audited write of the device. -/
def learnRate (s : State) (z m reason old : Nat) : State :=
  let x := zoneTemp s z
  let wh := heatSet s z 4
  let wc := coolSet s z 4
  match (zoneAt s z).rate with
  | none =>
    if m = 4 ∧ old ≠ 4 ∧ (reason = 4 ∨ reason = 6) ∧ timeTrusted s = true ∧ flt (f32 0) (getF s (0x2820 + z) 0x1A) = true then
      if fle (f32 1) (fsub wh x) then updZone s z fun y => { y with rate := some ⟨x, s.clock.tick, false⟩ }
      else if fle (f32 1) (fsub x wc) then updZone s z fun y => { y with rate := some ⟨x, s.clock.tick, true⟩ }
      else s
    else s
  | some r =>
    let ms := s.clock.tick - r.tick
    if m ≠ 4 ∨ 120000 * getN s (0x2820 + z) 0x17 < ms ∨ timeTrusted s = false then updZone s z fun y => { y with rate := none }
    else
      let there := if r.cooling then fle (fsub x (f32 2 10)) wc else fle wh (fadd x (f32 2 10))
      if there then
        let sub := if r.cooling then 0x19 else 0x18
        let v := learnedRate (getF s (0x2820 + z) sub) (getF s (0x2820 + z) 0x1A) (dsub (toF64 x) (toF64 r.temp)) ms
        let s1 := updZone s z fun y => { y with rate := none }
        let s2 := appendAudit s1 .device 2 (0x2820 + z) sub 0 (leBytes 4 v.toNat)
        putF s2 (0x2820 + z) sub v
      else s

/-- The setpoints, mode and status that an evaluation shows (R261, R262, R275). -/
def showZone (s : State) (z m reason : Nat) (tc : Option Nat) (unavailable tempBad : Bool) : State :=
  let i := 0x2800 + z
  let s1 := setN (setN s i 0x04 m) i 0x05 reason
  let s2 := setF (setF s1 i 0x08 (if m = 0 then fneg offValue else heatSet s z m)) i 0x09 (if m = 0 then offValue else coolSet s z m)
  let s3 := setN (setF s2 i 0x07 (zoneTemp s z)) i 0x0E (tc.getD 0)
  let x := zoneAt s z
  let keep := getN s i 0x0A
  setN s3 i 0x0A (bitVal (zoneOn s z) 0 + bitVal (getB s i 0x06) 1 + bitVal (getN s i 0x02 != 0xFF) 2 + bitVal x.boostEnd.isSome 3
    + bitVal x.optimum.isSome 4 + bitVal (zoneTripped s z) 5 + bitVal (keep.testBit 6) 6 + bitVal tempBad 7
    + bitVal unavailable 8 + bitVal x.rate.isSome 9)

/-- One evaluation of zone z (R262 to R266; log 65). -/
def evaluateZone (s : State) (z : Nat) : State :=
  let s0 := if requestExpired s z then requestOver s z else s
  let (sched, reason, unavailable) := scheduledMode s0 z
  let tc := comfortStart s0 z
  let opt := optimumNow s0 z sched tc
  let tempBad := fIsNaN (zoneTemp s0 z)
  let was := (zoneAt s0 z).optimum
  let s1 := updZone s0 z fun x => { x with scheduled := sched, optimum := opt }
  let s2 := if opt.isSome && was.isNone then setN s1 (0x2800 + z) 0x0D (devTime s) else if opt.isNone then setN s1 (0x2800 + z) 0x0D 0 else s1
  let s3 := judge (judge s2 (0x7080 + z) unavailable) (0x7020 + z) tempBad
  let (m, why) := effective s3 z sched reason opt.isSome
  let s4 := learnRate s3 z m why (getN s (0x2800 + z) 0x04)
  showZone s4 z m why tc unavailable tempBad

/-- ZONE_EVALUATION (R261 to R267): an enabled zone is evaluated at each whole second of device time. -/
def execZoneEvaluation (z : Nat) (s : State) : Out :=
  let sec := devTime s / 1000
  let ok := isUp s && decide (z < 32) && zoneOn s z && (zoneAt s z).lastSecond != some sec
  doneIf ok s (evaluateZone (updZone s z fun x => { x with lastSecond := some sec }) z)

/-- Enable of zone z is cleared: the zone acts as Off at once (R261), and the causes of its conditions are absent (R277;
log 99). A boost runs on until its end (R263). -/
def zoneDisabled (s : State) (z : Nat) : State :=
  let s1 := causeGone (causeGone (causeGone (updZone s z fun x => { zoneRest with boostEnd := x.boostEnd }) (0x7020 + z)) (0x7040 + z)) (0x7080 + z)
  showZone (setBit (setN (setN s1 (0x2800 + z) 0x06 0) (0x2800 + z) 0x0D 0) (0x2800 + z) 0x0A 6 false) z 0 0 none false false

end Sys2Proof.Machine
end

