-- ==== Sys2Proof/Machine/Trust.lean ====
section
/-! DEFINITION. The Kiln: seals, signing, attestation, the TRNG (R282 to R296, R302 to R307); tamper inputs (R311 to R313);
firmware images, update, activation and confirmation (R314 to R323). -/

namespace Sys2Proof.Machine

/-! ## Queue (R289 to R293) -/

/-- Order in which the Kiln takes kinds (R289): event, billing, daily, attestation, on-demand. -/
def kindRank (k : Nat) : Nat := match k with | 2 => 0 | 1 => 1 | 0 => 2 | 4 => 3 | _ => 4

/-- A request is being signed, waits for its retry, or is held for its commit. -/
def SealReq.busy (r : SealReq) : Bool := r.phase != .queued

/-- The order of a request: one whose signing was interrupted is signed again first, with the sequence it had (R296), then the kinds
of R289. -/
def SealReq.rank (r : SealReq) : Nat := if r.again then 0 else 1 + kindRank r.kind

/-- The place in the list of the next request to sign, among those that hold a place of the queue (R289, R296). -/
def nextRequest (q : List SealReq) : Option Nat :=
  ((List.range q.length).foldl (fun (a : Option (Nat × Nat)) i =>
    match q[i]?, a with
    | some r, none => if r.placed then some (i, r.rank) else none
    | some r, some (_, b) => if r.placed && decide (r.rank < b) then some (i, r.rank) else a
    | none, _ => a) none).map (·.1)

/-- The request that is being signed, retried or held: its place. -/
def busyPlace (q : List SealReq) : Option Nat := (List.range q.length).find? fun i => match q[i]? with | some r => r.busy | none => false

/-- The request at a place. -/
def requestAt (q : List SealReq) (i : Nat) : SealReq := (q[i]?).getD (sealReq 0 0 0 none)

/-- On-demand and attestation requests find no place (R291, R293). -/
def noSharedPlace (s : State) : Bool := decide (4 ≤ sharedPlaces s) || decide (5 ≤ contenders s.kiln.queue)

/-- The abort of an on-demand request (R291, R302 leaves it queued): six in an hour, four shared places held, no free place. -/
def onDemandRefused (s : State) : Option Nat :=
  if 6 ≤ (s.kiln.onDemand.filter fun t => decide (s.clock.tick < t + 3600000)).length then some 0x0502
  else if noSharedPlace s then some 0x0501
  else none

/-- An on-demand request is queued and kept (R286, R291, R292). -/
def onDemandSeal (s : State) : State :=
  let q := s.kiln.queue ++ [sealReq 3 0 (devTime s) none]
  let s1 := writeNow (setQueue s q) (.record recKept (keptRecord q))
  { s1 with kiln := { s1.kiln with onDemand := s.clock.tick :: s1.kiln.onDemand.filter fun t => decide (s.clock.tick < t + 3600000) } }

/-- The abort of a challenge of the right length (R306; log 91). -/
def challengeRefused (s : State) (who : Requester) : Option Nat :=
  if attestState s who ≠ 0 then some 0x0403
  else if noSharedPlace s then some 0x0501
  else if s.kiln.keyFault then some 0x0801
  else none

/-- A challenge is queued for its requester (R306). -/
def challenge (s : State) (who : Requester) (v : Bytes) : State :=
  setQueue s (s.kiln.queue ++ [{ sealReq 4 0 (devTime s) none with challenge := v, who := who }])

/-! ## The header (R284, R287) -/

/-- First record, and whether records were lost before it (R287). -/
def firstRecord (s : State) (kind : Nat) : Nat × Bool :=
  if recordCount s = 0 then (0, false)
  else if kind = 4 then (oldestRecord s, false)
  else
    let p := match sealedLast s with | none => 0 | some l => l + 1
    if p < oldestRecord s then (oldestRecord s, true) else (p, false)

/-- Last record of a request: the bound one, or the newest (R287). -/
def lastRecord (s : State) (r : SealReq) : Nat := if recordCount s = 0 then noSeq else r.bound.getD (recordCount s - 1)

/-- The hash of a last record (R287). One that the ring has replaced meanwhile is known from the record after it, while that is held;
later the spec gives no hash (log 2). -/
def headOf (s : State) (last : Nat) : Bytes :=
  if recordCount s = 0 then List.replicate 32 0
  else if last + 1 = recordCount s then chainHead s
  else if recordHeld s last then sha256 (recordBytes s last)
  else if recordHeld s (last + 1) then ((recordBytes s (last + 1)).drop 48).take 32
  else bytesOf (Config.lostHead last) 32

/-- SHA-256 of the header of the stored seal with a sequence less 1; all 0x00 for sequence 0 (R284). A slot that fails its check
counts as empty (R296), and the spec gives no link then (log 2). -/
def linkOf (s : State) (seq : Nat) : Bytes :=
  if seq = 0 then List.replicate 32 0
  else match (sealOf s (seq - 1)).filter (·.valid) with
    | some m => m.digest
    | none => bytesOf (Config.lostLink seq) 32

/-- Seal flags at signing start (R284). -/
def sealFlags (s : State) (r : SealReq) : Nat :=
  let st := nodeStatus s
  bitVal (st.testBit 0) 0 + bitVal (st.testBit 1) 1 + bitVal (st.testBit 9) 2 + bitVal (st.testBit 10) 3 + bitVal (st.testBit 7) 4
    + bitVal (st.testBit 4) 5 + bitVal (s.kiln.recordsLost || (firstRecord s r.kind).2) 6 + bitVal r.again 7 + bitVal (st.testBit 5) 8
    + bitVal (r.kind == 1 && s.kiln.billingOmitted) 9

/-- The 256-byte seal header of a request at signing start (R284). -/
def sealHeader (s : State) (r : SealReq) : Bytes :=
  let seq := if r.kind = 4 then noSeq else getN s 0x2B10 0x01
  let last := lastRecord s r
  leBytes 4 0x31484A54 ++ leBytes 2 1 ++ leBytes 1 r.kind ++ leBytes 1 (timeQuality s) ++ leBytes 16 Config.serial.toNat
    ++ leBytes 8 seq ++ leBytes 4 (getN s 0x2180 0x08) ++ leBytes 2 (if r.kind = 2 then r.reasons else 0) ++ leBytes 2 (sealFlags s r)
    ++ leBytes 8 r.time ++ leBytes 8 (firstRecord s r.kind).1 ++ leBytes 8 last ++ headOf s last ++ leBytes 4 (auditSeq s)
    ++ leBytes 2 (slotInfo s s.power.runningSlot).security ++ leBytes 2 0 ++ s.audit.head
    ++ (slotInfo s s.power.runningSlot).digest ++ configDigest s
    ++ (if r.kind = 4 then r.challenge else linkOf s seq) ++ leBytes 4 (getN s 0x2F10 0x03) ++ leBytes 4 (getN s 0x2C30 0x0A)
    ++ leBytes 4 (getN s 0x2900 0x0C) ++ leBytes 4 (getN s 0x2F10 0x01 / 3600) ++ leBytes 8 0

/-- Change the request at a place. -/
def updRequest (s : State) (i : Nat) (f : SealReq → SealReq) : State :=
  { s with kiln := { s.kiln with queue := s.kiln.queue.modify i f } }

/-- Begin an attempt: the signature is made with 16 fresh random bytes (R294, log 2; log 9, log 68). -/
def beginSigning (s : State) (i attempt : Nat) (header : Bytes) : State :=
  let (a, s1) := freshFree s
  let (b, s2) := freshFree s1
  let rand := BitVec.ofNat 128 (a.toNat + 2 ^ 64 * b.toNat)
  updRequest s2 i fun r => { r with
    phase := .signing attempt, header := header, sig := slhSign deviceKey (signInput header) (leBytes 16 rand.toNat), started := s.clock.tick }

/-- The Kiln may start a signing (R302, R303). -/
def canSign (s : State) : Bool := isUp s && s.power.entry.isNone && !s.kiln.keyFault && s.kiln.trngHalted.isNone

/-- SIGNING_START (R284, R289, R294, R295): with none in progress, the next request of the queue is taken; its header is filled
and the Kiln signs. -/
def execSigningStart (s : State) : Out :=
  match busyPlace s.kiln.queue, nextRequest s.kiln.queue with
  | none, some i =>
    doneIf (canSign s) s (
      let r := requestAt s.kiln.queue i
      let s1 := beginSigning s i 1 (sealHeader s r)
      let s2 := setQueue s1 s1.kiln.queue
      setN s2 0x2B20 0x03 r.kind)
  | _, _ => .next s

/-! ## Committing a seal (R282, R283, R295) -/

/-- The latest stored seal of a kind of slot: pinned for billing seals, rolling for the others. -/
def latestSlot (s : State) (pinned : Bool) : Option SealMeta :=
  (s.kiln.seals.filter fun m => decide (m.slot < 320) == pinned).foldl (fun (a : Option SealMeta) m => match a with
    | none => some m
    | some b => if b.seq < m.seq then some m else some b) none

/-- The slot of the next seal (R283): billing seals take the pinned slots in turn, other stored seals the rolling slots. -/
def nextSlot (s : State) (billing : Bool) : Nat :=
  match latestSlot s billing with
  | some m => if billing then (m.slot + 1) % 320 else 320 + (m.slot - 319) % 448
  | none => if billing then 0 else 320

/-- The 8 192 bytes of a slot (R282). -/
def slotImage (header sig : Bytes) : Bytes :=
  let b := header ++ sig ++ leBytes 4 2
  b ++ leBytes 4 (crc32c b).toNat ++ List.replicate 72 0

/-- SLOT_COMMIT (R283, R288, R292, R295, R413): in one journalled operation the slot, the next sequence, the removal of the kept
request and the signature count; then 0x8001, and what a stored seal clears. -/
def commitSeal (s : State) (i : Nat) : State :=
  let r := requestAt s.kiln.queue i
  let seq := getN s 0x2B10 0x01
  let slot := nextSlot s (r.kind == 1)
  let q := s.kiln.queue.eraseIdx i
  let used := getN s 0x2B10 0x03
  let last := fieldN r.header 56 8
  let flag := (fieldN r.header 38 2).testBit
  let m : SealMeta := { slot := slot, seq := seq, kind := r.kind, last := if last = noSeq then none else some last,
                        auditSeq := fieldN r.header 96 4, digest := sha256 r.header, epoch := fieldN r.header 32 4,
                        reasons := r.reasons, header := r.header, valid := true }
  let pins := if r.kind = 1 then [entryImage 0x2B10 0x03 (leBytes 2 (min 320 (used + 1)))] else []
  let s1 := journalOp s ([⟨.kiln, .bytes (sealAddr slot) (slotImage r.header r.sig)⟩, entryImage 0x2B10 0x01 (leBytes 8 (seq + 1)),
    keptImage q, entryImage 0x2F10 0x06 (leBytes 4 (getN s 0x2F10 0x06 + 1))] ++ pins)
  let s2 := setN (setN s1 0x2B10 0x01 (seq + 1)) 0x2B10 0x03 (if r.kind = 1 then min 320 (used + 1) else used)
  let s3 := { s2 with kiln := { s2.kiln with seals := m :: s2.kiln.seals.filter (·.slot != slot), recordsLost := s2.kiln.recordsLost && !flag 6,
                                             billingOmitted := s2.kiln.billingOmitted && !(r.kind == 1 && flag 9) } }
  let s4 := setN (addN (setN (setQueue s3 q) 0x2B20 0x03 0xFF) 0x2B10 0x0D 1) 0x2F10 0x06 (getN s 0x2F10 0x06 + 1)
  let s5 := if (fieldN r.header 38 2).testBit 2 then
      writeNow { s4 with power := { s4.power with tamperMark := false } } (.record recMarks [0]) else s4
  let s6 := if r.kind = 1 ∧ 320 ≤ used then raise s5 0x8020 else s5
  let s7 := dropCond (dropCond (dropCond (raise s6 0x8001) 0x8030) 0x9020) 0x8040
  if r.kind = 1 then dropCond s7 0x8050 else s7

/-- A signed attestation becomes the statement of its requester (R307). -/
def deliverStatement (s : State) (i : Nat) : State :=
  let r := requestAt s.kiln.queue i
  let st : Statement := ⟨r.who, r.header ++ r.sig, s.clock.tick⟩
  let s1 := { s with kiln := { s.kiln with statements := st :: s.kiln.statements.filter (·.who != r.who) } }
  saveN (setN (setQueue s1 (s.kiln.queue.eraseIdx i)) 0x2B20 0x03 0xFF) 0x2F10 0x06 (getN s 0x2F10 0x06 + 1)

/-- SIGNING_COMPLETE (R295): the signature is complete and self-verified, `good` or not. A good one is committed, held during a
power-fail warning, or delivered; a first failure signs again, a second one keeps the request for a retry (log 9). -/
def execSigningComplete (good : Bool) (s : State) : Out :=
  match busyPlace s.kiln.queue with
  | none => .next s
  | some i =>
    let r := requestAt s.kiln.queue i
    match r.phase with
    | .signing n =>
      doneIf (isUp s && s.power.entry.isNone) s (
        let ms := s.clock.tick - r.started
        let s0 := setN (setN s 0x2B20 0x06 ms) 0x2B20 0x07 (max ms (getN s 0x2B20 0x07))
        if good then
          if r.kind = 4 then deliverStatement s0 i
          else if s.power.warning.isSome then updRequest s0 i fun r => { r with phase := .held }
          else commitSeal s0 i
        else
          let s1 := putN s0 0x2B20 0x09 (getN s 0x2B20 0x09 + 1)
          if n = 1 then
            (if s.kiln.trngHalted.isNone then beginSigning s1 i 2 r.header else updRequest s1 i fun r => { r with phase := .failedOnce })
          else raiseHeld (updRequest s1 i fun r => { r with phase := .retry s.clock.tick }) 0x8040)
    | _ => .next s

/-- SIGNING_RETRY (R295): 60 s after a second failure the request at the head is signed again (log 68). -/
def execSigningRetry (s : State) : Out :=
  match busyPlace s.kiln.queue with
  | none => .next s
  | some i =>
    let r := requestAt s.kiln.queue i
    match r.phase with
    | .retry t => doneIf (canSign s && decide (t + 60000 ≤ s.clock.tick)) s (beginSigning s i 1 (sealHeader s r))
    | _ => .next s

/-- A held seal is committed when the Hamper takes all writes again (R295). -/
def commitHeld (s : State) : State :=
  match busyPlace s.kiln.queue with
  | some i => if (requestAt s.kiln.queue i).phase = .held then commitSeal s i else s
  | none => s

/-! ## TRNG, statements (R303, R307) -/

/-- TRNG_HEALTH_FAILURE (R303): the health tests fail; no signing starts. -/
def execTrngHealthFailure (s : State) : Out :=
  doneIf (isUp s) s (raiseHeld { s with kiln := { s.kiln with trngHalted := some s.clock.tick } } 0x9001)

/-- The second attempt of a request that waited for the TRNG begins (R295, R303). -/
def resumeSecond (s : State) : State :=
  match busyPlace s.kiln.queue with
  | some i => if (requestAt s.kiln.queue i).phase = .failedOnce then beginSigning s i 2 (requestAt s.kiln.queue i).header else s
  | none => s

/-- TRNG_RETEST (R303): every 60 s the start-up tests run again; signing resumes when they pass. -/
def execTrngRetest (pass : Bool) (s : State) : Out :=
  match s.kiln.trngHalted with
  | none => .next s
  | some t =>
    doneIf (isUp s && decide (t + 60000 ≤ s.clock.tick)) s (
      if pass then resumeSecond (causeGone { s with kiln := { s.kiln with trngHalted := none } } 0x9001)
      else { s with kiln := { s.kiln with trngHalted := some s.clock.tick } })

/-- A statement is given up: its requester has read it whole (log 91). -/
def dropStatement (s : State) (who : Requester) : State :=
  { s with kiln := { s.kiln with statements := s.kiln.statements.filter (·.who != who) } }

/-- STATEMENT_EXPIRY (R307): 60 s after it became ready a statement is given up. -/
def execStatementExpiry (who : Requester) (s : State) : Out :=
  let ok := isUp s && s.kiln.statements.any fun t => t.who == who && decide (t.ready + 60000 ≤ s.clock.tick)
  doneIf ok s (dropStatement s who)

/-! ## Tamper inputs (R311, R312) -/

/-- Tamper input i. -/
def tamperAt (s : State) (i : Nat) : TamperIn := vAt s.thermos.tamper i tamperRest
/-- Change tamper input i. -/
def updTamper (s : State) (i : Nat) (f : TamperIn → TamperIn) : State :=
  { s with thermos := { s.thermos with tamper := vUpd s.thermos.tamper i f } }

/-- RTC time in milliseconds. -/
def rtcMs (s : State) : Nat := 1000 * s.thermos.secs + s.thermos.frac * 1000 / 32768

/-- The Thermos domain works: on main or backup power. -/
def thermosLives (s : State) : Bool := s.power.phase != .off

/-- TAMPER_REARM (R311): two consecutive samples stood at the other level. -/
def execTamperRearm (i : Nat) (s : State) : Out :=
  doneIf (thermosLives s && decide (i < 2) && (tamperAt s i).active) s (updTamper s i fun t => { t with active := false })

/-- Log n activations as audit kind 4 with a subindex and the time of the first (R312, R313). -/
def logTamper (s : State) (sub n first : Nat) : State :=
  let s1 := appendAudit s .device 4 n sub 0 (leBytes 8 first)
  let s2 := putN s1 0x2C30 0x0A (getN s 0x2C30 0x0A + n)
  let s3 := writeNow { s2 with power := { s2.power with tamperMark := true } } (.record recMarks [1])
  raise (requestEvent (recEvent s3 10) 2) 0x9010

/-- Log the activations held for input i, if any. -/
def logInput (s : State) (i : Nat) : State :=
  let t := tamperAt s i
  if t.count = 0 then s
  else
    let s1 := putN (putN s (0x2C30) (0x06 + i) (getN s 0x2C30 (0x06 + i) + t.count)) 0x2C30 (0x08 + i) t.last
    logTamper (updTamper s1 i fun t => { t with first := none, count := 0 }) i t.count (t.first.getD 0)

/-- TAMPER_LOG (R312): while main power is present the activations held for an input are logged. -/
def execTamperLog (i : Nat) (s : State) : Out :=
  doneIf (isUp s && hamperFree s && decide (i < 2) && decide (0 < (tamperAt s i).count)) s (logInput s i)

/-- A write of a tamper setting reaches the Thermos domain (R311; log 69). -/
def tamperSettings (s : State) : State :=
  thermosWrite ([0, 1].foldl (fun a i => updTamper a i fun t => { t with
    enable := getB a 0x2C30 (0x01 + 2 * i), level := getN a 0x2C30 (0x02 + 2 * i) == 1 }) s) id

/-! ## Firmware (R314 to R322) -/

/-- Hamper address of firmware slot n. -/
def imageAddr (n : Nat) : Nat := 0x400000 * n
/-- Store a slot's state. -/
def putSlot (s : State) (n : Nat) (i : SlotInfo) : State := applyTarget s (.record (recSlot n) (slotBytes i))
/-- The image that stores a slot's state. -/
def slotStateImage (n : Nat) (i : SlotInfo) : Image := recordImage (recSlot n) (slotBytes i)

/-- The image bytes in slot n: those put in at manufacture, or those loaded (R318). -/
def firmwareBytes (s : State) (n : Nat) : Bytes :=
  if (slotInfo s n).factory then factoryImage else memReads s.stor.mem (imageAddr n) (slotInfo s n).length

/-- The pages of the image in slot n are read for its verification (R404). -/
def readImage (s : State) (n : Nat) : State := (readRun s (imageAddr n / 128) (((slotInfo s n).length + 127) / 128)).2

/-- R316 from step 1 or from step 2 on the image of slot n, its pages read: the code of the first failing check; an uncorrectable page
fails it (R404; log 9). -/
def checkImage (s : State) (n : Nat) (digestToo : Bool) : Option Nat :=
  let i := slotInfo s n
  let b := firmwareBytes s n
  let h := b.take 256
  let p := fieldN h 16 4
  let payload := (b.drop 256).take p
  let sig := (b.drop (256 + p)).take 7856
  let key := getBytes s 0x2C00 0x04
  if s.stor.bad.any (fun x => pageIn (imageAddr n / 128) ((i.length + 127) / 128) x) then some 0x0601
  else if digestToo ∧ sha256 b ≠ i.digest then some 0x0601
  else if fieldN h 0 4 ≠ 0x31464A54 ∨ fieldN h 20 4 ≠ i.length ∨ i.length ≠ 256 + p + 7856 then some 0x0601
  else if fieldN h 4 2 ≠ 1 then some 0x0602
  else if (h.drop 64).take 32 ≠ sha256 key ∨ slhVerify key (signInput h) sig = false then some 0x0601
  else if (h.drop 32).take 32 ≠ sha256 payload then some 0x0601
  else if Config.hardwareIssue.toNat / 256 < fieldN h 14 2 then some 0x0602
  else if fieldN h 12 2 < s.kiln.counter ∨ 256 < fieldN h 12 2 then some 0x0602
  else none

/-- The header fields a verified image shows. -/
def verified (s : State) (n : Nat) (i : SlotInfo) : SlotInfo :=
  let h := memReads s.stor.mem (imageAddr n) 256
  { i with state := 2, version := fieldN h 8 4, security := fieldN h 12 2, dictionary := fieldN h 24 2 }

/-- The abort of an update request (R317) in the order of R44, and whether it is a resumption (log 34). -/
def updateRefused (s : State) (len : Nat) (digest : Bytes) : Option Nat × Bool :=
  let t := slotInfo s (targetSlot s)
  let busy := t.state == 1 || t.state == 2
  if busy && t.length == len && t.digest == digest then (none, true)
  else if len ≤ 8112 then (some 0x0302, false)
  else if (slotInfo s s.power.runningSlot).state = 3 then (some 0x0401, false)
  else if busy then (some 0x0403, false)
  else if 4177920 < len then (some 0x0502, false)
  else (none, false)

/-- An accepted update request (R317): unless it resumes, the target is emptied and receives. -/
def updateRequest (s : State) (len : Nat) (digest : Bytes) : State :=
  if (updateRefused s len digest).2 then s
  else journalOp s [slotStateImage (targetSlot s) ⟨1, len, digest, 0, 0, 0, 0, 0, false⟩]

/-- The abort of a block write (R318; log 34). -/
def blockRefused (s : State) (v : Bytes) : Option Nat :=
  let t := slotInfo s (targetSlot s)
  let off := fieldN v 0 4
  if t.state ≠ 1 then some 0x0401
  else if off ≠ t.acked then some 0x0702
  else if v.length - 4 ≠ min 65536 (t.length - off) then some 0x0301
  else none

/-- A block whose pages are written is acknowledged (R318), and with the last one the image is checked; the code of a failed check. -/
def blockWritten (s : State) (v : Bytes) : Option Nat × State :=
  let n := targetSlot s
  let t := slotInfo s n
  let t1 := { t with acked := t.acked + (v.length - 4) }
  let s2 := putSlot s n t1
  if t1.acked < t.length then (none, s2)
  else
    let s3 := readImage s2 n
    match checkImage s3 n true with
    | none => (none, putSlot s3 n (verified s3 n t1))
    | some c => (some c, putSlot s3 n { t1 with state := 5 })

/-- An accepted block (R318): written to the slot, and then acknowledged; with a page that cannot be programmed it aborts with 0x0802 (R405). -/
def writeBlock (s : State) (v : Bytes) : Option Nat × State :=
  match writePlaced (drainTo s Writer.core.cls) (.bytes (imageAddr (targetSlot s) + fieldN v 0 4) (v.drop 4)) with
  | (true, s1) => blockWritten s1 v
  | (false, s1) => (some 0x0802, s1)

/-- A write of 1 to cancel (R318). -/
def cancelUpdate (s : State) : State :=
  let n := targetSlot s
  putSlot s n { slotInfo s n with state := 0, version := 0, security := 0, dictionary := 0 }

/-- A write of 1 to activate (R319): trial state, attempts, preferred slot, audit kind 6, and the reset 100 ms later. -/
def activate (s : State) : State :=
  let n := targetSlot s
  let t := { slotInfo s n with state := 3, attempts := getN s 0x2D20 0x01 }
  let s1 := journalAudit s [slotStateImage n t, recordImage recPreferred [byte n]] 6 0x2D10 n (t.digest.take 8)
  { s1 with update := { s1.update with resetAt := some (s.clock.tick + 100) } }

/-- Confirmation of the running slot (R322): state 4 and audit kind 7, the security counter with audit kind 9, the other slot
superseded where its version is below the counter; a fallback is over (R321). -/
def confirm (s : State) : State :=
  let n := s.power.runningSlot
  let t := { slotInfo s n with state := 4, attempts := 0 }
  let s1 := journalAudit s [slotStateImage n t] 7 0x2D10 n (t.digest.take 8)
  let s2 := if s.kiln.counter < t.security then
      appendAudit { s1 with kiln := { s1.kiln with counter := t.security } } .device 9 t.security 0 0 (leBytes 2 s.kiln.counter)
    else s1
  let o := slotInfo s2 (1 - n)
  let old := fieldN (firmwareBytes s2 (1 - n)) 12 2
  let s3 := if old < s2.kiln.counter ∧ 2 ≤ o.state then putSlot s2 (1 - n) { o with state := 6 } else s2
  dropCond { s3 with power := { s3.power with fallback := false } } 0x9031

/-- CONFIRMATION_TIMEOUT (R322): under the automatic policy the trial image has run for the confirmation time. -/
def execConfirmationTimeout (s : State) : Out :=
  let ok := isUp s && hamperFree s && (slotInfo s s.power.runningSlot).state == 3 && getN s 0x2D20 0x02 == 0
    && decide (s.update.runSince + 1000 * getN s 0x2D20 0x05 ≤ s.clock.tick)
  doneIf ok s (confirm s)

/-- A write of 1 to acknowledge fallback (R321). -/
def acknowledgeFallback (s : State) : State := dropCond { s with power := { s.power with fallback := false } } 0x9031

end Sys2Proof.Machine
end

