-- ==== Sys2Proof/Machine/Session.lean ====
section
/-! DEFINITION. Calibration sessions: CAL_N, opening, closing, time limit, epochs, captures' start (R170 to R189). -/

namespace Sys2Proof.Machine

/-- Write several entries in one journalled operation with further images, and publish them (R413). -/
def journalPut (s : State) (es : List (Nat × Nat × Bytes)) (extra : List Image) : State :=
  es.foldl (fun a e => setBytes a e.1 e.2.1 e.2.2) (journalOp s (es.map (fun e => entryImage e.1 e.2.1 e.2.2) ++ extra))

/-- CAL_N_CHANGE (R170): the pin has held a new level for 10 ms; `on` says that it is asserted (low). -/
def execCalNChange (on : Bool) (s : State) : Out := doneIf (isUp s) s { s with cal := { s.cal with calN := on } }

/-- The conditions that clear at the next start of a capture or opening of a session (R189). -/
def clearCalConditions (s : State) : State :=
  (List.range 8).foldl (fun a k => dropCond (dropCond a (0x4010 + k)) (0x4020 + k)) (dropCond (dropCond s 0x4002) 0x4003)

/-- The abort of a write of `v` to 2180.01 by a requester (R170 to R172, R174). -/
def sessionRefused (s : State) (who : Requester) (v : Nat) : Option Nat :=
  match s.cal.owner with
  | some o => if o ≠ who then some 0x0401 else if v = 1 then some 0x0403 else none
  | none =>
    if v = 0 ∨ s.cal.calN = false then some 0x0401
    else if getN s 0x2180 0x08 = 0xFFFFFFFF then some 0x0502 else none

/-- A session opens (R170, R174, R186): the latch, the owner, and every meter counts error time. -/
def sessionOpen (s : State) (who : Requester) : State :=
  let s1 := { s with cal := { s.cal with owner := some who, openedTick := s.clock.tick, opening := [], points := [] } }
  let s2 := setN (setN (setN s1 0x2180 0x04 (requesterWord s who)) 0x2180 0x05 (devTime s)) 0x2180 0x06 0
  let s3 := putN s2 0x2180 0x07 (getN s 0x2180 0x07 + 1)
  let s4 := { s3 with meters := s3.meters.map fun x => { x with session := true } }
  raiseHeld (clearCalConditions (recFlag s4 5)) 0x4001

/-! ## Closing (R172, R182, R183, R185) -/

/-- The keys of the coefficient entries that differ from their opening values. -/
def changedKeys (s : State) : List Nat :=
  (s.cal.opening.filter fun e => decide (getBytes s (e.1 / 256) (e.1 % 256) ≠ e.2)).map (·.1)

/-- Bits of the converters (0 to 7) and lanes (8 to 15) that own the given keys. -/
def ownerBits (keys : List Nat) : Nat :=
  (List.range 16).foldl (fun a b => a + bitVal (keys.any fun k => dirtyBit (k / 256) == b) b) 0

/-- Count, time and epoch of every owner in a bit set (R182 step 3). -/
def ownerEntries (s : State) (bits epoch t : Nat) : List (Nat × Nat × Bytes) :=
  ((List.range 16).map fun b => if bits.testBit b then
    [(0x2190 + b, 0x01, leBytes 4 (getN s (0x2190 + b) 0x01 + 1)), (0x2190 + b, 0x02, leBytes 8 t), (0x2190 + b, 0x03, leBytes 4 epoch)]
    else []).flatten

/-- The entries of one point at closing (R185): reference applied and mean measured. -/
def pointEntries (p : CalPoint) : List (Nat × Nat × Bytes) :=
  let i := 0x2190 + p.port / 8
  let c := p.port % 8
  if p.kind = 0 then [(i, 0x20 + c, leBytes 8 (ofSigned 64 p.reference)), (i, 0x30 + c, leBytes 8 (ofSigned 64 p.mean))]
  else if p.kind = 1 then [(i, 0x28 + c, leBytes 8 (ofSigned 64 p.reference)), (i, 0x38 + c, leBytes 8 (ofSigned 64 p.mean))]
  else []

/-- The traceability values kept for the channels whose coefficients changed (R185). -/
def traceEntries (s : State) (keys : List Nat) : List (Nat × Nat × Bytes) :=
  ((s.cal.points.filter fun p => keys.any fun k =>
    k == keyOf (0x2190 + p.port / 8) (0x10 + p.port % 8) || k == keyOf (0x2190 + p.port / 8) (0x18 + p.port % 8)).map pointEntries).flatten

/-- A new metrology epoch for a set of owners (R182): one journalled operation that also clears the marker and counts the
calibration (R448), then the event seal with reason 0. -/
def newEpoch (s : State) (bits t : Nat) (more : List (Nat × Nat × Bytes)) : State :=
  let e := getN s 0x2180 0x08 + 1
  let s1 := journalPut s ([(0x2180, 0x08, leBytes 4 e), (0x2180, 0x09, leBytes 8 t),
      (0x2F10, 0x07, leBytes 4 (getN s 0x2F10 0x07 + 1))] ++ ownerEntries s bits e t ++ more)
    [recordImage recDirty (leBytes 2 0)]
  requestEvent (recFlag s1 0) 0

/-- A capture, waiting or running, is abandoned (R172): state 4, no condition; a running conversion ends and is discarded. -/
def abandonCapture (s : State) : State :=
  match s.cal.capture with
  | none => s
  | some c =>
    let s1 := setN { s with cal := { s.cal with capture := none } } 0x2181 0x07 4
    updConv s1 (c.port / 8) fun x => { x with calib := [] }

/-- A session closes with a reason (R161, R172, R182): the captures are abandoned, comparison with the opening values, the epoch, then the latch. -/
def sessionClose (s : State) (reason : Nat) : State :=
  let s0 := (List.range 8).foldl abandonZero (abandonCapture s)
  let t := devTime s
  let keys := changedKeys s0
  let s1 := if keys.isEmpty then
      (if dirtyBits s0 = 0 then s0 else writeNow s0 (.record recDirty (leBytes 2 0)))
    else newEpoch s0 (ownerBits keys) t (traceEntries s0 keys)
  let s2 := putN (putN s1 0x2180 0x0A reason) 0x2180 0x0B t
  let s3 := setN (setN { s2 with cal := { s2.cal with owner := none, opening := [], points := [] } } 0x2180 0x04 0) 0x2180 0x06 0
  dropCond s3 0x4001

/-- SESSION_TIMEOUT (R172, R173): 30 minutes after the opening, and not before a write that is being processed is answered. -/
def execSessionTimeout (s : State) : Out :=
  doneIf (isUp s && hamperFree s && !modePending s && s.cal.open_ && decide (s.cal.openedTick + 1800000 ≤ s.clock.tick)) s
    (raiseHeld (appendAudit (sessionClose s 2) .device 3 0x2180 0x01 0 [2]) 0x4002)

/-- A session left dirty is closed at start-up (R183). -/
def dirtyStart (s : State) : State :=
  let d := dirtyBits s
  if d = 0 then s
  else
    let t := devTime s
    let s1 := putN (putN (newEpoch s d t []) 0x2180 0x0A 3) 0x2180 0x0B t
    raiseHeld (appendAudit s1 .device 3 0x2180 0x01 0 [3]) 0x4003

/-- The epoch seal of start-up (R183): no stored event seal, or its epoch is lower than the present one. -/
def epochSeal (s : State) : State :=
  let e := getN s 0x2180 0x08
  let owed := match latestSeal s fun m => m.kind == 2 with | none => true | some m => decide (m.epoch < e)
  if 0 < e ∧ owed = true then requestEvent s 1 else s

/-! ## Starting a capture (R177) -/

/-- The state refusals of a write of 1 to 2181.06 (R177); none of them when it may start. -/
def captureRefused (s : State) : Option Nat :=
  let n := getN s 0x2181 0x01
  let k := n / 8
  let m := portMode s n
  if m = 0 ∨ 4 < m ∨ pairedOdd s n = true ∨ getB s (0x2108 + k) 0x0C = true ∨ settled s k = false
      ∨ (getN s 0x2181 0x02 = 1 ∧ calPoint s n 0 = none) then some 0x0401
  else if s.cal.capture.isSome then some 0x0403 else none

/-- A capture starts (R177, R178): state 1, and the first calibration conversion is requested. -/
def captureStart (s : State) : State :=
  let n := getN s 0x2181 0x01
  let c : Capture := { port := n, kind := getN s 0x2181 0x02, reference := getI s 0x2181 0x03, samples := getN s 0x2181 0x04,
                       spread := getN s 0x2181 0x05, passed := 0, kept := [], running := false }
  let s1 := setN (setN { clearCalConditions s with cal := { s.cal with capture := some c, captures := s.cal.captures + 1 } } 0x2181 0x07 1) 0x2181 0x08 0
  showConv (stageRequest s1 (n / 8) false (n % 8) s.clock.ref) (n / 8)

end Sys2Proof.Machine
end

