-- ==== Sys2Proof/Machine/Bus.lean ====
section
/-! DEFINITION. The building bus (R327 to R371): reception, transmission, errors, the Basket, trip frames, bridges, raw
mailboxes. -/

namespace Sys2Proof.Machine

/-! ## Identifier fields (R331, R332) -/

/-- Priority class of a 29-bit identifier. -/
def idClass (id : Nat) : Nat := id / 2 ^ 26 % 8
/-- Service of a 29-bit identifier. -/
def idService (id : Nat) : Nat := id / 2 ^ 22 % 16
/-- Destination node of a 29-bit identifier. -/
def idDst (id : Nat) : Nat := id / 2 ^ 15 % 128
/-- Source node of a 29-bit identifier. -/
def idSrc (id : Nat) : Nat := id / 2 ^ 8 % 128
/-- Transfer tag of a 29-bit identifier. -/
def idTag (id : Nat) : Nat := id % 256

/-- Service and class appear together in the table of R332. -/
def serviceClass (svc cls : Nat) : Bool :=
  match svc with
  | 0 => cls == 0
  | 1 | 5 => cls == 4 || cls == 6
  | 2 | 6 => cls == 2 || cls == 3 || cls == 5
  | 3 => cls == 1
  | 4 => cls == 7
  | _ => false

/-- The device processes a frame as one of a service (R332). -/
def isService (f : RxFrame) (svc : Nat) : Bool :=
  f.ext && f.fd && idService f.id == svc && serviceClass svc (idClass f.id)

/-! ## Self-test bookkeeping (R343, R344, R450) -/

/-- Change an entry of a bank of instants that is set while a test holds. -/
def sinceWhile (now : Nat) (on : Bool) (x : Option Nat) : Option Nat := if on then some (x.getD now) else none

/-- Follow how long each path has passed or failed self-test, and each pair's both paths have passed it. -/
def trackPaths (s : State) : State :=
  let now := s.clock.tick
  let s1 := (List.range 4).foldl (fun a p => updPath a p fun x => { x with passSince := sinceWhile now (passes s p) x.passSince }) s
  let judged (p : Nat) : Bool := isUp s && pathPowered s p
  let fs := (List.range 4).foldl (fun v p => vUpd v p (sinceWhile now (judged p && !passes s p))) s1.health.failSince
  let ps := (List.range 2).foldl (fun v i => vUpd v i (sinceWhile now (passes s (2 * i) && passes s (2 * i + 1)))) s1.health.passSince
  { s1 with health := { s1.health with failSince := fs, passSince := ps } }

/-- Self-diagnosis failure of path p (R343). -/
def pathFails (s : State) (p : Nat) : Bool :=
  let x := pathAt s p
  decide (3 ≤ x.echoErrors) || x.busOff || x.passiveTooLong || x.xcvr != 0 || x.lonely

/-- Follow the error-passive state after a change of the counters. -/
def judgePassive (s : State) (p : Nat) : State :=
  if errorPassive (pathAt s p) then updPath s p fun x => { x with passiveSince := some (x.passiveSince.getD s.clock.tick) }
  else causeGone (updPath s p fun x => { x with passiveSince := none, passiveTooLong := false }) (0xA020 + p)

/-! ## The Basket (R340 to R347) -/

/-- A frame is a raw frame addressed by path number (R363). -/
def rawByPath (f : Frame) : Bool := match f.kind with | .raw _ b => b | _ => false
/-- The state of a transmit mailbox whose frame is cancelled or removed. -/
def mailState (s : State) (f : Frame) (v : Nat) : State :=
  match f.kind with | .raw k _ => setN s (0x1410 + k) 0x05 v | _ => s

/-! ## What a path offers to arbitration (R334, R335) -/

/-- The element with the smallest key, the oldest among equals. -/
def lowestBy {α : Type} (key : α → Nat) (l : List α) : Option α :=
  l.foldl (fun a x => match a with | none => some x | some y => if key x < key y then some x else some y) none

/-- Arbitration order of an identifier: an 11-bit one before a 29-bit one with the same first 11 bits. -/
def arbitration (f : Frame) : Nat := if f.ext then 2 * f.id + 1 else f.id * 2 ^ 19

/-- Path p receives: the bus runs, the path is powered and not bus-off. -/
def rxOpen (s : State) (p : Nat) : Bool := islandsRun s && pathPowered s p && !(pathAt s p).busOff && decide (p < 4)

/-- Path p may send: the bus runs, it is powered, not bus-off, and its pair is not silent (R333). -/
def txOpen (s : State) (p : Nat) : Bool := rxOpen s p && !(pairAt s (p / 2)).silent

/-- The trip frames that were pending on a path at a reference count. -/
def tripsAt (x : PathSt) (sof : Nat) : List TripFrame :=
  ((x.left.filter fun g => decide (sof < g.2)).filterMap (·.1.getLeft?) ++ x.trips).filter fun t => decide (t.queued ≤ sof)
/-- A frame of a publication, the device's own or a forwarded one. -/
def isPublication (f : Frame) : Bool :=
  match f.kind with
  | .publication _ | .pubCopy _ => true
  | .forwarded => idService f.id == 6
  | _ => false

/-- At a reference count publications are not sent: Quiet was in force (R466). -/
def pubsHeld (s : State) (sof : Nat) : Bool := s.power.quiet && decide (s.power.quietAt ≤ sof)

/-- The frames of the transmit queue's 64 places that were pending on path p at a reference count and may be sent. -/
def framesAt (s : State) (x : PathSt) (sof : Nat) : List Frame :=
  ((x.left.filter fun g => decide (sof < g.2)).filterMap (·.1.getRight?) ++ x.queue.take 64).filter fun f =>
    decide (f.queued ≤ sof) && !(pubsHeld s sof && isPublication f)

/-- What path p offered to arbitration at a reference count since it last ended an attempt (R334, R335): the lowest trip frame,
else on the holder the frame aborted at the hand-over (R345), else the lowest queued frame. -/
def offerAt (s : State) (p sof : Nat) : Option (TripFrame ⊕ Frame) :=
  let x := pathAt s p
  if !txOpen s p then none
  else match lowestBy (fun f : TripFrame => f.src * 256 + f.tag) (tripsAt x sof) with
    | some t => some (.inl t)
    | none =>
      if (pairAt s (p / 2)).holder == some (p % 2) then
        match x.first with
        | some f => if (framesAt s x sof).contains f then some (.inr f) else (lowestBy arbitration (framesAt s x sof)).map .inr
        | none => (lowestBy arbitration (framesAt s x sof)).map .inr
      else none

/-- What path p offers to arbitration now. -/
def offer (s : State) (p : Nat) : Option (TripFrame ⊕ Frame) := offerAt s p s.clock.ref

/-! ## Hand-over, heartbeats, evaluation (R341 to R345) -/

/-- The frame of the transmit queue that path p has in transmission: a free value says whether, and since when (R345; log 101). -/
def transmitting (s : State) (p : Nat) (x : BitVec 64) : Option Frame :=
  if x.getLsbD 63 then none
  else match offerAt s p (x.toNat % (s.clock.ref + 1)) with
    | some (.inr f) => if (pathAt s p).queue.contains f && !rawByPath f then some f else none
    | _ => none

/-- Hand over the Basket of pair i to side o with a cause (R345): with cause 1 or 2 a frame in transmission is aborted and goes
first; raw frames addressed by path number are cancelled, the other frames move in queue order; trip queues stay. -/
def handOver (s0 : State) (i o cause : Nat) : State :=
  let h := pathOf i (1 - o)
  let (x, s) := freshFree s0
  let cut := if cause = 3 then none else transmitting s h x
  let q := (pathAt s h).queue
  let rest := q.filter fun f => !rawByPath f
  let moved := (cut.toList ++ (match cut with | some f => rest.erase f | none => rest)).map fun f => { f with queued := s.clock.ref }
  let s1 := (q.filter rawByPath).foldl (fun a f => mailState a f 3) s
  let s2 := updPath s1 h fun x => { x with queue := [], left := [], first := none }
  let s3 := updPath s2 (pathOf i o) fun x => { x with
    queue := x.queue ++ moved, first := cut.map fun f => { f with queued := s.clock.ref } }
  let s4 := updPair s3 i fun x => { x with holder := some o, expiry := s.clock.tick + x.lease, renewed := s.clock.tick }
  let s5 := setN (setN (addN s4 (0x1104 + i) 0x06 1) (0x1104 + i) 0x07 cause) (0x1104 + i) 0x08 (devTime s)
  if cause = 1 then raise (addN s5 (0x2F14 + h) 0x03 1) (0xA070 + i) else s5

/-- The heartbeat frame of pair i (R342). -/
def heartbeat (s : State) (i : Nat) : Frame :=
  let side (j : Nat) : Bool := (pairAt s j).holder == some 1
  devFrame .heartbeat (frameId 7 4 0 (pairAt s i).nodeId (pairAt s i).hbCount)
    (leBytes 2 (nodeStatus s) ++ leBytes 1 (bitVal (side 0) 0 + bitVal (side 1) 1) ++ List.replicate 5 0)

/-- Queue one heartbeat on the holder of pair i. -/
def queueHeartbeat (s : State) (i : Nat) : State :=
  updPair (pushFrame s i (heartbeat s i)) i fun x => { x with hbPending := true, hbCount := (x.hbCount + 1) % 256 }

/-- Nothing has renewed the lease of pair i for a quarter of it, and no heartbeat is pending (R345; log 49). -/
def heartbeatDue (s : State) (i : Nat) : Bool :=
  let x := pairAt s i
  x.enabled && x.holder.isSome && !x.silent && !x.hbPending && decide (x.lease ≤ 4 * (s.clock.tick - x.renewed))
    && decide (0 < freePlaces s i)

/-- The evaluation of pair i at a tick and at the end of a frame (R345): failure hand-over and heartbeat. An expired lease is
left to LEASE_EXPIRY. -/
def evalPair (s : State) (i : Nat) : State :=
  let x := pairAt s i
  match x.holder with
  | none => s
  | some h =>
    if !x.enabled || !islandsRun s then s
    else if pathFails s (pathOf i h) && passes s (pathOf i (1 - h)) then handOver s i (1 - h) 1
    else if x.expiry ≤ s.clock.tick then s
    else if heartbeatDue s i then queueHeartbeat s i else s

/-- Evaluate both pairs, with the self-test bookkeeping. -/
def evalPairs (s : State) : State := evalPair (evalPair (trackPaths s) 0) 1

/-- The lease of pair i is renewed now (R341, R345, R366): the Basket settings written since take effect. -/
def renewLease (s : State) (i : Nat) : State :=
  let b := 0x1104 + i
  let lease := getN s b 0x01
  updPair s i fun x => { x with lease := lease, preferred := getN s b 0x02, revertHold := getN s b 0x03, passiveLimit := getN s b 0x04,
                                expiry := s.clock.tick + lease, renewed := s.clock.tick }

/-- Revert to the preferred path at the end of a completed frame (R345; log 49). -/
def revert (s : State) (i : Nat) : State :=
  let x := pairAt s i
  match x.holder, (pathAt s (pathOf i x.preferred)).passSince with
  | some h, some t =>
    if h ≠ x.preferred ∧ x.revertHold ≠ 0 ∧ t + x.revertHold ≤ s.clock.tick then handOver s i x.preferred 3 else s
  | _, _ => s

/-! ## Reception (R332, R333, R337 to R339, R346, R362) -/

/-- A valid frame has been received on path p, from a source node where its identifier names one (R338, R339, R344): the
receive error counter falls (above 127 to a value of 119 to 127), the path is neither lonely nor quiet
(log 2, log 45). -/
def hear (s : State) (p : Nat) (src : Option Nat) : State :=
  let e := (pathAt s p).rxErr
  let (x, s0) := if 127 < e then freshFree s else (0, s)
  let heard := match src with
    | some n => (n, s.clock.tick) :: (pathAt s p).heard.filter fun h => h.1 != n
    | none => (pathAt s p).heard
  let s1 := updPath s0 p fun y => { y with
    rxErr := if 127 < e then 119 + x.toNat % 9 else e - 1, lonely := false, ackErrors := 0, quiet := false, left := [],
    lastHeard := s.clock.tick, heard := heard }
  judgePassive (causeGone (causeGone (addN s1 (0x1108 + p) 0x07 1) (0xA030 + p)) (0xA060 + p)) p

/-- The format tests of receive mailbox k (R362, R370). -/
def mailTakes (s : State) (k : Nat) (f : RxFrame) : Bool :=
  let b := 0x1400 + k
  let m := getN s b 0x04
  let fmt := getN s b 0x05
  getB s b 0x01 && getN s b 0x02 == f.path && (f.id &&& m) == (getN s b 0x03 &&& m)
    && fmt.testBit (if f.fd then 1 else 0) && fmt.testBit (if f.ext then 3 else 2)

/-- Write a frame into receive mailbox k (R362). -/
def mailWrite (s : State) (k : Nat) (f : RxFrame) : State :=
  let b := 0x1400 + k
  let fresh := (getN s b 0x09).testBit 0
  let beyond := fresh || (getN s b 0x09).testBit 1
  let s1 := setN s b 0x06 (f.id % 2 ^ 29 + bitVal f.ext 29 + bitVal f.fd 30 + bitVal f.brs 31)
  let s2 := setBytes (setN s1 b 0x07 f.data.length) b 0x08 f.data
  let s3 := setN (setN s2 b 0x09 (1 + bitVal beyond 1 + bitVal f.esi 2)) b 0x0A f.sof
  let s4 := addN s3 b 0x0B 1
  if fresh then addN s4 b 0x0C 1 else s4

/-- Give a received frame to every mailbox that takes it (log 49). -/
def mailRx (s : State) (f : RxFrame) : State :=
  (List.range 16).foldl (fun a k => if mailTakes s k f then mailWrite a k f else a) s

/-- The same frame came from its source on the other path of the pair within the last 200 ms (R346). -/
def duplicate (s : State) (f : RxFrame) : Bool :=
  (pathAt s (f.path + 1 - 2 * (f.path % 2))).recent.any fun r =>
    r.1 == idSrc f.id && r.2.1 == f.id && r.2.2.1 == f.data && decide (s.clock.tick ≤ r.2.2.2 + 200)

/-- Keep the identifier and data of the last 8 frames from each source (R346). -/
def remember (s : State) (f : RxFrame) : State :=
  let src := idSrc f.id
  updPath s f.path fun x => { x with recent :=
    ((src, f.id, f.data, s.clock.tick) :: (x.recent.filter fun r => r.1 == src).take 7) ++ x.recent.filter fun r => r.1 != src }

/-- A message came in on pair i. -/
def onPair (i : Nat) (m : KdpReq) : Bool := match m.addr.chan with | .bus p => p / 2 == i | .service => false

/-- A message that continues a transfer (R60). -/
def continues (m : KdpReq) : Bool := m.op == 5 || m.op == 6 || m.op == 7

/-- The first element that a test accepts, and the list without it. -/
def takeFirst {α : Type} (ok : α → Bool) : List α → Option (α × List α)
  | [] => none
  | x :: r => if ok x then some (x, r) else match takeFirst ok r with
    | some (y, t) => some (y, x :: t)
    | none => none

/-- A frame of path p finds a place in its pair's receive queue (R337): with 64 frames waiting the oldest that is no request
goes, else the new one, and the overflow is raised. -/
def takeFrameIn (s : State) (p : Nat) : Bool × State :=
  if (s.kdp.wait.filter (onPair (p / 2))).length < 64 then (true, s)
  else match takeFirst (fun m => onPair (p / 2) m && continues m) s.kdp.wait with
    | some (_, r) => (true, raise { s with kdp := { s.kdp with wait := r } } (0xA080 + p))
    | none => (false, raise s (0xA080 + p))

/-- A frame of a service arrives: what reception does with every such frame, and whether the device goes on with it. Frames with
the pair's own node ID as source (R333) and duplicates (R346) are discarded (log 49), and so is one that finds the receive queue
full (R337); trip frames and heartbeats take no place in it. -/
def receiveFrame (s : State) (f : RxFrame) (svc : Nat) : Bool × State :=
  if rxOpen s f.path && isService f svc then
    let i := f.path / 2
    let s1 := evalPairs (mailRx (hear s f.path (some (idSrc f.id))) f)
    if idSrc f.id = (pairAt s i).nodeId ∧ svc ≠ 5 ∧ svc ≠ 6 then
      let s2 := raise s1 (0xA001 + i)
      (false, if (pairAt s i).joinEnd.isSome then updPair s2 i fun x => { x with silent := true } else s2)
    else if svc = 1 ∨ svc = 2 ∨ svc = 5 ∨ svc = 6 then
      if duplicate s f then (false, addN (remember s1 f) (0x1104 + i) 0x0A 1) else takeFrameIn (remember s1 f) f.path
    else if svc = 3 then takeFrameIn s1 f.path
    else (true, s1)
  else (false, s)

/-- RAW_FRAME_RECEIVED (R332, R362): a frame that no service handles, or a heartbeat, reaches the raw mailboxes. A heartbeat
with the pair's own node ID raises the condition of R333. -/
def execRawFrameReceived (f : RxFrame) (s : State) : Out :=
  if isService f 4 then
    doneIf (rxOpen s f.path) s (receiveFrame s f 4).2
  else
    let handled := f.ext && f.fd && serviceClass (idService f.id) (idClass f.id)
    doneIf (rxOpen s f.path && !handled) s (
      evalPairs (mailRx (hear s f.path (if f.ext then some (idSrc f.id) else none)) f))

/-- REMOTE_FRAME_RECEIVED (R327): acknowledged and discarded; it is a valid frame for the path. -/
def execRemoteFrameReceived (p : Nat) (s : State) : Out := doneIf (rxOpen s p) s (evalPairs (hear s p none))

/-- RECEIVE_ERROR (R338): an error in a frame being received; ISO 11898-1 adds 1 to the receive error counter, or 8 (`heavy`)
(log 45). -/
def execReceiveError (p : Nat) (heavy : Bool) (s : State) : Out :=
  doneIf (rxOpen s p) s (
    let s1 := updPath s p fun x => { x with rxErr := min 255 (x.rxErr + if heavy then 8 else 1) }
    evalPairs (judgePassive (addN (addN s1 (0x1108 + p) 0x08 1) (0x2F14 + p) 0x01 1) p))

/-! ## Transmission (R334, R335, R338, R339) -/

/-- Device time at an earlier reference count, in reference periods. -/
def devRefAt (s : State) (sof : Nat) : Int := (devRef s : Int) - ((s.clock.ref : Int) - sof)

/-- The transmit queue without a frame; the frames that now enter the 64 places join it now. -/
def unqueue (q : List Frame) (f : Frame) (now : Nat) : List Frame :=
  let r := q.erase f
  r.take 63 ++ (r.drop 63).map fun g => { g with queued := max g.queued now }

/-- A frame leaves its queue on completion. One that left it before, while it was in transmission, has nothing more to leave. -/
def leaveQueue (s : State) (p : Nat) (o : TripFrame ⊕ Frame) (sof : Nat) : State :=
  let i := p / 2
  match o with
  | .inl t => updPath s p fun x => { x with trips := x.trips.erase t, tripsDone := mapSet x.tripsDone t.channel (max t.order ((mapGet x.tripsDone t.channel).getD 0)) }
  | .inr f =>
    let s1 := updPath s p fun x => { x with queue := unqueue x.queue f s.clock.ref, first := if x.first = some f then none else x.first }
    if !(pathAt s p).queue.contains f then s
    else match f.kind with
    | .heartbeat => updPair s1 i fun x => { x with hbPending := false }
    | .raw k _ => addN (setN s1 (0x1410 + k) 0x05 2) (0x1410 + k) 0x07 1
    | .timeRef j => { s1 with net := { s1.net with owed := vUpd s1.net.owed j fun _ => some (idTag f.id, devRefAt s sof, fieldN f.data 1 1, fieldN f.data 2 1, s.clock.ref) } }
    | _ => s1

/-- What a path sends is an FD frame: the path measures its transmitter delay in it (R329). -/
def isFd (o : TripFrame ⊕ Frame) : Bool := match o with | .inl _ => true | .inr f => f.fd

/-- Transmitter delay compensation is in use for what path p sends (R329). -/
def compensates (s : State) (p : Nat) (o : TripFrame ⊕ Frame) : Bool :=
  isFd o && (pairAt s (p / 2)).tdc == 1 && decide (0 < (pairAt s (p / 2)).data)

/-- A completed publication counts as sent: 1200+n.0B (R69). -/
def countPub (s : State) (o : TripFrame ⊕ Frame) : State :=
  match o with
  | .inr f => match f.kind with
    | .publication n => addN s (0x1200 + n) 0x0B 1
    | _ => s
  | .inl _ => s

/-- The completion of what path p offered (R335, R338, R339, R341, R345): counters, lease, revert (log 49). -/
def frameDone (s : State) (p : Nat) (o : TripFrame ⊕ Frame) (sof delay : Nat) : State :=
  let i := p / 2
  let s1 := updPath (leaveQueue s p o sof) p fun x => { x with
    txErr := x.txErr - 1, ackErrors := 0, lonely := false, echoErrors := 0, left := [] }
  let s2 := judgePassive (causeGone (causeGone (addN s1 (0x1108 + p) 0x06 1) (0xA030 + p)) (0xA050 + p)) p
  let s3 := if isFd o then setN s2 (0x1108 + p) 0x0D (min 65535 delay) else s2
  let s4 := if (pairAt s i).holder = some (p % 2) then revert (renewLease (trackPaths s3) i) i else s3
  evalPairs (countPub s4 o)

/-- An attempt of path p ends in an error (R338, R339, R343): the error counters of ISO 11898-1 (8 for a transmit error; none for a missing
acknowledgement while error-passive), echo mismatch after 3 bit errors, lonely after 16 missing acknowledgements, bus-off above
255 (log 45). -/
def transmissionFails (s : State) (p : Nat) (e : TxError) : State :=
  let x := pathAt s p
  let tx := if e = .ack ∧ errorPassive x = true then x.txErr else x.txErr + 8
  let echo := if e = .bit then x.echoErrors + 1 else 0
  let ack := if e = .ack then x.ackErrors + 1 else 0
  let s1 := updPath (addN (addN s (0x1108 + p) 0x08 1) (0x2F14 + p) 0x01 1) p fun x =>
    { x with txErr := min 256 tx, echoErrors := echo, ackErrors := min 16 ack, lonely := x.lonely || decide (16 ≤ ack), left := [] }
  let s2 := if 3 ≤ echo then raiseHeld s1 (0xA050 + p) else causeGone s1 (0xA050 + p)
  let s3 := if 16 ≤ ack then raiseHeld s2 (0xA030 + p) else s2
  let s4 := judgePassive s3 p
  let s5 := if 255 < tx then
      raiseHeld (addN (addN (updPath s4 p fun x => { x with busOff := true }) (0x1108 + p) 0x09 1) (0x2F14 + p) 0x02 1) (0xA010 + p)
    else s4
  evalPairs s5

/-- The transmitter delay that path p may have measured in the FD frame whose attempt failed: a free value says whether the attempt came as
far as the edge, and what was measured (R329; log 2). -/
def failedMeasure (s : State) (p : Nat) : State :=
  if (offer s p).any isFd || (pathAt s p).left.any fun g => isFd g.1 then
    let (x, s1) := freshFree s
    if x.getLsbD 63 then s1 else setN s1 (0x1108 + p) 0x0D (x.toNat % 65536)
  else s

/-- TRANSMISSION_ERROR: an attempt of path p ends in an error. The frame may have left its queue meanwhile. -/
def execTransmissionError (p : Nat) (e : TxError) (s : State) : Out :=
  doneIf ((offer s p).isSome || (txOpen s p && !(pathAt s p).left.isEmpty)) s (transmissionFails (failedMeasure s p) p e)

/-- The transmission of what path p offered comes to its end (R329, R335): with more than 127 quanta (1 587.5 ns) of measured
delay where compensation is in use it ends in a bit error, else it completes. -/
def frameEnds (s : State) (p : Nat) (o : TripFrame ⊕ Frame) (sof delay : Nat) : State :=
  if compensates s p o ∧ 3175 < 2 * delay then transmissionFails (setN s (0x1108 + p) 0x0D (min 65535 delay)) p .bit
  else frameDone s p o sof delay

/-- BUS_OFF_RECOVERY (R338, R351): after 128 occurrences of 11 recessive bits the path is error-active; trip frames whose state,
or a later one, the other path has completed are discarded (log 45). -/
def execBusOffRecovery (p : Nat) (s : State) : Out :=
  let ok := islandsRun s && decide (p < 4) && (pathAt s p).busOff
  let other := pathAt s (p + 1 - 2 * (p % 2))
  doneIf ok s (
    let s1 := updPath s p fun x => { x with
      busOff := false, txErr := 0, rxErr := 0,
      trips := x.trips.filter fun t => match mapGet other.tripsDone t.channel with | some n => decide (n < t.order) | none => true }
    evalPairs (judgePassive (causeGone s1 (0xA010 + p)) p))

/-- TRANSCEIVER_FAULT (R343, R367): the transceiver reports the faults of `bits`. -/
def execTransceiverFault (p bits : Nat) (s : State) : Out :=
  doneIf (islandsRun s && pathPowered s p && decide (p < 4) && decide (0 < bits ∧ bits < 16)) s
    (evalPairs (raiseHeld (updPath s p fun x => { x with xcvr := bits }) (0xA040 + p)))

/-- TRANSCEIVER_FAULT_CLEARED (R343): the transceiver reports no fault any more. -/
def execTransceiverFaultCleared (p : Nat) (s : State) : Out :=
  doneIf (islandsRun s && decide (p < 4) && (pathAt s p).xcvr != 0) s
    (evalPairs (causeGone (updPath s p fun x => { x with xcvr := 0 }) (0xA040 + p)))

/-- ERROR_PASSIVE_LIMIT (R343): a path has been error-passive without a break for longer than the pair's limit. -/
def execErrorPassiveLimit (p : Nat) (s : State) : Out :=
  let beyond := match (pathAt s p).passiveSince with
    | some t => decide (t + (pairAt s (p / 2)).passiveLimit < s.clock.tick)
    | none => false
  doneIf (islandsRun s && decide (p < 4) && beyond && !(pathAt s p).passiveTooLong) s
    (evalPairs (raiseHeld (updPath s p fun x => { x with passiveTooLong := true }) (0xA020 + p)))

/-- Path p is quiet now (R344): nothing for 10 lease times while its partner heard two or more sources. -/
def quietNow (s : State) (p : Nat) : Bool :=
  let span := 10 * (pairAt s (p / 2)).lease
  decide ((pathAt s p).lastHeard + span ≤ s.clock.tick)
    && decide (2 ≤ ((pathAt s (p + 1 - 2 * (p % 2))).heard.filter fun h => decide (s.clock.tick < h.2 + span)).length)

/-- QUIET_PATH (R344). -/
def execQuietPath (p : Nat) (s : State) : Out :=
  doneIf (islandsRun s && pathPowered s p && decide (p < 4) && !(pathAt s p).quiet && quietNow s p) s
    (evalPairs (raiseHeld (updPath s p fun x => { x with quiet := true }) (0xA060 + p)))

/-- LEASE_EXPIRY (R345): the Basket is handed over where the other path passes self-test, else the lease is extended. -/
def execLeaseExpiry (i : Nat) (s : State) : Out :=
  let x := pairAt s i
  match x.holder with
  | none => .next s
  | some h =>
    doneIf (islandsRun s && decide (i < 2) && x.enabled && decide (x.expiry ≤ s.clock.tick)) s (
      let s1 := trackPaths s
      if pathFails s (pathOf i h) && passes s (pathOf i (1 - h)) then handOver s1 i (1 - h) 1
      else if passes s (pathOf i (1 - h)) then handOver s1 i (1 - h) 2
      else updPair s1 i fun x => { x with expiry := s.clock.tick + x.lease })

/-- HEARTBEAT_DUE (R341, R345): a quarter lease passes without renewal; one heartbeat is queued on the holder. -/
def execHeartbeatDue (i : Nat) (s : State) : Out :=
  doneIf (islandsRun s && decide (i < 2) && heartbeatDue s i && decide (s.clock.tick < (pairAt s i).expiry)) s (queueHeartbeat s i)

/-- HEARTBEAT_LOSES_ARBITRATION (R341): the heartbeat is withdrawn and the lease renewed; the frame that won is another node's, so
no revert follows. -/
def execHeartbeatLosesArbitration (i : Nat) (s : State) : Out :=
  let x := pairAt s i
  doneIf (islandsRun s && decide (i < 2) && x.enabled && x.holder.isSome && x.hbPending) s (
    let s1 := updPath s (sendPath s i) fun y => { y with queue := y.queue.filter fun f => f.kind != .heartbeat }
    renewLease (updPair s1 i fun x => { x with hbPending := false }) i)

/-- Give the Basket of pair i at the end of its joining (R347): to the preferred path if it passes self-test or neither does,
else to the other. A path outside the path mask never holds it (R348). -/
def joinPair (s : State) (i : Nat) : State :=
  let x := pairAt s i
  let pref := x.preferred
  let h := if passes s (pathOf i pref) || (!passes s (pathOf i (1 - pref)) && x.mask.testBit pref) then pref else 1 - pref
  let q := (pathAt s (pathOf i pref)).queue
  let s1 := if h = pref then s
    else updPath (updPath s (pathOf i pref) fun y => { y with queue := [] }) (pathOf i h) fun y => { y with queue := y.queue ++ q }
  updPair s1 i fun x => { x with joinEnd := none, holder := some h, expiry := s.clock.tick + x.lease, renewed := s.clock.tick }

/-- PAIR_JOIN (R347): a pair has listened for 2 lease times. -/
def execPairJoin (i : Nat) (s : State) : Out :=
  match (pairAt s i).joinEnd with
  | none => .next s
  | some t => doneIf (islandsRun s && decide (i < 2) && (pairAt s i).enabled && decide (t ≤ s.clock.tick)) s (evalPairs (joinPair s i))

/-! ## Trip frames (R349 to R352, R361) -/

/-- TRIP_REFRESH (R350): asserted local channels are sent again with their tags. -/
def execTripRefresh (s : State) : Out :=
  doneIf (islandsRun s && decide (s.bus.refreshAt + getN s 0x1110 0x02 ≤ s.clock.tick)) s (
    let s1 := { s with bus := { s.bus with refreshAt := s.clock.tick } }
    (s1.bus.localTags.filter fun c => sentAsserted s c.1).foldl (fun a c =>
      let a1 := { a with bus := { a.bus with tripOrder := a.bus.tripOrder + 1 } }
      tripToAll a1 (ownTrip a1 c.1 true c.2)) s1)

/-- The remote source of an origin and a channel (log 50). -/
def remoteOf (s : State) (seg node c : Nat) : Option RemoteSource :=
  s.bus.remotes.find? fun r => r.segment == seg && r.node == node && r.channel == c

/-- Apply a trip frame to the remote sources (R352): 256 asserting sources fit; one more holds its channel asserted
(log 50). -/
def applyRemote (s : State) (c : Nat) (on : Bool) (seg node tag : Nat) : State :=
  let others := s.bus.remotes.filter fun r => !(r.segment == seg && r.node == node && r.channel == c)
  if on && decide (256 ≤ (others.filter (·.asserted)).length) then
    raiseHeld { s with bus := { s.bus with stuck := putBit s.bus.stuck c true } } 0xA0A0
  else { s with bus := { s.bus with remotes := ⟨seg, node, c, tag, on⟩ :: others } }

/-- Forward a trip frame received on pair i to the other pair (R361), and count it as forwarded (R369). -/
def forwardTrip (s : State) (i c : Nat) (on : Bool) (tag node hops seg : Nat) : State :=
  let mask := getN s 0x1300 (if i = 0 then 0x04 else 0x05)
  if s.bus.bridging && mask.testBit c && decide (hops < 15) then
    let s1 := { s with bus := { s.bus with tripOrder := s.bus.tripOrder + 1 } }
    addN (tripToPair s1 (1 - i) ⟨c, on, tag, node, hops + 1, seg, 0, s1.bus.tripOrder, 0⟩) 0x1300 (if i = 0 then 0x06 else 0x07) 1
  else s

/-- TRIP_FRAME_RECEIVED (R352, R361): a repeated tag is dropped and counted; otherwise the frame is forwarded, and applied where
the receive mask has its channel. -/
def execTripFrameReceived (f : RxFrame) (s : State) : Out :=
  match receiveFrame s f 0 with
  | (false, s1) => done s1
  | (true, s1) =>
    let c := fieldN f.data 0 1
    let on := fieldN f.data 1 1 == 1
    let node := fieldN f.data 2 1
    let hops := fieldN f.data 3 1
    let seg := fieldN f.data 4 2
    let tag := idTag f.id
    if f.data.length < 8 ∨ 63 < c then done s1
    else if (remoteOf s1 seg node c).any (fun r => r.tag == tag) then done (addN s1 0x1110 0x05 1)
    else
      let s2 := forwardTrip s1 (f.path / 2) c on tag node hops seg
      done (if (getN s 0x1110 0x01).testBit c then channelFollow s2 (applyRemote s2 c on seg node tag) c else s2)

/-- A write of 1 to 1110.03 (R352): every remote source of every channel ends; the tags last applied stay known (log 50). -/
def clearRemotes (s : State) : State :=
  let s1 := { s with bus := { s.bus with remotes := s.bus.remotes.map fun r => { r with asserted := false }, stuck := 0 } }
  dropCond ((List.range 64).foldl (fun a c => channelFollow s a c) s1) 0xA0A0

/-! ## Bridges (R356 to R360) -/

/-- The segments of the route table 1301.01. -/
def routeListed (s : State) (seg : Nat) : Bool :=
  let b := getBytes s 0x1301 0x01
  (List.range (b.length / 2)).any fun i => fieldN b (2 * i) 2 == seg

/-- The pair a routed KDP frame received on pair i goes out on (R358). -/
def forwardTo (s : State) (i dest : Nat) : Option Nat :=
  let down := dest == (pairAt s 1).segment || routeListed s dest
  if !s.bus.bridging then none
  else if i = 0 then (if down then some 1 else none)
  else if down then none else some 0

/-- KDP_FORWARD (R358): a routed KDP frame that is not for the receiving segment goes on with service 0x5. -/
def execKdpForward (f : RxFrame) (s : State) : Out :=
  let svc := if isService f 5 then 5 else 1
  match receiveFrame s f svc with
  | (false, s1) => done s1
  | (true, s1) =>
    let i := f.path / 2
    let len := fieldN f.data 6 2
    let dest := fieldN f.data 8 2
    let ok := decide (12 ≤ f.data.length) && decide (8 + len ≤ f.data.length) && decide (4 ≤ len) && (fieldN f.data 1 1).testBit 3
      && dest != (pairAt s i).segment
    match forwardTo s i dest with
    | some j =>
      if ok then
        done (pushForwarded s1 j (devFrame .forwarded (frameId (idClass f.id) 5 (idDst f.id) (idSrc f.id) (idTag f.id)) f.data))
      else done s1
    | none => done s1

/-- The forwarded-map table names a publication in a direction (R360, R369). -/
def mapListed (s : State) (seg node map dir : Nat) : Bool :=
  let b := getBytes s 0x1302 0x01
  (List.range (b.length / 6)).any fun i =>
    fieldN b (6 * i) 2 == seg && fieldN b (6 * i + 2) 1 == node && fieldN b (6 * i + 3) 1 == map && fieldN b (6 * i + 4) 1 == dir

/-- Forward a publication received on pair i from an origin segment (R360). -/
def forwardPublication (s : State) (i : Nat) (f : RxFrame) (seg : Nat) : State :=
  let map := fieldN f.data 2 1
  if s.bus.bridging && !s.power.quiet && mapListed s seg (idSrc f.id) map i then
    let j := 1 - i
    let data := f.data.take 4 ++ [byte seg, byte (seg / 256)] ++ f.data.drop 6
    pushForwarded s j (devFrame .forwarded (frameId (idClass f.id) 6 (pairAt s j).nodeId (idSrc f.id) (idTag f.id)) data)
  else s

/-! ## Raw mailboxes (R363, R370) -/

/-- A queued frame is that of transmit mailbox k. -/
def isMail (k : Nat) (f : Frame) : Bool := match f.kind with | .raw j _ => j == k | _ => false
/-- The frame of mailbox k is still pending. -/
def mailPending (s : State) (k : Nat) : Bool := (List.range 4).any fun p => (pathAt s p).queue.any (isMail k)
/-- Whether a data length is valid for a format (R363). -/
def lengthValid (fd : Bool) (n : Nat) : Bool := decide (n ≤ 8) || (fd && [12, 16, 20, 24, 32, 48, 64].contains n)
/-- The pair of transmit mailbox path value v. -/
def mailPair (v : Nat) : Nat := if v < 4 then v / 2 else v - 4

/-- The abort of a write of 1 to Send of mailbox k, in the order of R363 (log 34). -/
def mailRefused (s : State) (k : Nat) : Option Nat :=
  let b := 0x1410 + k
  let w := getN s b 0x02
  let path := getN s b 0x01
  if mailPending s k then some 0x0403
  else if (w.testBit 29 ∧ idClass (w % 2 ^ 29) ≠ 7) ∨ (w.testBit 31 = true ∧ w.testBit 30 = false) then some 0x0302
  else if !lengthValid (w.testBit 30) (getBytes s b 0x03).length then some 0x0301
  else if path < 4 ∧ (pairAt s (path / 2)).holder ≠ some (path % 2) then some 0x0401
  else if freePlaces s (mailPair path) = 0 then some 0x0501 else none

/-- The frame of mailbox k is queued (R363). -/
def mailSend (s : State) (k : Nat) : State :=
  let b := 0x1410 + k
  let w := getN s b 0x02
  let path := getN s b 0x01
  let id := if w.testBit 29 then w % 2 ^ 29 else w % 2 ^ 11
  setN (pushFrame s (mailPair path) ⟨.raw k (decide (path < 4)), id, w.testBit 29, w.testBit 30, w.testBit 31, getBytes s b 0x03, 0⟩) b 0x05 1

/-- A pending frame of mailbox k is removed (R370); with none pending nothing changes. -/
def mailCancel (s : State) (k : Nat) : State :=
  if mailPending s k then
    setN ((List.range 4).foldl (fun a p => withdraw a p (isMail k)) s) (0x1410 + k) 0x05 3
  else s

end Sys2Proof.Machine
end

