-- ==== Sys2Proof/Machine/Time.lean ====
section
/-! DEFINITION. Time: halt, slew and step (R380 to R384), trust (R379), alarms (R385), network time (R386 to R391), the RTC, its
trim and learned drift (R372 to R377). -/

namespace Sys2Proof.Machine

/-! ## Trust and the RTC (R372, R373, R379) -/

/-- What network role, trust and better masters come to in 2910.08 (R387, R401); a follower's state is kept. -/
def showNet (s : State) : State :=
  match getN s 0x2910 0x01 with
  | 0 => setN s 0x2910 0x08 0
  | 2 => setN s 0x2910 0x08 (if timeTrusted s && (vAt s.net.better 0 none).isNone then 4 else 5)
  | _ => s

/-- The snapshot group 2900.01 to 05, updated together (R374). -/
def showTime (s : State) : State :=
  let s1 := setN (setN s 0x2900 0x01 (devTime s)) 0x2900 0x02 (timeQuality s)
  setN (setI (setN s1 0x2900 0x03 (localTime s)) 0x2900 0x04 s.clock.localOffset) 0x2900 0x05 s.clock.ref

/-- Every running rate measurement is abandoned, in an instant at which time is untrusted (R266). -/
def dropRates (s : State) : State :=
  (List.range 32).foldl (fun a z => if (zoneAt a z).rate.isSome then
    setBit (updZone a z fun x => { x with rate := none }) (0x2800 + z) 0x0A 9 false else a) s

/-- Judge trust (R266, R379, R403): condition 0xB008, 2900.0E, the record flag, the rate measurements, the network state (log 73). -/
def judgeTrust (s : State) : State :=
  let on := timeTrusted s
  let s1 := follow s 0xB008 (decide (1 ≤ s.clock.source ∧ s.clock.source ≤ 3) && !on)
  let s2 := if on then (if getN s1 0x2900 0x0E = 0 ∨ hamperFree s = false then s1 else saveN s1 0x2900 0x0E 0)
    else dropRates (recFlag (if getN s1 0x2900 0x0E = 0 ∧ hamperFree s = true ∧ s.clock.lossHeld = false then
      saveN s1 0x2900 0x0E (devTime s1) else s1) 2)
  showNet s2

/-- Time is set by a write or by network time (R373): the untrusted state of a retention loss ends. -/
def timeSet (s : State) (source : Nat) (bound : Option Nat) : State :=
  let s1 := dropCond { s with clock := { s.clock with source := source, bound := bound, lossHeld := false } } 0xB001
  judgeTrust (if s.clock.lossHeld then writeNow s1 (.record recUntrusted [0]) else s1)

/-- The RTC restarts from device time t, in reference periods (R381, R383). -/
def rtcRestart (s : State) (t : Nat) : State :=
  { s with
    thermos := { s.thermos with secs := t / refSec % 2 ^ 32, frac := t % refSec * 32768 / refSec }
    clock := { s.clock with edge := (s.clock.ref : Int) - (t % refSec : Nat), halt := none } }

/-! ## Alarms (R385) -/

/-- A write of Enable of alarm a (R385, R400). -/
def alarmEnabled (s : State) (a : Nat) : State :=
  let i := 0x2904 + a
  planAlarm (setN s i 0x06 (getN s i 0x06 / 2 * 2)) a (localTime s)

/-- The local date of the latest occurrence of a daily or weekly alarm not after now. -/
def lastOccurrence (s : State) (a : Nat) (due : Nat) : Nat :=
  let i := 0x2904 + a
  let ok (d : Nat) : Bool := (getN s i 0x02 == 1 || (getN s i 0x05).testBit (weekday d))
    && decide (d * dayMs + getN s i 0x04 * 60000 ≤ localTime s)
  (((List.range 8).map fun k => localTime s / dayMs - k).find? ok).getD (due / dayMs)

/-- Alarm a fires (R385): status, time, 0xB010 + a; kind 0 clears its enable; the others note the date and go on. -/
def fireAlarm (s : State) (a : Nat) (late : Bool) : State :=
  let i := 0x2904 + a
  let s1 := raise (saveN (setN s i 0x06 (1 + bitVal late 1)) i 0x07 (devTime s)) (0xB010 + a)
  if getN s i 0x02 = 0 then setN (updAlarm (deviceWrite s1 i 0x01 [0]) a fun x => { x with due := none }) i 0x08 0
  else
    let d := lastOccurrence s a (((alarmAt s a).due).getD 0)
    let s2 := writeNow (updAlarm s1 a fun x => { x with lastDate := some d }) (.record (recAlarm a) (leBytes 4 d))
    planAlarm s2 a (localTime s)

/-- USER_ALARM (R385): at the first tick at or after the due instant the alarm fires. -/
def execUserAlarm (a : Nat) (s : State) : Out :=
  doneIf (isUp s && hamperFree s && decide (a < 8) && alarmDue s a) s (fireAlarm s a false)

/-! ## Slew and step (R382 to R384) -/

/-- The reference period of the device in ms. -/
def ownPeriod (s : State) : Nat := max 250 (getN s 0x2910 0x02)

/-- No pair of network time is due at the multiples of the period that device time has passed up to now (R387). -/
def skipPeriod (s : State) : State :=
  { s with net := { s.net with lastSent := Vector.replicate 2 (devTime s / ownPeriod s) } }

/-- A correction of Δ reference periods above 1 000 ms (R383): one journalled operation with audit kind 5, the event seal, the step
entries and record flag 1, then condition 0xB002, the alarms passed, local time and the programs (log 22, log 69). -/
def timeStep (s : State) (d : Int) : State :=
  let t := ((devRef s : Int) + d).toNat
  let ms := roundAway d refMs
  let s1 := rtcRestart { s with clock := { s.clock with slew := 0 } } t
  let b := auditBytes s1 .device 5 0 0 0 (leBytes 8 (ofSigned 64 ms))
  let q := queueEvent s1.kiln.queue 4 (devTime s1)
  let lost := auditLost s1
  let s2 := journalPut s1 [(0x2900, 0x0A, leBytes 8 (devTime s1)), (0x2900, 0x0B, leBytes 8 (ofSigned 64 ms)),
      (0x2900, 0x0C, leBytes 4 (getN s1 0x2900 0x0C + 1))]
    ([⟨.core, .bytes (auditAddr s1.audit.count) b⟩, keptImage q] ++ (flaggedSoFar s1 1).map (recordImage recSoFar))
  let s3 := raise (recEvent (auditAdvance (setQueue s2 q) b lost) 1) 0xB002
  let s4 := { s3 with meters := s3.meters.map fun x => { x with stepped := true } }
  let s5 := refreshLocal (skipPeriod s4)
  (List.range 8).foldl (fun x a =>
    if alarmDue x a then fireAlarm x a true else planAlarm x a (localTime x)) s5

/-- Apply a correction (R382): up to 1 000 ms is slewed, more is stepped. -/
def correct (s : State) (d : Int) : State :=
  if d.natAbs ≤ 1000 * refMs then { s with clock := { s.clock with slew := 64 * d } } else timeStep s d

/-! ## Setting time by write (R380, R381) -/

/-- A write of 1 to halt is refused for a receiving follower (R380). -/
def haltRefused (s : State) (v : Nat) : Option Nat :=
  if v = 1 ∧ getN s 0x2910 0x01 = 1 ∧ getN s 0x2910 0x08 = 2 then some 0x0401 else none

/-- Halt is set (R380). -/
def haltStart (s : State) : State :=
  if s.clock.halt.isSome then s
  else { s with clock := { s.clock with halt := some (s.clock.tick + 10000, devRef s, s.clock.ref), setValue := none } }

/-- Halt is released with the correction of a set value, if one was written (R381). -/
def haltRelease (s : State) : State :=
  match s.clock.halt with
  | none => s
  | some _ =>
    let t := devRef s
    let s1 := rtcRestart s t
    match s.clock.setValue with
    | none => s1
    | some v =>
      let s2 := timeSet { s1 with clock := { s1.clock with setValue := none } } 1 (some 1000000000)
      judgeTrust (correct s2 ((v * refMs : Nat) - (t : Int)))

/-- Halt is released by a power-fail warning: the set value is discarded (R381). -/
def haltDrop (s : State) : State :=
  match s.clock.halt with
  | none => s
  | some _ =>
    let s1 := rtcRestart s (devRef s)
    { s1 with clock := { s1.clock with setValue := none } }

/-- HALT_TIMEOUT (R381): 10 s after halt was set. -/
def execHaltTimeout (s : State) : Out :=
  let due := match s.clock.halt with | some (t, _, _) => decide (t ≤ s.clock.tick) | none => false
  doneIf (isUp s && hamperFree s && due) s (raise (haltRelease s) 0xB007)

/-! ## Network time (R386 to R391) -/

/-- The device acts as master on pair i (R387, R391). -/
def masterOn (s : State) (i : Nat) : Bool :=
  if i = 0 then getN s 0x2910 0x01 == 2 else s.bus.bridging && getB s 0x2910 0x04

/-- The stratum the device sends (R387, R391). -/
def ownStratum (s : State) : Nat := if getN s 0x2910 0x01 = 2 then 0 else getN s 0x2910 0x0D

/-- A frame of network time of pair i (R386). -/
def timeFrame (s : State) (i : Nat) (kind : FrameKind) (tag : Nat) (data : Bytes) : Frame :=
  devFrame kind (frameId 1 3 0 (pairAt s i).nodeId tag) data

/-- TIME_REFERENCE_SEND (R386, R387, R391): in the tick that reaches a whole multiple of the period a master whose time is trusted and that
sees no better master sends a reference frame on the holder of pair i. -/
def execTimeReferenceSend (i : Nat) (s : State) : Out :=
  let k := devTime s / ownPeriod s
  let ok := islandsRun s && decide (i < 2) && masterOn s i && timeTrusted s && (vAt s.net.better i none).isNone
    && (pairAt s i).holder.isSome && k != vAt s.net.lastSent i 0 && decide (0 < freePlaces s i)
  doneIf ok s (
    let tag := vAt s.net.sendTag i 0
    let data := leBytes 1 0 ++ leBytes 1 (timeQuality s) ++ leBytes 1 (ownStratum s) ++ leBytes 1 (ownPeriod s / 250)
      ++ leBytes 2 (getN s 0x2900 0x0C) ++ leBytes 2 0
    let s1 := pushFrame s i (timeFrame s i (.timeRef i) tag data)
    { s1 with net := { s1.net with sendTag := vUpd s1.net.sendTag i fun _ => (tag + 1) % 256, lastSent := vUpd s1.net.lastSent i fun _ => k } })

/-- TIME_FOLLOW_UP_SEND (R386, R387): within 100 ms after the reference frame completed, a master that still is one, with trusted time and
no better master, sends the follow-up: the start-of-frame time of that frame, its quality and its stratum. -/
def execTimeFollowUpSend (i : Nat) (s : State) : Out :=
  match vAt s.net.owed i none with
  | none => .next s
  | some (tag, t, quality, stratum, completed) =>
    let ok := islandsRun s && decide (i < 2) && masterOn s i && timeTrusted s && (vAt s.net.better i none).isNone
      && (pairAt s i).holder.isSome && decide (0 < freePlaces s i) && decide (s.clock.ref ≤ completed + 100 * refMs)
    doneIf ok s (
      let r := t.toNat
      let data := leBytes 1 1 ++ leBytes 1 quality ++ leBytes 1 stratum ++ leBytes 1 0
        ++ leBytes 4 (r % refMs * 125 / 3) ++ leBytes 8 (r / refMs)
      let s1 := pushFrame s i (timeFrame s i (.timeFollow i) tag data)
      { s1 with net := { s1.net with owed := vUpd s1.net.owed i fun _ => none } })

/-- A better master: lower stratum, or the same with a lower node ID (R387). -/
def betterMaster (s : State) (i stratum node : Nat) : Bool :=
  decide (stratum < ownStratum s) || (stratum == ownStratum s && decide (node < (pairAt s i).nodeId))

/-- TIME_REFERENCE_RECEIVED (R387, R388): a master falls silent before a better one; a follower stamps the frame, the
first copy of its tag. -/
def execTimeReferenceReceived (f : RxFrame) (s : State) : Out :=
  match receiveFrame s f 3 with
  | (false, s1) => done s1
  | (true, s1) =>
    let i := f.path / 2
    let src := idSrc f.id
    let stratum := fieldN f.data 2 1
    if f.data.length < 8 ∨ fieldN f.data 0 1 ≠ 0 then done s1
    else if masterOn s1 i then
      if betterMaster s1 i stratum src then
        done (showNet (raiseHeld { s1 with net := { s1.net with better := vUpd s1.net.better i fun _ => some s1.clock.tick } } 0xB005))
      else done s1
    else if i = 0 ∧ getN s1 0x2910 0x01 = 1 ∧ s1.net.lastTag ≠ some (src, idTag f.id)
        ∧ s1.net.halves.any (fun x => x.src == src && x.tag == idTag f.id) = false then
      let h : HalfPair := ⟨src, idTag f.id, fieldN f.data 1 1, stratum, fieldN f.data 3 1, devRefAt s1 f.sof, f.sof⟩
      done { s1 with net := { s1.net with halves := h :: s1.net.halves.filter fun x => x.src != src } }
    else done s1

/-- The mean of binary32 values (log 71). -/
def meanF (l : List F32) : F32 := toF32 (ddiv (l.foldl (fun a x => dadd a (toF64 x)) 0) (f64 l.length))

/-- The 30-day mean 2901.06 (R377): hours older than 30 days leave it, and it is NaN while fewer than 24 hours are held (log 71). -/
def showReference (s : State) : State :=
  let now := devTime s / 1000
  let hours := s.net.hours.filter fun h => decide (now ≤ h.1 + 2592000)
  let v := if hours.length < 24 then nan32 else meanF (hours.map (·.2))
  let s1 := { s with net := { s.net with hours := hours } }
  if getF s1 0x2901 0x06 = v then s1 else putF s1 0x2901 0x06 v

/-- Learning from an applied pair (R377): each hour of follower data gives a reference deviation in ppm and enters the 30-day
mean (log 71). -/
def learnReference (s : State) (tm : Int) (sof : Nat) : State :=
  match s.net.devFrom with
  | none => { s with net := { s.net with devFrom := some (tm, sof) } }
  | some (t0, c0) =>
    let dt := tm - t0
    if dt < 3600 * refSec then s
    else
      let dev := toF32 (f64 ((((sof : Int) - c0) - dt) * 1000000) dt.toNat)
      let hours := ((devTime s / 1000, dev) :: s.net.hours).take 720
      let s1 := { s with net := { s.net with devFrom := some (tm, sof), hours := hours } }
      showReference (setF s1 0x2901 0x05 dev)

/-- Apply an accepted difference (R389): the correction, source 2, the bound, the stratum, learning (log 22). -/
def applyPair (s : State) (h : HalfPair) (d tm : Int) (sof : Nat) : State :=
  let e := h.quality / 16
  let s1 := timeSet s 2 (if e = 15 then none else some ((2 ^ e + 1) * 1000000))
  let s2 := setN (setN (setN { s1 with net := { s1.net with pending := none, confirms := 0 } } 0x2910 0x0D (h.stratum + 1)) 0x2910 0x0E 0) 0x2910 0x0F 0
  judgeTrust (correct (learnReference (dropCond s2 0xB003) tm sof) d)

/-- An accepted difference above the step limit waits for its confirmations (R389; log 22). -/
def holdPair (s : State) (h : HalfPair) (d tm : Int) (sof : Nat) : State :=
  let same := match s.net.pending with | some p => decide ((d - p).natAbs ≤ 10 * refMs) | none => false
  let n := if same then s.net.confirms + 1 else 0
  let p := if same then s.net.pending.getD d else d
  if same && decide (getN s 0x2910 0x07 ≤ n) && hamperFree s then applyPair s h d tm sof
  else
    let s1 := { s with net := { s.net with pending := some p, confirms := n } }
    raiseHeld (setN (setI s1 0x2910 0x0E (p.tdiv refMs)) 0x2910 0x0F (min 64 n)) 0xB003

/-- TIME_FOLLOW_UP_RECEIVED (R388, R389): the follow-up completes a pair, which is accepted and applied, held, or refused;
during a power-fail warning an accepted pair that asks for a step is not applied (R415, log 22). -/
def execTimeFollowUpReceived (f : RxFrame) (s : State) : Out :=
  match receiveFrame s f 3 with
  | (false, s1) => done s1
  | (true, s1) =>
    let src := idSrc f.id
    match s1.net.halves.find? fun x => x.src == src with
    | none => done s1
    | some h =>
      if f.data.length < 16 ∨ fieldN f.data 0 1 ≠ 1 ∨ f.path / 2 ≠ 0 ∨ getN s1 0x2910 0x01 ≠ 1 then done s1
      else
        let s2 := { s1 with net := { s1.net with
          halves := s1.net.halves.filter (fun x => x.src != src), lastTag := some (src, idTag f.id) } }
        let want := getN s 0x2910 0x03
        let ns : Int := (fieldN f.data 8 8 * 1000000 + fieldN f.data 4 4 : Nat) - (h.stamp * 125).fdiv 3
        let d := roundAway (ns * 3) 125
        let ok := (want == 0 || want == src) && h.tag == idTag f.id && h.quality.testBit 3 && decide (h.stratum < 15)
          && decide (max s.clock.ref f.sof ≤ h.sof + 500 * refMs)
        if !ok then done (raise (addN s2 0x2910 0x0B 1) 0xB006)
        else
          let tm := h.stamp + d
          let s3 := setN (setN (setI (addN s2 0x2910 0x0A 1) 0x2910 0x09 ns) 0x2910 0x0C src) 0x2910 0x10 (devTime s)
          let s4 := dropCond (setN { s3 with net := { s3.net with lastPair := some s.clock.tick, period := 250 * h.units } } 0x2910 0x08 2) 0xB004
          let sof := ((s.clock.ref : Int) + (h.stamp - devRef s)).toNat
          done (if timeTrusted s4 && decide (getN s4 0x2910 0x06 * refMs < d.natAbs) then holdPair s4 h d tm sof
            else if hamperFree s || decide (d.natAbs ≤ 1000 * refMs) then applyPair s4 h d tm sof
            else s4)

/-- HOLDOVER (R390): four announced periods without an accepted pair. The source becomes 3; one that is unset since a retention loss stays
unset (log 22). -/
def execHoldover (s : State) : Out :=
  let due := match s.net.lastPair with | some t => decide (t + 4 * s.net.period ≤ s.clock.tick) | none => false
  doneIf (isUp s && getN s 0x2910 0x01 == 1 && getN s 0x2910 0x08 == 2 && due) s (
    let s1 := setN { s with clock := { s.clock with source := if s.clock.source = 0 then 0 else 3 },
                            net := { s.net with devFrom := none } } 0x2910 0x08 3
    raiseHeld s1 0xB004)

/-- MASTER_RESUME (R387): no better master for 4 of the device's own periods. -/
def execMasterResume (i : Nat) (s : State) : Out :=
  match vAt s.net.better i none with
  | none => .next s
  | some t =>
    doneIf (isUp s && decide (i < 2) && decide (t + 4 * ownPeriod s ≤ s.clock.tick)) s (
      let s1 := { s with net := { s.net with better := vUpd s.net.better i fun _ => none } }
      showNet (if (vAt s.net.better (1 - i) none).isNone then dropCond s1 0xB005 else s1))

/-- The network role changes, or stands after a start (R387, R388, R401): what was received under the role before is dropped, a pending
offset with it (R403); a better master stays noted until it falls silent (log 69). -/
def roleWritten (s : State) : State :=
  let s1 := skipPeriod { s with net := { s.net with halves := [], lastTag := none, pending := none, confirms := 0, devFrom := none } }
  let s2 := { s1 with clock := { s1.clock with source := if s1.clock.source = 2 then 3 else s1.clock.source } }
  let s4 := setN (setN (setN (dropCond s2 0xB003) 0x2910 0x0D 0) 0x2910 0x0E 0) 0x2910 0x0F 0
  showNet (if getN s4 0x2910 0x01 = 1 then setN s4 0x2910 0x08 1 else s4)

/-! ## The RTC (R372, R375 to R377) -/

/-- The temperature bin of the die temperature; none while it is not known. -/
def tempBin (s : State) : Option Nat :=
  match (v32 (getF s 0x2F00 0x08)).toRat with
  | some (a, b) => some (min 15 ((a + 40 * (b : Int)).fdiv (10 * (b : Int))).toNat)
  | none => none

/-- The drift table's value for a bin. -/
def driftValue (s : State) (b : Nat) : F32 := BitVec.ofNat 32 (fieldN (getBytes s 0x2901 0x07) (4 * b) 4)

/-- The expected RTC deviation in ppm (R377): the bin's value, else that of the nearest learned bin (the lower of two), else 0
(log 71). -/
def expectedDrift (s : State) : F32 :=
  match tempBin s with
  | none => f32 0
  | some b =>
    let known (i : Nat) : Bool := getBit s 0x2901 0x08 i
    match (((List.range 16).map fun d => [b - d, b + d]).flatten).find? fun i => decide (i < 16) && known i with
    | some i => driftValue s i
    | none => f32 0

/-- The drift bin in use is learned (R379). -/
def binLearned (s : State) : Bool := match tempBin s with | some b => getBit s 0x2901 0x08 b | none => false

/-- Pulses of the slew in each window of 1 048 576 RTC cycles: 500 ppm are 524 (R376, R382; log 54, log 72). -/
def slewPulses (s : State) : Nat := getN s 0x2910 0x05 * 1048576 / 1000000

/-- The add/skip rate in force (R376): the slew, the expected deviation in the first 64 s, or the test rate
(log 54, log 72). -/
def addSkip (s : State) : Int :=
  if s.clock.slew > 0 then slewPulses s
  else if s.clock.slew < 0 then -(slewPulses s : Int)
  else if !s.clock.trimmed && decide (s.clock.tick < s.power.started + 64000) then
    match (v32 (expectedDrift s)).toRat with
    | some (a, b) => max (-524) (min 524 (-(roundAway (a * 1048576) (b * 1000000))))
    | none => 0
  else if getN s 0x2901 0x01 = 0 then getI s 0x2901 0x09 else 0

/-- Main power is present and some code runs: the firmware, or the boot ROM in recovery (R323). -/
def coreRuns (s : State) : Bool := isUp s || s.power.phase == .recovery

/-- The RTC runs on while no tick does: `cycles` crystal cycles have passed, and the error bound has grown (R373, R379): at 5 ppm where the
bin in use is learned, which without main power is the bin that stood when the core was reset (log 82). -/
def rtcRun (s : State) (cycles : Nat) : State :=
  if coreRuns s && !s.power.refFault then s
  else
    let f := s.thermos.frac + cycles
    let good := if coreRuns s then binLearned s else s.clock.binGood
    { s with thermos := { s.thermos with frac := f % 32768, secs := (s.thermos.secs + f / 32768) % 2 ^ 32 }
             clock := { s.clock with bound := s.clock.bound.map fun b => b + cycles * (if good then 5000 else 50000) / 32768
                                     edge := (s.clock.ref : Int) - (f % 32768 * 46875 / 64 : Nat) } }

/-- During a reference fault no tick runs, and the RTC goes on (R28): at a message that comes in then it has gone on by a number
of cycles that is left free (log 86). -/
def faultTime (s : State) : State :=
  if s.power.refFault then
    let (x, s1) := freshFree s
    rtcRun s1 x.toNat
  else s

/-- The RTC over one tick of `cycles` crystal cycles that ends at reference count `now` (R372, R376): pulses are added or
skipped, a slew is absorbed, and a seconds edge captures the reference counter (log 54). -/
def rtcTick (s : State) (cycles now : Nat) : State :=
  if s.clock.halt.isSome then s
  else
    let r := addSkip s
    let acc := s.clock.skipAcc + r * cycles
    let pulses := acc.tdiv 1048576
    let left := s.clock.slew - pulses * 46875
    let slew := if s.clock.slew = 0 ∨ left.natAbs < 46875 then 0 else left
    let frac := ((s.thermos.frac : Int) + cycles + pulses).toNat
    let s1 := setI { s with clock := { s.clock with skipAcc := acc - pulses * 1048576, slew := slew } } 0x2901 0x03 r
    if frac < 32768 then { s1 with thermos := { s1.thermos with frac := frac } }
    else { s1 with
      thermos := { s1.thermos with frac := frac - 32768, secs := (s1.thermos.secs + 1) % 2 ^ 32 }
      clock := { s1.clock with edge := (now : Int) - ((frac - 32768) * 46875 / 64 : Nat) } }

/-- The error bound over one tick (R379), in ns: 5 ppm of the tick while the bin in use is learned, else 50 ppm. -/
def growBound (s : State) : State :=
  match s.clock.bound with
  | none => s
  | some b => { s with clock := { s.clock with bound := some (b + if binLearned s then 5 else 50) } }

/-- Learning from a window (R377): while the follower is in state 2, each window counts for its bin; from an hour of them on the
bin is learned. The spec does not say how the windows are combined: the value is free (log 20, log 2). -/
def learnWindow (s : State) : State :=
  match tempBin s with
  | none => s
  | some b =>
    if getN s 0x2910 0x01 = 1 ∧ getN s 0x2910 0x08 = 2 then
      let n := vAt s.net.binWindows b 0 + 1
      let s1 := { s with net := { s.net with binWindows := vUpd s.net.binWindows b fun _ => min 1000000 n } }
      if n < 113 then s1
      else
        let (x, s2) := freshFree s1
        let old := getBytes s2 0x2901 0x07
        let tab := old.take (4 * b) ++ leBytes 4 x.toNat ++ old.drop (4 * b + 4)
        putN (putP s2 0x2901 0x07 tab) 0x2901 0x08 (putBit (getN s2 0x2901 0x08) b true)
    else s

/-- The trim that brings an expected RTC deviation nearest to 0 (R375): the deviation over what one step is worth, within the 128 steps; a
deviation that is not finite asks for none (log 21). -/
def trimFor (dev : F32) : Int :=
  match (v32 dev).toRat with
  | some (a, b) =>
    let n := roundAway (a * 1000) (b * (600 + Config.trimStep % 601))
    max (-64) (min 63 (if Config.trimSlows then n else -n))
  | none => 0

/-- RTC_WINDOW (R375 to R377): a window of 32 s of the RTC, `periods` reference periods long, ends (log 21). -/
def execRtcWindow (periods : Nat) (s : State) : Out :=
  doneIf (isUp s && hamperFree s && decide (0 < periods) && decide (s.clock.rtcWindowAt + 32000 ≤ s.clock.tick)) s (
    let s1 := { s with clock := { s.clock with rtcWindowAt := s.clock.tick } }
    let num : Int := ((768000000 : Int) - periods) * 1000000
    let s2 := setF s1 0x2901 0x04 (f32 num periods)
    let s3 := showReference (if 200 * periods < num.natAbs then raise s2 0xB020 else learnWindow s2)
    if getN s3 0x2901 0x01 = 1 then
      let t := trimFor (expectedDrift s3)
      let s4 := deviceWrite s3 0x2901 0x02 (leBytes 1 (ofSigned 8 t))
      thermosWrite { s4 with clock := { s4.clock with trimmed := true } } fun x => { x with trim := t }
    else s3)

end Sys2Proof.Machine
end

