-- ==== Sys2Proof/Machine/Storage.lean ====
section
/-! DEFINITION. The Hamper controller at work: page writes in the order of R34, scrubbing (R406), test writes (R422), page
inspection (R423). -/

namespace Sys2Proof.Machine

/-! ## What a page holds (R409, R410, R413) -/

/-- The bytes of one copy of a record (R410). A copy that fails its check holds bytes the spec does not give (log 23). -/
def copyImage (id k : Nat) (c : Copy) : Bytes :=
  let all := copyBytes id c
  if c.ok then all else (List.range all.length).map fun i => Config.hiddenByte c.seq.toNat (128 * recordPage id k + i)

/-- A page's bytes where the spec prints no layout for it (log 23): they change only with a write of the page. -/
def hiddenPage (s : State) (page : Nat) : Bytes :=
  (List.range 128).map fun i => Config.hiddenByte ((mapGet s.stor.marks page).getD 0) (128 * page + i)

/-- Whether no layout is printed for a page (log 23): learning memory, trace buffers. -/
def unprinted (page : Nat) : Bool := regionOf (128 * page) == 3 || regionOf (128 * page) == 8

/-- The byte at an address: of the image put in at manufacture while it stands (log 12), else of memory and the audit ring. -/
def storedByte (s : State) (a : Nat) : Byte :=
  if a < 8113 + Config.factorySize.toNat ∧ (slotInfo s 0).factory = true then factoryImage.getD a 0 else ringByte s a

/-- A page of the intent journal after its commit record (R413): of the target list, else an image. What follows the list in its pages, and
an image page never written, has no printed content (log 23). -/
def journalPage (s : State) (page : Nat) : Bytes :=
  let j := s.stor.journal
  if page < 65546 then
    let rest := (targetList j.listSeq (j.pages.take j.count)).drop (128 * (page - 65538))
    rest.take 128 ++ (hiddenPage s page).drop rest.length
  else match j.pages[page - 65546]? with
    | some p => p.2
    | none => hiddenPage s page

/-- The 128 bytes of a page other than a spare one. -/
def homeBytes (s : State) (page : Nat) : Bytes :=
  match copyAt s page with
  | some (r, k) =>
    let c := (if k = 0 then r.slot0 else r.slot1).getD ⟨0, [], true⟩
    pageSlice (copyImage r.id k c) (page - recordPage r.id k)
  | none =>
    if 65538 ≤ page ∧ page < 65792 then journalPage s page
    else if unprinted page then hiddenPage s page
    else (List.range 128).map fun i => storedByte s (128 * page + i)

/-- The 128 bytes of a logical page; a spare page holds those of the page it was given to (R405; log 23). -/
def pageBytes (s : State) (page : Nat) : Bytes :=
  if page < 516096 then homeBytes s page
  else match (s.stor.remap.table[page - 516096]?).join with
    | some l => if physicalPage s l = page ∧ l < 516096 then homeBytes s l else hiddenPage s page
    | none => hiddenPage s page

/-! ## A write that power cuts short (R411, R415) -/

/-- The pending page write the controller takes next: lowest class of R34, oldest first. -/
def nextPend (s : State) : Option PendWrite := lowestBy (·.cls) s.stor.pend

/-- The write of a record cut short: the copy written last fails its check, and the other one stands. -/
def Rec.cutShort (r : Rec) : Rec := ((r.spoil (if r.use = 1 then 0 else 1)).select).1

/-- The remap table with the copy written last cut short. -/
def Remap.cutShort (r : Remap) : Remap :=
  let f (c : Option RemapCopy) : Option RemapCopy := c.map fun c => { c with ok := false }
  if r.use = 1 then { r with slot0 := f r.slot0 } else { r with slot1 := f r.slot1 }

/-- The ways in which a loss of power after an instant may find the latest operations of more than one page (R415; log 75): an operation
that had not committed, of which no effect has shown yet; the journalled operation, or the limbs and the marker of the period update,
that were written in the last millisecond. -/
def cutsAt (s : State) : List Cut :=
  let recent (r : Nat) : Bool := decide (s.clock.ref ≤ r + refMs)
  .rollBack :: (if s.stor.journal.doneAt.any recent then [.commit] else []) ++
    (match s.stor.update with
      | some u => if recent u.ref then (List.range (u.before.length + 1)).map .carry else []
      | none => [])

/-- The journal or the carry marker is being written as the supply fails: nothing of it is lost, or one of the cuts shows at the next
start. -/
def chooseCut (s : State) : State :=
  let (v, s1) := freshFree s
  { s1 with stor := { s1.stor with cut := (none :: (cutsAt s).map some).getD (v.toNat % ((cutsAt s).length + 1)) none } }

/-- A page write is finished whose page was remapped as the supply failed: the copy of the remap table may be lost (R407, R411). -/
def chooseRemapCut (s : State) : State :=
  let (v, s1) := freshFree s
  if v.toNat % 2 = 0 then s1 else { s1 with stor := { s1.stor with cut := some .remap } }

/-- The page in progress of a pending write is finished, and no later page of it (R415): a copy of a record of several pages fails its
check, so that the old copy stands. -/
def finishPage (s : State) (p : PendWrite) : State :=
  let s1 :=
    if targetWriter p.target ≠ p.writer then landWrite s p
    else match resolve s p.target with
      | .copy id k c =>
        if recPages c.data.length ≤ 1 then landWrite s p
        else countWrites (putInPlace (programRun 1 s (recordPage id k)).2 (.copy id k { c with ok := false })) (recRegion id) 1
      | .bytes a d => (writePlaced s (.bytes a (d.take (128 - a % 128)))).2
      | _ => landWrite s p
  if sparesUsed s1 = sparesUsed s then s1 else chooseRemapCut s1

/-- The rows of a trace whose page writes are discarded are not kept (R34, R270). -/
def dropRows (s : State) : State :=
  s.stor.pend.foldl (fun a p => match p.target with
    | .row t ts =>
      let a1 := updTrace a t fun x => { x with rows := x.rows.filter fun r => r.1 != ts }
      setN a1 (0x2780 + t) 0x14 (traceAt a1 t).rows.length
    | _ => a) s

/-- What the Hamper controller does at a warning or a reset entry (R34, R415, R461, R484): the page write in progress is finished, every
other pending write is discarded; with none pending it was a page of the journal or of the carry marker (log 75, log 88). -/
def hamperStop (s : State) (busy : Bool) : State :=
  let s1 := if !busy then s else match nextPend s with
    | some p => finishPage { s with stor := { s.stor with pend := s.stor.pend.erase p } } p
    | none => chooseCut s
  let s2 := dropRows s1
  { s2 with stor := { s2.stor with pend := [] } }

/-- How the records stand once power has gone, after the cut of a period update that had written k limbs (R418). -/
def cutCarry (s : State) (u : Update) (k : Nat) : State :=
  let put (rs : List Rec) (i : Nat) : List Rec := match u.before[i]? with
    | some r => if i < k then rs else if i = k then recPut rs (recFind rs r.id).cutShort else recPut rs r
    | none => rs
  let rs := (List.range u.before.length).foldl put s.stor.recs
  let marker := if k < u.before.length then u.marker else (recFind rs recMarker).cutShort
  { s with stor := { s.stor with recs := recPut rs marker } }

/-- What a loss of power leaves of the writes that were under way (R411, R414, R415). -/
def applyCut (s0 : State) : State :=
  let s := { s0 with stor := { s0.stor with cut := none, update := none } }
  match s0.stor.cut, s0.stor.update with
  | some .rollBack, _ => { s with stor := { s.stor with journal := { s.stor.journal with listSeq := commitSeq s + 1, count := 0 } } }
  | some .commit, _ => { s with stor := { s.stor with recs := recPut s.stor.recs (recFind s.stor.recs recCommit).cutShort } }
  | some (.carry k), some u => cutCarry s u k
  | some .remap, _ =>
    let s1 := { s with stor := { s.stor with remap := s.stor.remap.cutShort } }
    match s.stor.remap.table.getLast?.join with
    | some page => pageBad s1 page
    | none => s1
  | _, _ => s

/-! ## Commands -/

/-- What the read-back of the next page write shows, before what was known of the coming ones (log 75). -/
def showDiffers (s : State) (differs : Bool) : State := loadTape s (differs :: s.stor.tape)

/-- HAMPER_PAGE_WRITE (R34, R405, R408): the next pending write is checked against its region's writer, programmed and read back.
Outside `hamperFree` only journal writes are taken (log 75). -/
def execHamperPageWrite (differs : Bool) (s : State) : Out :=
  match nextPend s with
  | none => .next s
  | some p =>
    doneIf (isUp s && (hamperFree s || p.cls == 0)) s (
      let s1 := { s with stor := { s.stor with pend := s.stor.pend.erase p } }
      landWrite (if targetWriter p.target = p.writer then showDiffers s1 differs else s1) p)

/-- A scrub cycle may go on (R406): it began within its period, or a new one is due (log 76). -/
def scrubOpen (s : State) : Bool :=
  getN s 0x2E00 0x04 != 0 || s.stor.scrubHours == 0 || decide (s.stor.scrubStart + 3600000 * s.stor.scrubHours ≤ s.clock.tick)

/-- A page showed a corrected error in a scrub (R406): its rewrite is due, or at its third such scrub within 30 days it is remapped. -/
def scrubHit (s : State) (page : Nat) (differs : Bool) : State :=
  let now := devTime s
  let hits := s.stor.scrubHits.filter fun h => decide (now < h.2 + 2592000000)
  if 2 ≤ (hits.filter fun h => h.1 == page).length then
    (remapPage (showDiffers { s with stor := { s.stor with scrubHits := hits.filter fun h => h.1 != page } } differs) page).2
  else { s with stor := { s.stor with scrubHits := (page, now) :: hits, scrubDue := some page } }

/-- The rewrite in place of a page that a scrub has read (R406). -/
def scrubRewrite (s : State) (page : Nat) (differs : Bool) : State :=
  let s1 := showDiffers { s with stor := { s.stor with scrubDue := none } } differs
  countWrites (programPage s1 page).2 (regionOf (128 * page)) 1

/-- The next page of a scrub in ascending order is read (R406; log 76). -/
def scrubRead (s : State) (ecc : Nat) (differs : Bool) : State :=
  let page := getN s 0x2E00 0x04
  let s1 := if page = 0 then
      { s with stor := { s.stor with scrubStart := s.clock.tick, scrubHours := getN s 0x2E00 0x0E } } else s
  let s2 := readPage s1 page ecc
  let s3 := if ecc.testBit 0 && !eccBad ecc then scrubHit s2 page differs else s2
  let s4 := setN s3 0x2E00 0x04 ((page + 1) % 524288)
  if page = 524287 then saveN s4 0x2E00 0x05 (devTime s) else s4

/-- SCRUB_PAGE (R406), while no other write waits (R34): the page last read is rewritten where that is due, else the next page is read.
`ecc` is what a page read shows, `differs` whether the first page written reads back otherwise (log 76). -/
def execScrubPage (ecc : Nat) (differs : Bool) (s : State) : Out :=
  doneIf (isUp s && hamperFree s && s.stor.pend.isEmpty && (s.stor.scrubDue.isSome || scrubOpen s)) s (
    match s.stor.scrubDue with
    | some page => scrubRewrite s page differs
    | none => scrubRead s ecc differs)

/-- The address test of a test write (R422). -/
def testRefused (v : Bytes) : Option Nat :=
  let a := fieldN v 0 4
  if 0x09FFC00 ≤ a ∧ a ≤ 0x09FFFFF then none else some 0x0302

/-- A test write (R422): from the address to the end of its page, the rest ignored (R408). Without a spare page it fails, and its
write aborts and changes no entry of its own (R14, R405; log 77). -/
def testWrite (s : State) (v : Bytes) : Bool × State :=
  let a := fieldN v 0 4
  let n := (rawPageWrite s.stor.mem a (v.drop 4)).1
  match writePlaced s (.bytes a ((v.drop 4).take n)) with
  | (true, s1) => (true, setN (setN s1 0x2E10 0x02 n) 0x2E10 0x03 (bitVal (sparesUsed s1 != sparesUsed s) 0))
  | (false, s1) => (false, s1)

/-- The page that a read of 2E20.02 returns (R423); the content of an uncorrectable page is not known. -/
def inspectedBytes (s : State) (page ecc : Nat) : Bytes :=
  if eccBad ecc then (List.range 128).map fun i => Config.hiddenByte s.used (128 * page + i) else pageBytes s page

/-- A read of 2E20.02 (R423): the selected page, with 2E20.03 and 2E20.04 set for that read. -/
def inspectPage (s : State) (page ecc : Nat) : State :=
  let s1 := readPage s page ecc
  let st := bitVal (ecc.testBit 0) 0 + bitVal (eccBad ecc) 1 + bitVal (spareOf s.stor.remap.table page).isSome 2 + bitVal (ecc.testBit 3) 3
  setN (setN s1 0x2E20 0x03 st) 0x2E20 0x04 (physicalPage s page)

end Sys2Proof.Machine
end

