-- ==== Sys2Proof/Machine/Health.lean ====
section
/-! DEFINITION. Health: speed index and core supply (R19, R20), die temperature and prediction (R445, R446), histograms and
lifetime counters (R447, R448), replacement criteria (R450 to R453), advisories (R454). -/

namespace Sys2Proof.Machine

/-! ## Die temperature (R509, R445) -/

/-- The die temperature of bank k in degrees Celsius, from its last channel-10 result (R509); NaN before the first. -/
def bankTemp (s : State) (k : Nat) : F64 :=
  match (convAt s k).dieCode with
  | some c => dadd (f64 25) (ddiv (dsub (ddiv (dmul (f64 5 4) (f64 c)) (f64 8388608)) (f64 1 2)) (f64 2 1000))
  | none => nan64

/-- The banks whose die temperature has been converted in the last 10 s. -/
def freshBanks (s : State) : List Nat :=
  (List.range 8).filter fun k => (convAt s k).dieCode.isSome && decide (s.clock.tick < (convAt s k).dieTick + 10000)

/-- 2F00.08: the mean over the banks converted in the last 10 s; with none it keeps its value (R445; log 78). -/
def showDieTemp (s : State) : State :=
  let bs := freshBanks s
  if bs.isEmpty then s
  else setF s 0x2F00 0x08 (toF32 (ddiv (bs.foldl (fun a k => dadd a (bankTemp s k)) (f64 0)) (f64 bs.length)))

/-- DIE_TEMPERATURE_INJECT (R445): with no bank converted in the last 10 s, channel 10 of ADC0 is injected once per minute. -/
def execDieTemperatureInject (s : State) : Out :=
  let ok := islandsRun s && (freshBanks s).isEmpty && decide (s.health.dieInject + 60000 ≤ s.clock.tick)
    && decide ((convAt s 0).inject.length < 2)
  doneIf ok s (showConv (stageRequest { s with health := { s.health with dieInject := s.clock.tick } } 0 true 10 s.clock.ref) 0)

/-! ## Speed index (R19, R446) -/

/-- Lower table point and fraction of a value among four axis points, clamped to them (R445). -/
def axisPlace (axis : List Int) (x : F64) : Nat × F64 :=
  let at_ (i : Nat) : F64 := f64 ((axis[i]?).getD 0) 100
  let i := if dlt x (at_ 1) then 0 else if dlt x (at_ 2) then 1 else 2
  let y := if dlt x (at_ 0) then at_ 0 else if dlt (at_ 3) x then at_ 3 else x
  (i, ddiv (dsub y (at_ i)) (dsub (at_ (i + 1)) (at_ i)))

/-- The predicted index at a core voltage in mV and a die temperature: bilinear over 2F03 (R445). -/
def predicted (s : State) (mv : Nat) (t : F64) : F64 :=
  let (i, a) := axisPlace [60, 70, 80, 90] (f64 mv 1000)
  let (j, b) := axisPlace [-4000, 2500, 8500, 12500] t
  let p (v t : Nat) : F64 := toF64 (getF s 0x2F03 (1 + 4 * v + t))
  let row (v : Nat) : F64 := dadd (p v j) (dmul b (dsub (p v (j + 1)) (p v j)))
  dadd (row i) (dmul a (dsub (row (i + 1)) (row i)))

/-- The speed index of a tick in thousandths enters the mean of the last 1 000 ticks, 2F00.04, the conditions 0x0001 and 0x0002 and
the hour's ratios (R19, R22, R446; log 78). -/
def speedTick (s : State) (index : Nat) : State :=
  let ring := (index :: s.clock.speedRing).take 1000
  let sum := ring.foldl (· + ·) 0
  let s1 := setF { s with clock := { s.clock with speedRing := ring } } 0x2F00 0x04 (f32 (sum : Nat) (1000 * ring.length))
  let slow := decide (sum < 550 * ring.length)
  let margin := decide (sum < 1000 * ring.length) && s.power.coreMv == 900
  let s2 := judge (judge s1 0x0001 slow) 0x0002 margin
  let s3 := if slow then setBit s2 0x2F00 0x03 0 true else s2
  let s4 := if margin then setBit s3 0x2F00 0x03 1 true else s3
  let t := toF64 (getF s4 0x2F00 0x08)
  if dIsNaN t then s4
  else
    let r := ddiv (f64 index 1000) (predicted s4 s4.power.coreMv t)
    { s4 with health := { s4.health with ratioSum := dadd s4.health.ratioSum r, ratioCount := s4.health.ratioCount + 1 } }

/-- Sum of the speed ring and its length (log 78). -/
def speedMean (s : State) : Nat × Nat := (s.clock.speedRing.foldl (· + ·) 0, s.clock.speedRing.length)

/-- CORE_SUPPLY_ADJUST (R20): one 10 mV step up while the 1 s mean is below 1.00, 10 µs after the last step or now, the later of the
two; one down while it is above 1.10, 100 ms after the last. -/
def execCoreSupplyAdjust (s : State) : Out :=
  let (sum, n) := speedMean s
  let up := decide (sum < 1000 * n) && decide (s.power.coreMv < 900)
  let down := decide (1100 * n < sum) && decide (600 < s.power.coreMv)
  let t := match s.power.raiseAt with | some x => max s.clock.ref (x + (if up then 240 else 100 * refMs)) | none => s.clock.ref
  doneIf (isUp s && (up || down) && dueRef s t) s (
    let s1 := advance s t
    { s1 with power := { s1.power with coreMv := if up then s.power.coreMv + 10 else s.power.coreMv - 10, raiseAt := some t } })

/-! ## Histograms and lifetime counters (R447, R448) -/

/-- One second more in a bin of a histogram of 32 U32 counts; it saturates. -/
def histAdd (s : State) (sub : Nat) (bin : Option Int) : State :=
  match bin with
  | none => s
  | some b =>
    let i := (max 0 (min 31 b)).toNat
    let v := getBytes s 0x2F08 sub
    setBytes s 0x2F08 sub (v.take (4 * i) ++ leBytes 4 (min 0xFFFFFFFF (fieldN v (4 * i) 4 + 1)) ++ v.drop (4 * i + 4))

/-- The bin of a value: (x times `num` minus `off`) over `den`, rounded down; none for a value that is not finite (R447). -/
def binOf (x : F32) (num off den : Int) : Option Int :=
  match (v32 x).toRat with
  | some (a, b) => some ((a * num - off * b).fdiv (den * b))
  | none => none

/-- HISTOGRAM_SAMPLE (R447, R448): once per second, one second of operating time, the three histograms, and the self-test failure
time of each path (log 74). -/
def execHistogramSample (s : State) : Out :=
  doneIf (isUp s && decide (s.health.lastSecond < s.clock.tick / 1000)) s (
    let s1 := { s with health := { s.health with lastSecond := s.clock.tick / 1000 } }
    let op := getN s1 0x2F10 0x01 + 1
    let s2 := setN (setN s1 0x2F10 0x01 op) 0x2F10 0x02 (op / 3600)
    let s3 := histAdd s2 1 (binOf (getF s 0x2F00 0x08) 1 (-40) 5)
    let s4 := histAdd s3 2 (binOf (getF s 0x3000 0x04) 1 0 2)
    let s5 := histAdd s4 3 (binOf (getF s 0x2F00 0x04) 1000 400 25)
    (List.range 4).foldl (fun a p => if (vAt a.health.failSince p none).isSome then addN a (0x2F14 + p) 0x04 1 else a) s5)

/-- The entries a flush writes (R448). -/
def lifetimeEntries : List (Nat × Nat) :=
  (List.range 3).map (fun i => (0x2F08, i + 1)) ++ (List.range 10).map (fun i => (0x2F10, i + 1))
    ++ (List.range 16).map (fun i => (0x2F14 + i / 4, 1 + i % 4)) ++ (List.range 10).map (fun r => (0x2F18 + r, 3))

/-- The lifetime records are written, the learning sums and windows with them (R448). Where a write fails the counters stay in RAM and 0xE020
is raised (R456; log 74). -/
def flushLifetime (s : State) : State :=
  let s0 := { s with health := { s.health with lastFlush := getN s 0x2F10 0x01 } }
  let s1 := setN s0 0x2F10 0x0A (devTime s)
  let (ok, s2) := lifetimeEntries.foldl (fun (a : Bool × State) e =>
    let (ok, x) := a
    let (b, x) := storeEntry x e.1 e.2 (getBytes x e.1 e.2)
    (ok && b, x)) (true, s1)
  let h := s2.health
  if ok then dropCond { s2 with health := { h with saved := ⟨h.hourly, h.drift, h.errorDays, s2.net.hours, s2.net.binWindows⟩ } } 0xE020
  else raiseHeld s2 0xE020

/-- LIFETIME_FLUSH (R448): every 600 s of operating time; `differs` says that the first page reads back otherwise. -/
def execLifetimeFlush (differs : Bool) (s : State) : Out :=
  doneIf (isUp s && hamperFree s && decide (s.health.lastFlush + 600 ≤ getN s 0x2F10 0x01)) s (flushLifetime (showDiffers s differs))

/-! ## Replacement requests (R450 to R452) -/

/-- The entry and request stored when a reason is first met, and its condition (R451). -/
def replacement (s : State) (r : Nat) : State :=
  if getBit s 0x2F00 0x02 r then s
  else
    let q := queueEvent s.kiln.queue 5 (devTime s)
    let s1 := journalPut s [(0x2F00, 0x02, leBytes 2 (putBit (getN s 0x2F00 0x02) r true)), (0x2F02, r + 1, leBytes 8 (devTime s))]
      [keptImage q]
    raiseHeld (setQueue s1 q) (0xE010 + r)

/-- A judged criterion (R450): the enable mask has its bit and it is met. -/
def judgeCriterion (s : State) (r : Nat) (met : Bool) : State :=
  if (getN s 0x2F01 0x08).testBit r && met then replacement s r else s

/-- The error-rate window 2F24 (R450; log 74). -/
def errorWindow (s : State) : State :=
  let reads := s.health.errorDays.foldl (fun a d => a + d.1) 0
  let errs := s.health.errorDays.foldl (fun a d => a + d.2) 0
  setF (putN (putN s 0x2F24 0x01 reads) 0x2F24 0x02 errs) 0x2F24 0x03 (f32 (1000000000 * errs : Nat) (max reads 10000000000))

/-- Sums of the self-check conversions of converter k over the window. -/
def driftSums (s : State) (k : Nat) : DriftDay :=
  (vAt s.health.drift k []).foldl (fun a d =>
    ⟨a.zeros + d.zeros, a.zeroSum + d.zeroSum, a.refs + d.refs, a.refSum + d.refSum⟩) ⟨0, 0, 0, 0⟩

/-- |sum / n − baseline| is above a limit. -/
def beyondLimit (sum : Int) (n : Nat) (base : Int) (limit : Nat) : Bool := decide (limit * n < (sum - base * n).natAbs)

/-- Drift status of converter k (R450, R455): 2 not judged, 1 beyond, 0 within. -/
def driftStatus (s : State) (k : Nat) : Nat :=
  let d := driftSums s k
  let i := 0x2F28 + k
  if d.zeros < 1000 ∨ d.refs < 1000 then 2
  else if beyondLimit d.zeroSum d.zeros (getI s i 0x01) (getN s 0x2F01 0x05)
    || beyondLimit d.refSum d.refs (getI s i 0x02) (getN s 0x2F01 0x06) then 1 else 0

/-- The drift entries of converter k. -/
def showDrift (s : State) (k : Nat) : State :=
  let d := driftSums s k
  let i := 0x2F28 + k
  let mean (x : Int) (n : Nat) : F32 := if n = 0 then nan32 else f32 x n
  setN (putN (putF (putF s i 0x03 (mean d.zeroSum d.zeros)) i 0x04 (mean d.refSum d.refs)) i 0x05 (min d.zeros d.refs)) i 0x06
    (driftStatus s k)

/-- A new day of operating time: the daily buckets move on (R450; log 74). -/
def healthDay (s : State) : State :=
  let day := getN s 0x2F10 0x01 / 86400
  if s.health.lastDay < day then
    { s with health := { s.health with
      lastDay := day, errorDays := ((0, 0) :: s.health.errorDays).take 30,
      drift := s.health.drift.map fun l => (⟨0, 0, 0, 0⟩ :: l).take 30 } }
  else s

/-- The normalised index of the hour and of 30 days (R446; log 78). -/
def normalisedHour (s : State) : State :=
  let h := s.health
  let x := if h.ratioCount = 0 then nan32 else toF32 (ddiv h.ratioSum (f64 h.ratioCount))
  let hours := if h.ratioCount = 0 then h.hourly else (x :: h.hourly).take 720
  let s1 := { s with health := { h with hourly := hours, ratioSum := f64 0, ratioCount := 0 } }
  putF (putF s1 0x2F00 0x05 x) 0x2F00 0x06 (if hours.length < 168 then nan32 else meanF hours)

/-- HEALTH_HOUR (R446, R450, R451): at each whole hour of operating time. -/
def execHealthHour (s : State) : Out :=
  let hour := getN s 0x2F10 0x01 / 3600
  doneIf (isUp s && hamperFree s && decide (s.health.lastHour < hour)) s (
    let s1 := normalisedHour { s with health := { s.health with lastHour := hour } }
    let s2 := (List.range 8).foldl showDrift (errorWindow s1)
    let reads := getN s2 0x2F24 0x01
    let errs := getN s2 0x2F24 0x02
    let rate := f64 (1000000000 * errs : Nat) (max reads 10000000000)
    let c0 := judgeCriterion s2 0 (flt (getF s2 0x2F00 0x06) (getF s2 0x2F01 0x01))
    let c1 := judgeCriterion c0 1 (decide (sparesFree s * 100 < getN s 0x2F01 0x02 * 8192))
    let c2 := judgeCriterion c1 2 (dlt (toF64 (getF s 0x2F01 0x03)) rate)
    let c3 := judgeCriterion c2 3 (flt (getF s 0x2F01 0x04) (fabs (getF s 0x2901 0x06)))
    healthDay (judgeCriterion c3 4 ((List.range 8).any fun k => driftStatus s2 k == 1)))

/-- Loss time of criteria 5 and 6 in ms. -/
def lossTime (s : State) : Nat := 3600000 * getN s 0x2F01 0x07

/-- Pair i is judged by criterion 5 + i (R450): path mask 3, and for the downstream pair bridging. -/
def pairJudged (s : State) (i : Nat) : Bool := (pairAt s i).mask == 3 && (i == 0 || s.bus.bridging)

/-- An instant is set and lies the loss time back. -/
def lostFor (s : State) (t : Option Nat) : Bool := match t with | some x => decide (x + lossTime s ≤ s.clock.tick) | none => false

/-- PATH_LOSS_TIMEOUT (R450, R451): one path of pair i has failed self-test without a break for the loss time. -/
def execPathLossTimeout (i : Nat) (s : State) : Out :=
  let h := s.health.failSince
  doneIf (isUp s && hamperFree s && decide (i < 2) && pairJudged s i
      && (lostFor s (vAt h (2 * i) none) || lostFor s (vAt h (2 * i + 1) none))) s (judgeCriterion s (5 + i) true)

/-- PATH_LOSS_CLEAR (R452): both paths of pair i have passed self-test without a break for the loss time. -/
def execPathLossClear (i : Nat) (s : State) : Out :=
  doneIf (isUp s && hamperFree s && decide (i < 2) && getBit s 0x2F00 0x02 (5 + i) && lostFor s (vAt s.health.passSince i none)) s
    (dropCond (saveN s 0x2F00 0x02 (putBit (getN s 0x2F00 0x02) (5 + i) false)) (0xE015 + i))

/-! ## Advisories (R454) -/

/-- A write of 1 to 2F00.09: status bit 6 clears (R454). -/
def acknowledgeMiss (s : State) : State := { s with power := { s.power with deadlineMiss := false } }

/-- A read of 2F00.0A: 0x0004 and advisory bit 3 clear (R454). -/
def refusedRead (s : State) : State := setBit (dropCond s 0x0004) 0x2F00 0x03 3 false

end Sys2Proof.Machine
end

