-- ==== Sys2Proof/Machine/Display.lean ====
section
/-! DEFINITION. The bistable display (R425 to R439) and the indicators (R440 to R442). -/

namespace Sys2Proof.Machine

/-! ## Geometry and guards (R426, R428, R429, R432, R433) -/

/-- Panel width in pixels. -/
def panelW (s : State) : Nat := getN s 0x2A00 0x02
/-- Panel height in pixels. -/
def panelH (s : State) : Nat := getN s 0x2A00 0x03
/-- The display is enabled. -/
def displayOn (s : State) : Bool := getB s 0x2A00 0x01
/-- Change the display state. -/
def updDisplay (s : State) (f : DisplaySt → DisplaySt) : State := { s with display := f s.display }

/-- The frame period test of R426 with one of 02 to 05 replaced. -/
def frameTooShort (s : State) (sub v : Nat) : Bool :=
  let e (i : Nat) : Nat := if i = sub then v else getN s 0x2A00 i
  decide (e 0x04 < e 0x03 * (e 0x02 / 4 + 20) * e 0x05 + 1000)

/-- Frame count of a waveform. -/
def waveCount (v : Bytes) : Nat := fieldN v 0 1
/-- Drive code k of a waveform (R428); after its end code 0 (R435). -/
def waveCode (v : Bytes) (k : Nat) : Nat := if k < waveCount v then fieldN v (1 + k / 4) 1 / 4 ^ (k % 4) % 4 else 0

/-- The checks of a waveform write (R428): 0x0301 for the length, 0x0302 for its content. -/
def waveRefused (v : Bytes) : Option Nat :=
  let n := waveCount v
  let codes := (List.range n).map (waveCode v)
  if v.length ≠ 1 + (n + 3) / 4 then some 0x0301
  else if 64 < n ∨ codes.contains 3 = true ∨ codes.count 1 ≠ codes.count 2 then some 0x0302 else none

/-- The waveform of band b for a from-level (4 for unknown) and a to-level. -/
def waveform (s : State) (b f t : Nat) : Bytes := getBytes s (0x2A08 + b) (1 + 4 * f + t)

/-- Some waveform that moves a pixel is empty, in some band (R429). -/
def waveMissing (s : State) : Bool :=
  (List.range 8).any fun b => (List.range 5).any fun f => (List.range 4).any fun t => f != t && waveCount (waveform s b f t) == 0

/-- The bounds of the bands rise strictly with one of 01 to 09 replaced (R443). -/
def bandsRise (s : State) (sub : Nat) (v : F32) : Bool :=
  let e (i : Nat) : F32 := if i = sub then v else getF s 0x2A01 i
  (List.range 8).all fun i => flt (e (i + 1)) (e (i + 2))

/-- The rectangle of window w (8 the metrology window). -/
def windowRect (s : State) (w : Nat) : Nat × Nat × Nat × Nat :=
  let i := 0x2A10 + w
  (getN s i 0x02, getN s i 0x03, getN s i 0x04, getN s i 0x05)

/-- Window w is enabled. -/
def windowOn (s : State) (w : Nat) : Bool := getB s (0x2A10 + w) 0x01

/-- Two rectangles overlap. -/
def overlap (a b : Nat × Nat × Nat × Nat) : Bool :=
  decide (a.1 < b.1 + b.2.2.1) && decide (b.1 < a.1 + a.2.2.1)
    && decide (a.2.1 < b.2.1 + b.2.2.2) && decide (b.2.1 < a.2.1 + a.2.2.2)

/-- An enable of window w is refused (R432): a user window that overlaps the metrology window, the metrology window on an enabled user
window, and either beyond the panel. -/
def windowRefused (s : State) (w : Nat) : Bool :=
  let r := windowRect s w
  decide (panelW s < r.1 + r.2.2.1) || decide (panelH s < r.2.1 + r.2.2.2)
    || (if w = 8 then (List.range 8).any fun o => windowOn s o && overlap r (windowRect s o) else overlap r (windowRect s 8))

/-- The queued requests of a window. -/
def windowReqs (s : State) (w : Nat) : List DispReq := s.display.queue.filter fun q => q.window == w

/-- The length and range checks of an update of window w (R44 steps 5 and 6, R433). -/
def updateMalformed (s : State) (w : Nat) (v : Bytes) : Option Nat :=
  let r := windowRect s w
  let (x, y, wd, ht) := (fieldN v 0 2, fieldN v 2 2, fieldN v 4 2, fieldN v 6 2)
  if v.length ≠ 8 + ht * ((wd + 3) / 4) then some 0x0301
  else if wd = 0 ∨ ht = 0 ∨ r.2.2.1 < x + wd ∨ r.2.2.2 < y + ht then some 0x0302 else none

/-- The state and space checks of an update of window w (R433). -/
def updateRefusedFor (s : State) (w : Nat) : Option Nat :=
  if !displayOn s || !windowOn s w then some 0x0401
  else if 16 ≤ s.display.queue.length then some 0x0501 else none

/-- An update of window w is queued (R433). -/
def queueUpdate (s : State) (w : Nat) (v : Bytes) : State :=
  let r := windowRect s w
  updDisplay s fun d => { d with
    queue := d.queue ++ [⟨w, r.1 + fieldN v 0 2, r.2.1 + fieldN v 2 2, fieldN v 4 2, fieldN v 6 2, v.drop 8, 0, 0⟩] }

/-! ## Pixels (R430, R431) -/

/-- Level of a pixel. -/
def levelOf (d : DisplaySt) (p : Nat) : Nat := (mapGet d.pixels p).getD 0 % 4
/-- Whether a pixel's level is known. -/
def knownPixel (d : DisplaySt) (p : Nat) : Bool := decide (4 ≤ (mapGet d.pixels p).getD 0)
/-- Whether every pixel is known (2A00.10). -/
def imageKnown (s : State) : Bool := (s.display.pixels.filter fun e => decide (4 ≤ e.2)).length == panelW s * panelH s
/-- The current image, 4 pixels a byte, row-major, leftmost lowest (R425, R430). -/
def imageBytes (s : State) : Bytes :=
  (List.range (panelW s * panelH s / 4)).map fun i =>
    byte ((List.range 4).foldl (fun a j => a + levelOf s.display (4 * i + j) * 4 ^ j) 0)
/-- The CRC-32 of the current image (R431). -/
def imageCrc (s : State) : Nat := (crc32 (imageBytes s)).toNat

/-- Panel pixel numbers of a rectangle, row-major. -/
def rectPixels (s : State) (x y w h : Nat) : List Nat :=
  ((List.range h).map fun j => (List.range w).map fun i => (y + j) * panelW s + x + i).flatten

/-- Window w contains a pixel that is not known. -/
def windowUnknown (s : State) (w : Nat) : Bool :=
  let (x, y, wd, ht) := windowRect s w
  (rectPixels s x y wd ht).any fun p => !knownPixel s.display p

/-- Add to a pixel's DC ledger; a ledger of 0 is not listed. -/
def ledgerAdd (l : List (Nat × Int)) (p : Nat) (v : Int) : List (Nat × Int) :=
  let x := (mapGet l p).getD 0 + v
  if x = 0 then mapDel l p else mapSet l p x

/-- The drive code of one pair byte in frame k (R435, R437). -/
def pairCode (s : State) (band pair k : Nat) : Nat :=
  waveCode (waveform s band (if pair / 4 % 2 = 1 then 4 else pair % 4) (pair / 8 % 4)) k

/-- What frame k of a rectangle adds to the ledger (R430). -/
def driveFrame (s : State) (l : List (Nat × Int)) (r : Rect) (k : Nat) : List (Nat × Int) :=
  ((rectPixels s r.x r.y r.w r.h).zip r.pairs).foldl (fun a e =>
    match pairCode s r.band e.2 k with
    | 1 => ledgerAdd a e.1 1
    | 2 => ledgerAdd a e.1 (-1)
    | _ => a) l

/-! ## The panel interface (R425) -/

/-- The drive code that the frame in progress gives a pixel (R425, R435): that of the running rectangle it lies in, else 0. -/
def pixelCode (s : State) (p : Nat) : Nat :=
  if !s.display.driving then 0
  else match s.display.rects.find? fun r => (rectPixels s r.x r.y r.w r.h).contains p with
    | some r => match ((rectPixels s r.x r.y r.w r.h).zip r.pairs).find? fun e => e.1 == p with
      | some e => pairCode s r.band e.2 (r.begun - 1)
      | none => 0
    | none => 0

/-- The source data of a row, one byte a source clock: 4 pixels of 2 bits, the leftmost in bits [1:0] (R425). -/
def sourceRow (s : State) (y : Nat) : Bytes :=
  (List.range (panelW s / 4)).map fun i =>
    byte ((List.range 4).foldl (fun a j => a + pixelCode s (y * panelW s + 4 * i + j) * 4 ^ j) 0)

/-- The frame in progress: every row once, from row 0 (R425). -/
def frameScan (s : State) : List Bytes := (List.range (panelH s)).map (sourceRow s)

/-- The period of the source clock in reference periods: 24 MHz divided by 2A00.05 (R425). -/
def sourceClock (s : State) : Nat := getN s 0x2A00 0x05

/-- The length of the next frame in reference periods, and the state after that: with Spread set the spec gives it within 2 % and no more, so
it is a free value there (R425, log 2). -/
def nextPeriod (s : State) : Nat × State :=
  let n := getN s 0x2A00 0x04
  if getB s 0x2A00 0x06 then
    let (v, s1) := freshFree s
    (n - n / 50 + v.toNat % (2 * (n / 50) + 1), s1)
  else (n, s)

/-! ## Bands (R427) -/

/-- The panel temperature (R427). -/
def panelTemp (s : State) : F32 :=
  let n := getN s 0x2A00 0x08
  if 64 ≤ n then toF32 (bankTemp s (n - 64))
  else if portMode s n = 3 ∨ portMode s n = 4 then getF s (0x2000 + n) 0x02 else nan32

/-- The band of a temperature; none outside every band. -/
def bandOf (s : State) (t : F32) : Option Nat :=
  (List.range 8).find? fun b => fle (getF s 0x2A01 (b + 1)) t && flt t (getF s 0x2A01 (b + 2))

/-- Read the panel temperature and judge 0xD030. -/
def readPanel (s : State) : State :=
  let t := panelTemp s
  follow (setF s 0x2A00 0x09 t) 0xD030 (bandOf s t).isNone

/-! ## The metrology window (R436) -/

/-- Millijoules in the unit 2A18.08. -/
def unitMj (u : Nat) : Nat := match u with | 0 => 3600000000 | 1 => 3600000000000 | _ => 1000000000000

/-- What page b of the metrology window shows: meter, direction, tariff, total in the unit, unit, epoch, the two icons
(log 24). -/
def pageContent (s : State) (b : Nat) : List Nat :=
  let m := b / 2
  let t := getN s (0x2200 + m) 0x0A % 4
  let total := getN s (0x2200 + m) (if b % 2 = 0 then 0x30 + t else 0x34 + t)
  [m, b % 2, t, total / unitMj (getN s 0x2A18 0x08), getN s 0x2A18 0x08, getN s 0x2180 0x08,
    bitVal (getN s 0x2F00 0x02 != 0) 0, bitVal s.power.tamperMark 0]

/-- The packed pixel rows of a page (the font is not given: log 24). -/
def pagePixels (content : List Nat) (w h : Nat) : Bytes :=
  ((List.range h).map fun j => (List.range ((w + 3) / 4)).map fun i =>
    byte ((List.range 4).foldl (fun a k =>
      a + (if 4 * i + k < w then (Config.pageLevel content w h (j * w + 4 * i + k)).toNat * 4 ^ k else 0)) 0)).flatten

/-- Queue page b of the metrology window (R436): it replaces a request of the window that waits, and with 16 requests queued it
is left for later (log 80). -/
def queuePage (s : State) (b : Nat) : State :=
  let (x, y, w, h) := windowRect s 8
  let c := pageContent s b
  let q : DispReq := ⟨8, x, y, w, h, pagePixels c w h, 0, b⟩
  let note (d : DisplaySt) : DisplaySt := { d with page := b, content := c }
  if !displayOn s || !windowOn s 8 then s
  else if s.display.queue.any fun r => r.window == 8 && r.started == 0 then
    updDisplay s fun d => note { d with queue := d.queue.map fun r => if r.window = 8 ∧ r.started = 0 then q else r }
  else if 16 ≤ s.display.queue.length then s
  else updDisplay s fun d => note { d with queue := d.queue ++ [q] }

/-- The first page after b in the meter mask, going round. -/
def nextPage (s : State) (b : Nat) : Option Nat :=
  ((List.range 32).map fun i => (b + 1 + i) % 32).find? fun p => (getN s 0x2A18 0x06).testBit p

/-- The page in turn: the one drawn last while its bit is set, else the next. -/
def presentPage (s : State) : Option Nat :=
  if (getN s 0x2A18 0x06).testBit s.display.page then some s.display.page else nextPage s s.display.page

/-- Redraw the metrology window. -/
def redrawPage (s : State) : State := match presentPage s with | some b => queuePage s b | none => s

/-- METROLOGY_PAGE_CHANGE (R436, R453): at the page time the next page is queued; else a page whose shown content has changed. -/
def execMetrologyPageChange (s : State) : Out :=
  let due := decide (s.display.pageAt ≤ s.clock.tick)
  let changed := match presentPage s with | some b => pageContent s b != s.display.content || b != s.display.page | none => false
  doneIf (isUp s && displayOn s && windowOn s 8 && (due || changed)) s (
    if due then
      let s1 := updDisplay s fun d => { d with pageAt := s.clock.tick + 1000 * getN s 0x2A18 0x07 }
      match nextPage s1 s1.display.page with
      | some b => queuePage s1 b
      | none => s1
    else redrawPage s)

/-! ## Rectangles (R434, R435, R437, R438) -/

/-- Rows of a strip of a request (R434): the whole height where its area is within 64 000 pixels. -/
def stripRows (q : DispReq) : Nat := if q.w * q.h ≤ 64000 then q.h else max 1 (64000 / q.w)

/-- The panel rectangle of a request's next strip. -/
def stripRect (q : DispReq) : Nat × Nat × Nat × Nat := (q.x, q.y + q.started, q.w, min (stripRows q) (q.h - q.started))

/-- The to-level of pixel (i, j) of a request. -/
def reqLevel (q : DispReq) (i j : Nat) : Nat := fieldN q.data (j * ((q.w + 3) / 4) + i / 4) 1 / 4 ^ (i % 4) % 4

/-- The rectangle a request's next strip starts as in a band (R435, R437; log 80). -/
def startRect (s : State) (q : DispReq) (band : Nat) : Rect :=
  let (x, y, w, h) := stripRect q
  let pair (i j : Nat) : Nat :=
    let p := (y + j) * panelW s + x + i
    let to_ := reqLevel q i (q.started + j)
    if knownPixel s.display p then levelOf s.display p + 8 * to_ else 4 + 8 * to_
  let pairs := ((List.range h).map fun j => (List.range w).map fun i => pair i j).flatten
  let count (p : Nat) : Nat := waveCount (waveform s band (if p / 4 % 2 = 1 then 4 else p % 4) (p / 8 % 4))
  ⟨q.window, band, pairs.foldl (fun a p => max a (count p)) 0, 0, x, y, w, h, pairs, decide (q.h ≤ q.started + h), q.page, 0⟩

/-- The panel rectangle of a running rectangle. -/
def Rect.area (r : Rect) : Nat × Nat × Nat × Nat := (r.x, r.y, r.w, r.h)

/-- A request whose place in the queue is behind `before` may start (R434). -/
def mayStart (s : State) (before : List DispReq) (q : DispReq) (band : Nat) : Bool :=
  let a := stripRect q
  let run := s.display.rects
  (run.all fun r => !overlap a r.area) && (before.all fun b => !overlap a (b.x, b.y + b.started, b.w, b.h - b.started))
    && decide (run.length < 8) && decide (a.2.2.1 * a.2.2.2 + run.foldl (fun n r => n + r.w * r.h) 0 ≤ 64000)
    && run.all fun r => r.band == band

/-- Where the pair area of the display journal begins (R437). -/
def pairBase : Nat := 0x0808200

/-- The pair bytes of a rectangle go to the pair area (R437). -/
def writePairs (s : State) (r : Rect) : State := applyTarget s (.bytes (pairBase + r.offset) (r.pairs.map byte))

/-- Rectangles with their pair bytes one after another in the pair area, from an offset on. -/
def layPairs : Nat → List Rect → List Rect
  | _, [] => []
  | n, r :: t => { r with offset := n } :: layPairs (n + r.pairs.length) t

/-- A rectangle starts with its pair bytes behind those of the running ones; where they do not fit there, all are laid anew (R437; log
80). -/
def placePairs (s : State) (r : Rect) : State :=
  let behind := s.display.rects.foldl (fun n x => max n (x.offset + x.pairs.length)) 0
  let run := s.display.rects ++ [r]
  if behind + r.pairs.length ≤ 65024 then
    writePairs (updDisplay s fun d => { d with rects := d.rects ++ [{ r with offset := behind }] }) { r with offset := behind }
  else (layPairs 0 run).foldl writePairs (updDisplay s fun d => { d with rects := layPairs 0 run })

/-- Start the request at place i of the queue, if it may: the last strip leaves the queue. -/
def tryStart (s : State) (band i : Nat) : Bool × State :=
  match s.display.queue[i]? with
  | none => (false, s)
  | some q =>
    if mayStart s (s.display.queue.take i) q band then
      let r := startRect s q band
      let rest := if r.last then s.display.queue.eraseIdx i
        else s.display.queue.set i { q with started := q.started + r.h }
      (true, placePairs (updDisplay s fun d => { d with queue := rest }) r)
    else (false, s)

/-- Start the requests a test accepts, in queue order, from place i on. -/
def startThose (ok : DispReq → Bool) (band : Nat) : Nat → Nat → State → State
  | 0, _, s => s
  | n + 1, i, s =>
    match s.display.queue[i]? with
    | none => s
    | some q =>
      if ok q then
        let (b, s1) := tryStart s band i
        startThose ok band n (if b && s1.display.queue.length < s.display.queue.length then i else i + 1) s1
      else startThose ok band n (i + 1) s

/-- Start the requests ready at a boundary: the metrology window first, then in queue order (R434). -/
def startReady (s : State) : State :=
  match bandOf s (getF s 0x2A00 0x09) with
  | none => s
  | some band =>
    if s.power.quiet then s
    else startThose (fun q => q.window != 8) band 16 0 (startThose (fun q => q.window == 8) band 16 0 s)

/-- A rectangle has run its frames (R435): the image, the known bits, the counters. -/
def completeRect (s : State) (r : Rect) : State :=
  let px := (rectPixels s r.x r.y r.w r.h).zip r.pairs
  let s1 := updDisplay s fun d => { d with pixels := px.foldl (fun a e => mapSet a e.1 (4 + e.2 / 8 % 4)) d.pixels,
                                           rects := d.rects.erase r }
  let s2 := addN s1 0x2A00 0x12 1
  let s3 := if !r.last then s2
    else if r.window = 8 then
      updDisplay (dropCond (setN s2 0x2A18 0x09 r.page) 0xD010) fun d => { d with mismatch := false }
    else addN (setN s2 (0x2A10 + r.window) 0x09 (devTime s)) (0x2A10 + r.window) 0x0A 1
  if r.window < 8 && !windowUnknown s3 r.window then updDisplay s3 fun d => { d with lost := putBit d.lost r.window false } else s3

/-- Complete every rectangle that has run its frames, and update the CRC (R431, R435; log 80). -/
def completeRects (s : State) : State :=
  let fin := s.display.rects.filter fun r => decide (r.total ≤ r.begun)
  if fin.isEmpty then s
  else
    let s1 := fin.foldl completeRect s
    setN s1 0x2A00 0x0F (imageCrc s1)

/-- One entry of the display journal record (R437). -/
def rectEntry (r : Rect) : Bytes :=
  leBytes 1 r.window ++ leBytes 1 r.band ++ leBytes 1 r.total ++ leBytes 1 r.begun ++ leBytes 2 r.x ++ leBytes 2 r.y ++ leBytes 2 r.w
    ++ leBytes 2 r.h ++ leBytes 4 r.offset ++ leBytes 4 r.pairs.length ++ leBytes 4 0

/-- The data of the display journal record: the CRC at the last completion and the entries (R437). -/
def displayRecord (s : State) : Bytes :=
  leBytes 4 (getN s 0x2A00 0x0F) ++ leBytes 1 s.display.rects.length ++ leBytes 3 0 ++ (s.display.rects.map rectEntry).flatten

/-- The journal record is written with the present CRC and entries (R437, R438). -/
def writeDisplayJournal (s : State) : State := applyTarget s (.record recDisplay (displayRecord s))

/-- The image CRC in the journal record; 0 in one never written. -/
def journalledCrc (s : State) : Nat := fieldN ((recValue s recDisplay).getD []) 0 4

/-- Entry i of the journal record with its pair bytes (R437). -/
def journalRect (s : State) (b : Bytes) (i : Nat) : Rect :=
  let o := 8 + 24 * i
  ⟨fieldN b o 1, fieldN b (o + 1) 1, fieldN b (o + 2) 1, fieldN b (o + 3) 1, fieldN b (o + 4) 2, fieldN b (o + 6) 2, fieldN b (o + 8) 2,
    fieldN b (o + 10) 2, (memReads s.stor.mem (pairBase + fieldN b (o + 12) 4) (fieldN b (o + 16) 4)).map (·.toNat), true, 0,
    fieldN b (o + 12) 4⟩

/-- The rectangles that the display journal holds. -/
def journalRects (s : State) : List Rect :=
  let b := (recValue s recDisplay).getD []
  (List.range (fieldN b 4 1)).map (journalRect s b)

/-- A mended rectangle: its pixels are known, and the window's last completed time is that of this update (R439). -/
def mendRect (s : State) (r : Rect) : State :=
  let s1 := updDisplay s fun d => { d with
    pixels := ((rectPixels s r.x r.y r.w r.h).zip r.pairs).foldl (fun m e => mapSet m e.1 (4 + e.2 / 8 % 4)) d.pixels }
  if r.window < 8 then setN s1 (0x2A10 + r.window) 0x09 (devTime s) else s1

/-- The mending has ended (R439): every entry has run its frames and is cleared; a window has lost its content exactly where it contains an
unknown pixel (log 81). -/
def mendEnd (s : State) : State :=
  let s1 := s.display.rects.foldl mendRect s
  let lost := (List.range 8).foldl (fun n w => putBit n w (windowUnknown s1 w)) s1.display.lost
  let s2 := updDisplay s1 fun d => { d with rects := [], mending := false, lost := lost }
  let s3 := writeDisplayJournal (setN s2 0x2A00 0x0F (imageCrc s2))
  redrawPage (dropCond (raise s3 0xD001) 0xD020)

/-- One more frame of every running rectangle begins (R435, R438). -/
def beginFrames (s : State) : State :=
  let s1 := updDisplay s fun d => { d with
    ledger := d.rects.foldl (fun l r => if r.begun < r.total then driveFrame s l r r.begun else l) d.ledger,
    driving := true,
    rects := d.rects.map fun r => { r with begun := min r.total (r.begun + 1) } }
  writeDisplayJournal s1

/-- 2A00.0A, 2A00.0E, 2A00.10. -/
def showDisplay (s : State) : State :=
  let rs := s.display.rects
  let band := match rs with
    | r :: _ => r.band
    | [] => if displayOn s then (bandOf s (getF s 0x2A00 0x09)).getD 0xFF else 0xFF
  setN (setN (setN s 0x2A00 0x0A band) 0x2A00 0x0E (rs.foldl (fun n r => n + r.w * r.h) 0)) 0x2A00 0x10 (bitVal (imageKnown s) 0)

/-- The island runs: display enabled, no rail fault, no warning or reset entry, no reference fault (log 81). In recovery it mends, and draws
nothing else (R419, R439). -/
def displayRuns (s : State) : Bool :=
  (islandsRun s || (s.power.phase == .recovery && !s.power.refFault && s.display.mending)) && displayOn s && !s.display.railFault && !s.display.stopped && hamperFree s

/-- DISPLAY_FRAME_BOUNDARY (R425, R427, R434 to R439): rectangles whose last frame has ended complete; the temperature is read;
with the journal record `committed` ready requests start and every running rectangle begins its next frame, otherwise the frame
drives nothing (log 80). -/
def execDisplayFrameBoundary (committed : Bool) (s : State) : Out :=
  let t := s.display.frameAt
  doneIf (displayRuns s && dueRef s t) s (
    let (period, sp) := nextPeriod s
    let s0 := updDisplay (advance sp t) fun d => { d with frameAt := max t s.clock.ref + period, driving := false }
    let s1 := if s0.display.mending then
        (if s0.display.rects.all fun r => decide (r.total ≤ r.begun) then mendEnd s0 else s0) else completeRects s0
    let s2 := readPanel s1
    let s3 := if committed then
        (let s4 := if s2.display.mending then s2 else startReady s2
         if s4.display.rects.isEmpty && (journalRects s4).isEmpty then s4 else beginFrames s4)
      else s2
    showDisplay s3)

/-! ## Enable, image check, rails (R429, R431, R439) -/

/-- A write of `v` to 2A00.01 is refused (R429). -/
def displayRefused (s : State) (v : Nat) : Bool :=
  if v = 1 then waveMissing s else !s.display.rects.isEmpty || s.display.mending

/-- A write of 1 to Enable: the rails come up and the metrology window is drawn (R429, R436). -/
def displayEnable (s : State) : State :=
  redrawPage (updDisplay s fun d => { d with frameAt := s.clock.ref + getN s 0x2A00 0x04, checkAt := s.clock.tick,
                                             pageAt := s.clock.tick + 1000 * getN s 0x2A18 0x07 })

/-- A write of 0: every queued request is discarded and the rails are off (R429). -/
def displayDisable (s : State) : State := showDisplay (updDisplay s fun d => { d with queue := [] })

/-- The known map is cleared, and every user window has lost its content (R431; log 27, log 80). -/
def clearKnown (s : State) : State :=
  updDisplay s fun d => { d with pixels := d.pixels.map fun e => (e.1, e.2 % 4), lost := 255 }

/-- The check of the current image has failed (R431). -/
def loseImage (s : State) : State := updDisplay (clearKnown s) fun d => { d with mismatch := true }

/-- IMAGE_CHECK (R431): every 60 s while no rectangle runs. `corrupt` says that the SRAM's CRC or a ledger differs
(log 84). -/
def execImageCheck (corrupt : Bool) (s : State) : Out :=
  doneIf (displayRuns s && !s.display.mending && s.display.rects.isEmpty && decide (s.display.checkAt + 60000 ≤ s.clock.tick)) s (
    let s1 := updDisplay s fun d => { d with checkAt := s.clock.tick }
    if corrupt || !s1.display.ledger.isEmpty then
      showDisplay (redrawPage (raiseHeld (loseImage (updDisplay s1 fun d => { d with ledger := [] })) 0xD010))
    else setN s1 0x2A00 0x0F (imageCrc s1))

/-- The island stops at once (R439): requests not started are lost; the running rectangles stay journalled. -/
def displayStop (s : State) : State := updDisplay s fun d => { d with queue := [], stopped := true, driving := false }

/-- The island goes on with the running rectangles, cut short as the journal has them: they are mended (R439; log 81). -/
def displayResume (s : State) : State :=
  updDisplay s fun d => { d with stopped := false, mending := d.mending || !d.rects.isEmpty, frameAt := s.clock.ref + getN s 0x2A00 0x04 }

/-- RAIL_FAULT (R439): a drive rail leaves tolerance. -/
def execRailFault (s : State) : Out :=
  doneIf (islandsRun s && displayOn s && !s.display.railFault) s
    (raiseHeld (updDisplay (displayStop s) fun d => { d with railFault := true, stopped := s.display.stopped }) 0xD020)

/-- RAIL_RECOVERY (R439): the rails are good again; the device mends, and 0xD020 holds until then (log 81). -/
def execRailRecovery (s : State) : Out :=
  doneIf (islandsRun s && s.display.railFault) s (
    let s1 := displayResume (updDisplay s fun d => { d with railFault := false })
    let s2 := updDisplay s1 fun d => { d with stopped := s.display.stopped }
    if s2.display.mending then s2 else redrawPage (dropCond s2 0xD020))

/-! ## Indicators (R440 to R442) -/

/-- Indicator i. -/
def indicatorAt (s : State) (i : Nat) : IndicatorSt := vAt s.indicators i indicatorRest

/-- Indicator i plays the replacement pattern from its next cycle on (R441, R453; log 79). -/
def replacementOn (s : State) (i : Nat) : Bool := getN s 0x2F00 0x02 != 0 && getN s 0x2A40 0x01 == i

/-- The cycle indicator i plays next (log 79). -/
def nextCycle (s : State) (i : Nat) : IndicatorSt :=
  let b := 0x2A41 + i
  if replacementOn s i then ⟨0, 0, 5, 125, 16, getF s b 0x01, true⟩
  else ⟨0, 0, getN s b 0x02, getN s b 0x03, getN s b 0x04, getF s b 0x01, false⟩

/-- INDICATOR_STEP (R440, R441): the next step of indicator i; at the end of its cycle the new pattern, step time and length take
effect, and a new current at every step (log 79). -/
def execIndicatorStep (i : Nat) (s : State) : Out :=
  let x := indicatorAt s i
  let b := 0x2A41 + i
  doneIf (islandsRun s && decide (i < 4) && decide (x.nextAt ≤ s.clock.tick)) s (
    let y := if x.step + 1 < x.length then { x with step := x.step + 1, current := getF s b 0x01 } else nextCycle s i
    let s1 := { s with indicators := vUpd s.indicators i fun _ => { y with nextAt := s.clock.tick + y.stepTime } }
    setB (setB s1 b 0x05 (y.pattern.testBit y.step)) b 0x07 y.replacement)

/-- INDICATOR_FAULT (R442): an indicator that is on is open (1) or short (2), or its fault is absent (0). -/
def execIndicatorFault (i kind : Nat) (s : State) : Out :=
  let b := 0x2A41 + i
  doneIf (islandsRun s && decide (i < 4) && (kind == 0 || (decide (kind ≤ 2) && getB s b 0x05))) s (
    if kind = 0 then causeGone (setN s b 0x06 0) (0xD040 + i) else raiseHeld (setN s b 0x06 kind) (0xD040 + i))

end Sys2Proof.Machine
end

