-- ==== Sys2Proof/Machine/Power.lean ====
section
/-! DEFINITION. Supplies, the power-fail warning, the Thermos domain and the entry into a reset (R458 to R480, R484, R490). -/

namespace Sys2Proof.Machine

/-! ## The power-fail warning (R461 to R463) -/

/-- Metrology becomes invalid: bit 0 of 2F00.01 clears, and every running metering period is faulted (R28, R199, R461). -/
def invalidate (s : State) : State :=
  { s with power := { s.power with metrologyValid := false, validAt := none }
           meters := s.meters.map fun x => { x with invalid := true } }

/-- The effects of a power-fail warning that begins at reference instant t (R461). -/
def warningBegins (s : State) (t : Nat) (busy : Bool) : State :=
  let s1 := invalidate (haltDrop (displayStop (hamperStop (advance s t) busy)))
  raiseHeld { s1 with power := { s1.power with warning := some t } } 0xF001

/-- POWER_FAIL_WARNING (R461): VHOLD has stayed below 8.5 V for 10 µs at reference instant t; `busy` says that the Hamper was
writing a page. Where the core does not run yet a start-up is in progress: its steps go on, and the Hamper takes journal writes only from
this instant (R482; log 85). -/
def execPowerFailWarning (t : Nat) (busy : Bool) (s : State) : Out :=
  if coreRuns s then
    doneIf (s.power.warning.isNone && decide (s.clock.ref ≤ t) && dueRef s t) s (warningBegins s t busy)
  else done { s with power := { s.power with warning := some (s.power.warning.getD s.clock.ref) } }

/-- BROWN_OUT_END (R449, R463, R295): VHOLD is back at 9.0 V for 1 ms, within 100 ms of the start of the warning. Before the core runs there
is nothing to count it in (R482; log 85). -/
def execBrownOutEnd (t : Nat) (s : State) : Out :=
  match s.power.warning with
  | none => .next s
  | some w =>
    if !coreRuns s then done { s with power := { s.power with warning := none } }
    else doneIf (decide (s.clock.ref ≤ t) && dueRef s t && decide (t ≤ w + 100 * refMs)) s (
      let s1 := advance s t
      let s2 := { s1 with stor := { s1.stor with cut := none }, power := { s1.power with
        warning := none, validAt := if s1.power.step8 then some (devRef s1 / refSec + 1) else none } }
      let s3 := setN (addN (addN s2 0x3000 0x0C 1) 0x2F10 0x04 1) 0x3000 0x0D ((t - w) / 24)
      let s4 := causeGone s3 0xF001
      if s4.power.entry.isSome then s4 else commitHeld (displayResume s4))

/-! ## What a core reset leaves (R487) -/

/-- A seal request that a reset keeps: it is signed again with seal flag 7 where its signing was in progress (R296)
(log 68). -/
def keptAgain (q : List SealReq) : List SealReq :=
  (q.filter fun r => r.kind != 4).map fun r =>
    { sealReq r.kind r.reasons r.time r.bound with again := r.again || r.busy }

/-- The core after a reset (R487): everything that is held in the Hamper, the Thermos domain, the fuses or the display SRAM stays,
everything else is at its reset value (log 25, log 66, log 94, log 96). -/
def coreReset (s : State) (keepImage : Bool) : State :=
  let s0 := haltDrop s
  { State.reset with
    pending := s.pending
    power := { State.reset.power with phase := .held, cause := s.power.cause, thermal := s.power.thermal,
                                      runningSlot := s.power.runningSlot }
    clock := { State.reset.clock with source := s.clock.source, bound := s.clock.bound, lossHeld := s.clock.lossHeld,
                                      binGood := if coreRuns s then binLearned s else s.clock.binGood }
    thermos := { s0.thermos with trusted := timeTrusted s0 }
    stor := { (applyCut s).stor with pend := [], scrubHours := 0, scrubStart := 0, scrubDue := none }
    net := { State.reset.net with hours := s.health.saved.hours, binWindows := s.health.saved.binWindows }
    alarms := s.alarms.map fun a => { a with due := none }
    audit := s.audit
    kiln := { State.reset.kiln with queue := keptAgain s.kiln.queue, seals := s.kiln.seals, counter := s.kiln.counter,
                                    billingOmitted := s.kiln.billingOmitted, recordsLost := s.kiln.recordsLost }
    reps := (applyCut s).reps.map fun r => { r with settled := false }
    traces := s.traces.map fun t => ⟨0, [], none, 0, 0, false, none, t.kept, none⟩
    display := { State.reset.display with pixels := if keepImage then s.display.pixels else [] }
    health := { State.reset.health with
      hourly := s.health.saved.hourly, drift := s.health.saved.drift, errorDays := s.health.saved.errorDays, saved := s.health.saved }
    used := s.used }

/-- The Thermos domain after its supply has been lost: the power-on-set flag (R470). -/
def thermosLost (s : State) : State := { s with thermos := State.reset.thermos }

/-- The power-down reset (R463): Backup where VBAK holds retention, else Off (log 25). -/
def powerDown (s : State) (retained : Bool) : State :=
  let s1 := coreReset s false
  if retained then { s1 with power := { s1.power with phase := .backup } }
  else thermosLost { s1 with power := { s1.power with phase := .off } }

/-- POWER_DOWN_RESET (R463): VHOLD falls below 6.0 V during a warning; `retained` says that VBAK can hold retention. -/
def execPowerDownReset (retained : Bool) (s : State) : Out :=
  doneIf s.power.warning.isSome s (powerDown s retained)

/-- WARNING_TIMEOUT (R463): 100 ms of warning have passed without recovery. -/
def execWarningTimeout (retained : Bool) (s : State) : Out :=
  match s.power.warning with
  | none => .next s
  | some w => doneIf (coreRuns s && dueRef s (w + 100 * refMs)) s (powerDown s retained)

/-! ## Reset entries (R484, R490) -/

/-- A reset entry starts with a cause (R484): the Hamper actions of a warning, and the display stops (R439; log 88). -/
def entryBegins (s : State) (cause : Nat) (busy : Bool) : State :=
  let s1 := displayStop (hamperStop s busy)
  { s1 with power := { s1.power with entry := some (s.clock.ref, cause) } }

/-- EXTERNAL_RESET (R484): RESET_N has been low for 10 µs. -/
def execExternalReset (busy : Bool) (s : State) : Out :=
  doneIf (coreRuns s && s.power.entry.isNone) s (entryBegins s 3 busy)

/-- The watchdog's limit in milliseconds (R490): 5 000 while the boot ROM runs, 2 000 for the firmware. -/
def watchdogLimit (s : State) : Nat := if s.power.phase = .recovery then 5000 else 2000

/-- WATCHDOG_EXPIRY (R490): the count reaches its limit. -/
def execWatchdogExpiry (busy : Bool) (s : State) : Out :=
  doneIf (coreRuns s && s.power.entry.isNone && decide (watchdogLimit s ≤ s.power.watchdog)) s (entryBegins s 4 busy)

/-- ACTIVATION_RESET (R319): 100 ms after an activation. -/
def execActivationReset (busy : Bool) (s : State) : Out :=
  let due := match s.update.resetAt with | some t => decide (t ≤ s.clock.tick) | none => false
  doneIf (coreRuns s && s.power.entry.isNone && due) s (entryBegins s 5 busy)

/-- RESET_ENTRY_END (R484, R487): 400 µs after the entry began, the logic die and the MRAM controller are reset; rails and the
Thermos domain stay powered, and the display image stays if its CRC is the journalled one (R431). -/
def execResetEntryEnd (s : State) : Out :=
  match s.power.entry with
  | none => .next s
  | some (_, cause) =>
    doneIf (coreRuns s) s (
      let s1 := coreReset s (imageCrc s == journalledCrc s)
      { s1 with power := { s1.power with cause := cause } })

/-! ## Supply monitoring (R458, R460, R475, R478, R480) -/

/-- The hottest die, in thousandths of a degree: the high-voltage die, or a bank of the logic die converted in the last 10 s
(log 87). -/
def hotDie (s : State) (m : SupplyIn) : Bool :=
  decide (125000 < m.temp) || (freshBanks s).any fun k => dlt (f64 125) (bankTemp s k)

/-- VHOLD has stood below the warning threshold since a tick, or not (R478). -/
def lowSince (s : State) (m : SupplyIn) : Option Nat :=
  if flt (f32 m.vhold 1000) (getF s 0x3000 0x09) then some (s.power.supplyLow.getD s.clock.tick) else none

/-- What a measurement of the supply monitor shows in 3000.04 to 07 and 0B, and in bits 0, 2, 3 and 6 of 3000.08 (R458, R460, R475, R478):
the port rail delivers at most 3.0 W. -/
def showSupply (s : State) (m : SupplyIn) : State :=
  let s1 := setF (setF (setF (setF s 0x3000 0x04 (f32 m.vin 1000)) 0x3000 0x05 (f32 m.vhold 1000)) 0x3000 0x06 (f32 m.vport 1000))
    0x3000 0x07 (f32 (min 3000 m.pport : Nat) 1000)
  let s2 := setF s1 0x3000 0x0B (f32 m.temp 1000)
  setN s2 0x3000 0x08 (bitVal (decide (9000 ≤ m.vhold ∧ m.vhold ≤ 60000)) 0
    + bitVal (decide (11400 ≤ m.vport ∧ m.vport ≤ 12600)) 2 + bitVal (decide (3000 < m.pport)) 3 + bitVal (hotDie s m) 6)

/-- A measurement of the supply monitor: what it shows, and the conditions that it decides (R458, R460, R475, R478): input above 60 V, port
rail above 3.0 W, a die above 125 °C, VHOLD below the threshold for 1 s. -/
def measureSupply (s : State) (m : SupplyIn) : State :=
  let low := lowSince s m
  let s1 := showSupply s m
  let s2 := { s1 with power := { s1.power with supplyLow := low } }
  let s3 := judge (judge (judge s2 0xF011 (decide (60000 < m.vhold))) 0xF020 (decide (3000 < m.pport))) 0xF040 (hotDie s m)
  match low with
  | some t => if t + 1000 ≤ s.clock.tick then raiseHeld s3 0xF010 else s3
  | none => causeGone s3 0xF010

/-- SUPPLY_WARNING (R478): a measurement after VHOLD has stood below the threshold 3000.09 for 1 s, or above it. -/
def execSupplyWarning (m : SupplyIn) (s : State) : Out := doneIf (isUp s) s (measureSupply s m)

/-- OVER_VOLTAGE (R458): a measurement of VHOLD above 60 V, or at its end. -/
def execOverVoltage (m : SupplyIn) (s : State) : Out := doneIf (isUp s) s (measureSupply s m)

/-- PORT_RAIL_LIMIT (R460): the load on the port rail would exceed 3.0 W and the buck-boost limits its current, or does so no more. -/
def execPortRailLimit (m : SupplyIn) (s : State) : Out := doneIf (isUp s) s (measureSupply s m)

/-- DIE_OVER_TEMPERATURE (R475): the hottest die is above 125 °C, or no longer (log 87). -/
def execDieOverTemperature (m : SupplyIn) (s : State) : Out := doneIf (isUp s) s (measureSupply s m)

/-- THERMAL_SHUTDOWN (R475): the high-voltage die reaches 145 °C; the warning and the power-down reset run at once; whether the
Hamper was writing a page is a free value (log 2). -/
def execThermalShutdown (m : SupplyIn) (retained : Bool) (s : State) : Out :=
  doneIf (coreRuns s && decide (145000 ≤ m.temp)) s (
    let (v, s0) := freshFree s
    let s1 := powerDown (warningBegins s0 s0.clock.ref (v.getLsbD 0)) retained
    { s1 with power := { s1.power with thermal := true } })

/-! ## The Thermos domain (R467 to R470) -/

/-- Time was trusted, at this instant or when the core was reset (log 94). -/
def trustedNow (s : State) : Bool := if coreRuns s then timeTrusted s else s.thermos.trusted

/-- THERMOS_SWITCH_TO_BACKUP (R467, R469): the 3.3 V rail is below 2.8 V, `cycles` RTC cycles after the last instant known
(log 94). -/
def execThermosSwitchToBackup (cycles : Nat) (s : State) : Out :=
  doneIf (thermosLives s && !s.thermos.onBackup) s (
    let s1 := rtcRun s cycles
    let t := rtcMs s1
    { s1 with thermos := { s1.thermos with
      onBackup := true, lastSwitch := some t, firstSwitch := some (s.thermos.firstSwitch.getD (t, trustedNow s)) } })

/-- THERMOS_SWITCH_TO_MAIN (R467): the rail has been at 3.0 V for 1 ms. -/
def execThermosSwitchToMain (cycles : Nat) (s : State) : Out :=
  doneIf (thermosLives s && s.thermos.onBackup) s (
    let s1 := rtcRun s cycles
    { s1 with thermos := { s1.thermos with onBackup := false } })

/-- TAMPER_ACTIVATION (R311, R312): two consecutive samples of an enabled input stood at its active level;
`cycles` RTC cycles have passed since the last instant known, where no tick runs. -/
def execTamperActivation (i cycles : Nat) (s : State) : Out :=
  let t := tamperAt s i
  doneIf (thermosLives s && decide (i < 2) && t.enable && !t.active) s (
    let s1 := rtcRun s cycles
    updTamper s1 i fun t => { t with
      active := true, first := some (t.first.getD (rtcMs s1)), last := rtcMs s1, count := min 65535 (t.count + 1) })

/-- OSCILLATOR_STOPPED (R465, R470): the Thermos supply fell below the retention threshold, or 1 ms passed without an edge of the
32.768 kHz oscillator, in any state. In Backup retention is lost with it: the device is Off. -/
def execOscillatorStopped (s : State) : Out :=
  done (if s.power.phase = .backup then thermosLost { s with power := { s.power with phase := .off } }
    else { s with thermos := { s.thermos with stopped := true } })

/-- A measurement of VBAK judges a condition (R468): raised below its threshold, cleared above it, unchanged at it. -/
def judgeBackup (s : State) (code : Nat) (below above : Bool) : State :=
  if below then raiseHeld s code else if above then dropCond s code else s

/-- BACKUP_MEASUREMENT (R468): every 60 s VBAK is measured, in millivolts; bit 2 of the status says that a supercapacitor
charges. -/
def execBackupMeasurement (mv : Nat) (s : State) : Out :=
  let kind := getN s 0x3001 0x01
  doneIf (isUp s && kind != 0 && decide (s.clock.tick % 60000 = 0)) s (
    let v := f32 mv 1000
    let low := flt v (getF s 0x3001 0x03)
    let s1 := setN (setF s 0x3001 0x02 v) 0x3001 0x04
      ((getN s 0x3001 0x04 &&& 8) + bitVal (decide (1000 < mv)) 0 + bitVal low 1 + bitVal (kind == 2 && decide (mv < 3200)) 2)
    judgeBackup (judgeBackup s1 0xF031 (decide (mv < 1000)) (decide (1000 < mv))) 0xF030 low (flt (getF s 0x3001 0x03) v))

end Sys2Proof.Machine
end

