-- ==== Sys2Proof/Machine/Startup.lean ====
section
/-! DEFINITION. Start-up, storage recovery, boot, metrology valid, the reference-oscillator fault and its restart (R28, R412 to
R419, R320 to R323, R481 to R491). -/

namespace Sys2Proof.Machine

/-! ## Storage recovery (R407, R412, R414, R418, R419) -/

/-- What start-up has read so far: region, words and corrected errors of each run of pages, counted once the counts are loaded (log 46). -/
abbrev Reads : Type := List (Nat × Nat × Nat)

/-- A run of pages is read by the recovery (R404). -/
def recoverRead (x : State × Reads) (first n : Nat) : State × Reads :=
  match pagesShow x.1 first n with
  | (errs, bad) => (pagesMarked x.1 n bad, (regionOf (128 * first), 16 * n, errs) :: x.2)

/-- Step 1 of R419: the remap table from its copies (R407, R412); 0xC040 while one is invalid. -/
def recoverRemap (s : State) : State :=
  let r := s.stor.remap
  let ok (c : Option RemapCopy) : Option RemapCopy := c.filter (·.ok)
  let put (use : Nat) (t : List (Option Nat)) : State := { s with stor := { s.stor with remap := { r with use := use, table := t } } }
  let lost (s : State) (c : Option RemapCopy) : State := if c.isSome then raiseHeld (setBit s 0x2E00 0x01 0 true) 0xC040 else s
  match ok r.slot0, ok r.slot1 with
  | none, none => if r.slot0.isSome || r.slot1.isSome then raise (put 0 []) 0xC010 else put 0 []
  | some a, none => lost (put 1 a.table) r.slot1
  | none, some b => lost (put 2 b.table) r.slot0
  | some a, some b => if newer a.seq b.seq then put 1 a.table else put 2 b.table

/-- The journal has acted: status bit 4, and one of 2E00.09 (completed) and 2E00.0A (rolled back). -/
def journalActed (s : State) (sub : Nat) : State := setN (setBit s 0x2E00 0x01 4 true) 0x2E00 sub 1

/-- The operation is over: the commit record is written with state 0 and a sequence (R414). -/
def closeJournal (s : State) (c : BitVec 32) : State :=
  let j := s.stor.journal
  applyTarget s (.record recCommit (commitBytes 0 c j.count (journalCrc j.listSeq (j.pages.take j.count))))

/-- A page of the journal reads without an uncorrectable error. -/
def journalGood (s : State) (page : Nat) : Bool := !s.stor.bad.contains page

/-- One target of a damaged operation (R414), its images from journal image i on: what can be read of them is written. A record's copy of
which only a part was written fails its check. -/
def replaceGood (s : State) (i : Nat) (p : Placed) : State :=
  let good := (List.range (placedPages p)).filter fun j => journalGood s (65546 + i + j)
  if good.length = placedPages p then (writePlaced s p).2
  else
    let s1 := setBit s 0x2E00 0x01 3 true
    match p with
    | .bytes a d => good.foldl (fun x j =>
        let from_ := 128 * (a / 128 + j) - a
        (writePlaced x (.bytes (a + from_) ((d.drop from_).take (128 - (a + from_) % 128)))).2) s1
    | .copy id k c => if good.isEmpty then s1 else putInPlace s1 (.copy id k { c with ok := false })
    | .cell .. | .row .. => s1

/-- The targets of a damaged operation, in list order (R414). -/
def replaceAll : State → Nat → List Placed → State
  | s, _, [] => s
  | s, i, p :: t => replaceAll (replaceGood s i p) (i + placedPages p) t

/-- The pages of the journal are read: the commit record, the target list, and the images of an operation that had committed. -/
def readJournal (s : State) : State × Reads :=
  let x := recoverRead (recoverRead (s, []) 65536 2) 65538 (max 1 (listPages s.stor.journal.count))
  if fieldN ((recValue x.1 recCommit).getD []) 0 1 = 2 then recoverRead x 65546 x.1.stor.journal.count else x

/-- Step 2 of R419: the intent journal (R414). -/
def recoverJournal (s0 : State) : State :=
  let (r, gone, _) := (recFind s0.stor.recs recCommit).select
  let s := { s0 with stor := { s0.stor with recs := if r.slot0.isNone && r.slot1.isNone then s0.stor.recs else recPut s0.stor.recs r } }
  let j := s.stor.journal
  let b := (recValue s recCommit).getD []
  let c := commitSeq s
  let listOk := (List.range (max 1 (listPages j.count))).all fun i => journalGood s (65538 + i)
  let whole := (List.range j.count).all fun i => journalGood s (65546 + i)
  let agrees := whole && fieldN b 7 4 == journalCrc j.listSeq (j.pages.take j.count)
  let dropped (s : State) : State := { s with stor := { s.stor with journal := { s.stor.journal with listSeq := c, count := 0 } } }
  if gone then raise (raise (journalActed (closeJournal s (if listOk then j.listSeq else 0)) 0x0A) 0xC010) 0xC012
  else if fieldN b 0 1 ≠ 2 then if listOk && newer j.listSeq c then raise (journalActed (dropped s) 0x0A) 0xC012 else s
  else if listOk && j.listSeq == c then
    if agrees then raise (journalActed (closeJournal (j.placed.foldl (fun a p => (writePlaced a p).2) s) c) 0x09) 0xC013
    else raise (setBit (closeJournal (replaceAll (raiseHeld s 0xC020) 0 j.placed) c) 0x2E00 0x01 4 true) 0xC015
  else raise (setBit (setBit (closeJournal s c) 0x2E00 0x01 4 true) 0x2E00 0x01 3 true) 0xC015

/-- The pages of every copy of every record are read (R404, R412). -/
def readRecords (x : State × Reads) : State × Reads :=
  let run (x : State × Reads) (id k : Nat) (c : Option Copy) : State × Reads :=
    match c with | some c => recoverRead x (recordPage id k) (recPages c.data.length) | none => x
  x.1.stor.recs.foldl (fun x r => run (run x r.id 0 r.slot0) r.id 1 r.slot1) x

/-- Step 3 of R419: every two-copy record (R412), with the counts of twins and of records defaulted. -/
def recoverRecords (s : State) : State :=
  let picks := s.stor.recs.map Rec.select
  let gone := (picks.filter fun p => p.2.1).length
  let twins := (picks.filter fun p => p.2.2).length
  let s1 := setN (setN { s with stor := { s.stor with recs := picks.map (·.1) } } 0x2E00 0x0D gone) 0x2E00 0x0C twins
  let s2 := if 0 < gone then raise (setBit s1 0x2E00 0x01 7 true) 0xC010 else s1
  if 0 < twins then raise (setBit s2 0x2E00 0x01 6 true) 0xC011 else s2

/-- The striped counters (R416): index, subindex, limbs. -/
def stripedCounters : List (Nat × Nat × Nat) :=
  ((List.range 16).map fun m => (0x2200 + m, 0x0B, 1) :: (0x2200 + m, 0x0C, 2) :: (List.range 8).map fun r => (0x2200 + m, 0x30 + r, 4)).flatten
    ++ (List.range 32).map fun q => (0x2220 + q, 0x05, 2)

/-- The record numbers of every limb. -/
def limbRecords : List Nat :=
  (stripedCounters.map fun c => (List.range c.2.2).map fun k => recLimb (keyOf c.1 c.2.1) k).flatten

/-- Step 4 of R419: a set carry marker is completed (R418). -/
def recoverCarry (s : State) : State :=
  match recValue s recMarker with
  | none => s
  | some b =>
    if fieldN b 0 1 ≠ 1 then s
    else
      let write (a : State) (i : Nat) : State :=
        match limbRecords.find? fun r => recordId r == fieldN b (12 + 2 * i) 2 with
        | some r => applyTarget a (.record r ((b.drop (28 + 4 * i)).take 4))
        | none => a
      let s1 := (List.range (min 8 (fieldN b 3 1))).foldl write s
      let done := leBytes 1 0 ++ (b.drop 1).take 59 ++ leBytes 8 (max (fieldN b 60 8) (fieldN b 4 8))
      raise (setN (setBit (applyTarget s1 (.record recMarker done)) 0x2E00 0x01 5 true) 0x2E00 0x0B 1) 0xC014

/-- Every persistent entry takes its stored value, the striped ones from their limbs (R41, R416). -/
def loadEntries (s : State) : State :=
  let load (a : State) (r : Rec) : State :=
    match r.inUse with
    | some c => if (rowAt (r.id / 256) (r.id % 256)).any Row.isP then setBytes a (r.id / 256) (r.id % 256) c.data else a
    | none => a
  let limb (a : State) (key k : Nat) : Nat := match recValue a (recLimb key k) with | some b => leNat b * 2 ^ (32 * k) | none => 0
  let stripe (a : State) (c : Nat × Nat × Nat) : State :=
    setN a c.1 c.2.1 ((List.range c.2.2).foldl (fun n k => n + limb a (keyOf c.1 c.2.1) k) 0)
  stripedCounters.foldl stripe (s.stor.recs.foldl load s)

/-- What the recovery has read is counted (R448). -/
def countRecovery (s : State) (l : Reads) : State := l.foldl (fun a r => countReads a r.1 r.2.1 r.2.2) s

/-- Step 5 of R419: the mending of every journalled rectangle begins, its ledger that of the frames begun (R438, R439). -/
def recoverDisplay (s : State) : State :=
  let j := journalRects s
  updDisplay s fun d => { d with
    ledger := j.foldl (fun l r => (List.range r.begun).foldl (fun l k => driveFrame s l r k) l) [],
    rects := j, mending := !j.isEmpty, mended := !j.isEmpty, frameAt := s.clock.ref + getN s 0x2A00 0x04 }

/-- Steps 1 to 5 of R419, the entries read before the last; a seal slot on a page that cannot be read is invalid (R296, R404). -/
def recoverStorage (s : State) : State :=
  let (s0, l0) := readJournal (recoverRemap s)
  let (sr, l) := readRecords (recoverJournal s0, l0)
  let s1 := countRecovery (loadEntries (recoverCarry (recoverRecords sr))) l
  let ok (m : SealMeta) : Bool := m.valid && !s1.stor.bad.any fun p => pageIn (sealAddr m.slot / 128) 64 p
  let s2 := { s1 with kiln := { s1.kiln with seals := s1.kiln.seals.map fun m => { m with valid := ok m } } }
  recoverDisplay (judgeSpares (if s2.kiln.seals.any fun m => !m.valid then raise s2 0x8010 else s2))

/-! ## Boot (R302, R320 to R323) -/

/-- The security counter is raised to the version of a confirmed preferred slot (R320, R322), with its audit entry. -/
def raiseCounter (s : State) : State :=
  let t := slotInfo s (preferredSlot s)
  if t.state = 4 ∧ s.kiln.counter < t.security then
    appendAudit { s with kiln := { s.kiln with counter := t.security } } .device 9 t.security 0 0 (leBytes 2 s.kiln.counter)
  else s

/-- The slot of R320's first choice: a trial slot uses one attempt, or is rejected when none is left. -/
def bootAttempt (s : State) : State × Nat :=
  let p := preferredSlot s
  let t := slotInfo s p
  if t.state ≠ 3 then (s, p)
  else if t.attempts = 0 then (journalOp s [slotStateImage p { t with state := 5 }], 1 - p)
  else (journalOp s [slotStateImage p { t with attempts := t.attempts - 1 }], p)

/-- A slot may run, in the given states, and its image passes R316 steps 2 to 7 (log 12). -/
def bootable (s : State) (n : Nat) (trial : Bool) : Bool :=
  let t := (slotInfo s n).state
  (t == 4 || (trial && t == 3)) && (checkImage s n false).isNone

/-- Boot slot selection (R320): the state, the slot to run or none for recovery, and whether it is a fallback. -/
def bootSelect (s : State) : State × Option Nat × Bool :=
  let p := preferredSlot s
  let (s0, n) := bootAttempt (raiseCounter s)
  let s1 := readImage s0 n
  if bootable s1 n true then (s1, some n, n != p)
  else
    let t := slotInfo s1 n
    let s2 := if t.state = 4 then raise s1 0x9032 else s1
    let (s3, m) := if n = p then
        (readImage (journalOp s2 [slotStateImage n { t with state := 5, version := 0, security := 0, dictionary := 0 }]) (1 - n), 1 - n)
      else (s2, n)
    if bootable s3 m false then (s3, some m, true)
    else (if m ≠ n ∧ (slotInfo s3 m).state = 4 then raise s3 0x9032 else s3, none, false)

/-! ## Step 6: book-keeping (R485) -/

/-- Items 1 and 2 of R485: audit kind 10, whose cause 1 goes before every other, the power cycle or watchdog reset, the lifetime records
(R448, R449). -/
def recordPowerUp (s : State) (cause : Nat) (cycle lost : Bool) : State :=
  let s1 := appendAudit s .device 10 0 0 0 [byte (if lost then 1 else cause)]
  let s2 := if cycle then addN s1 0x2F10 0x03 1 else s1
  let s3 := if getN s2 0x2F10 0x03 = 1 ∧ getN s2 0x2F10 0x08 = 0 then setN s2 0x2F10 0x08 (devTime s2) else s2
  let s4 := if cause = 4 then raise (setBit (addN s3 0x2F10 0x05 1) 0x2F00 0x03 2 true) 0xE030 else s3
  if hamperFree s4 then flushLifetime s4 else s4

/-- Item 3 of R485: the backup times of a switch-over since the last start-up (R469; log 82). -/
def recordBackup (s : State) : State :=
  match s.thermos.lastSwitch with
  | none => s
  | some t =>
    let now := devTime s
    let secs := (now - t) / 1000
    let s1 := saveN (saveN s 0x3001 0x06 t) 0x3001 0x07 now
    let s2 := saveN s1 0x3001 0x08 (getN s 0x3001 0x08 + secs)
    let s3 := if getN s 0x3001 0x09 < secs then saveN s2 0x3001 0x09 secs else s2
    let s4 := saveN s3 0x3001 0x05 (getN s 0x3001 0x05 + 1)
    let s5 := match s.thermos.firstSwitch with
      | some (f, tr) => if getN s 0x2F10 0x09 = 0 then saveN (saveN s4 0x2F10 0x09 f) 0x3001 0x0B tr.toNat else s4
      | none => s4
    { s5 with thermos := { s5.thermos with lastSwitch := none } }

/-- One kept request of 20 bytes (R292); a billing request finds its place in `setQueue`. -/
def keptParse (b : Bytes) : SealReq :=
  { sealReq (fieldN b 0 1) (fieldN b 1 2) (fieldN b 3 8) (if fieldN b 11 1 = 0 then none else some (fieldN b 12 8)) with
    placed := fieldN b 0 1 != 1 }

/-- Item 7 of R485: the kept requests are queued again in their order (R292); one whose signing was interrupted is signed again
with seal flag 7, 0x8002 and 2B20.0A (R296; log 68). -/
def requeueKept (s : State) : State :=
  let b := (recValue s recKept).getD []
  let old := s.kiln.queue
  let mark (r : SealReq) : SealReq :=
    { r with again := old.any fun o => o.again && o.kind == r.kind && o.time == r.time && o.bound == r.bound }
  let q := (List.range (b.length / 20)).map fun i => mark (keptParse ((b.drop (20 * i)).take 20))
  let s1 := setQueue s q
  if q.any (·.again) then raise (saveN s1 0x2B20 0x0A (getN s 0x2B20 0x0A + 1)) 0x8002 else s1

/-- Item 5 of R485: tamper activations held, or the entry of a retention loss (R312, R313). -/
def recordTamper (s : State) (lost : Bool) : State :=
  if lost then tamperSettings (raise (logTamper s 2 1 0) 0x9011) else logInput (logInput s 0) 1

/-- Item 6 of R485: a fallback's actions (R321). -/
def recordFallback (s : State) (fallback : Bool) : State :=
  if fallback then
    let n := s.power.runningSlot
    let s1 := appendAudit s .device 8 0x2D10 n 0 ((slotInfo s (1 - n)).digest.take 8)
    let s2 := applyTarget s1 (.record recPreferred [byte n])
    raiseHeld { s2 with power := { s2.power with fallback := true } } 0x9031
  else s

/-- The first start of an image whose digest differs from that of the latest stored seal asks for an event seal (R323)
(log 83). -/
def newFirmware (s : State) : State :=
  match latestSeal s fun _ => true with
  | some m => if (m.header.drop 136).take 32 = (slotInfo s s.power.runningSlot).digest then s else requestEvent s 3
  | none => s

/-- The slot flags and slot error times that the interval in progress had collected (R206; log 89). -/
def restoreSlots (s : State) (c : Bytes) : State :=
  (List.range 16).foldl (fun a m => updMeter a m fun x => { x with
    slotFlags := fieldN c (8 + 4 * m) 2, errTime := fieldN c (10 + 4 * m) 2 }) s

/-- Item 8 of R485: the record of the interval that was in progress, as it stood at its end, the latest committed period end (R184,
R204, R209, R486; log 89). A tamper event that the start-up has logged sets flag 10 of it (R312). -/
def recordInterrupted (s0 : State) : State :=
  let b := startRecord s0
  if !startRunning b then s0
  else
    let c := (recValue s0 recSoFar).getD []
    let start := fieldN b 0 8
    let len := fieldN b 8 2
    let tariff := fieldN b 10 1
    let fin := max start (committedEnd s0)
    let fl := fieldN c 0 2
    let mask := fieldN c 6 2
    let s := showSaturated (restoreSlots s0 c) b mask
    let flags := fl + bitVal (!fl.testBit 3) 3 + bitVal (getBit s0 0x2243 0x03 10 && !fl.testBit 10) 10
    let r := makeRecord s start fin len tariff flags (fieldN c 2 4) mask (fieldN c 72 4) (fieldN c 76 4) (fieldN c 80 1)
    raise (setN (appendRecord s r (startBytes s false fin len tariff) (leBytes 8 (lastDate s))) 0x2243 0x03 0) 0x5001

/-! ## What the engines show after a start -/

/-- The bus settings in use from now on (R330, R356), and each pair begins to listen (R347). -/
def joinPairs (s : State) : State :=
  let pair (i : Nat) (on : Bool) : PairSt :=
    let b := 0x1104 + i
    { enabled := on, nodeId := getN s 0x1100 (1 + 2 * i), segment := getN s 0x1100 (2 + 2 * i), mask := getN s b 0x09,
      nominal := getN s (0x1101 + i) 0x01, data := getN s (0x1101 + i) 0x02, tdc := getN s (0x1101 + i) 0x05,
      joinEnd := if on then some (s.clock.tick + 2 * getN s b 0x01) else none, silent := false, holder := none, expiry := 0,
      renewed := 0, lease := getN s b 0x01, preferred := getN s b 0x02, revertHold := getN s b 0x03, passiveLimit := getN s b 0x04,
      hbPending := false, hbCount := 0 }
  let bridge := getB s 0x1300 0x01
  { s with bus := { s.bus with bridging := bridge, resetNeeded := false,
                               pairs := vUpd (vUpd s.bus.pairs 0 fun _ => pair 0 true) 1 fun _ => pair 1 bridge } }

/-- Entries and conditions that follow from what is stored (R41, R373, R400, R451, R454; log 70, log 96). -/
def showStored (s : State) : State :=
  let s1 := (List.range 7).foldl (fun a r => if getBit a 0x2F00 0x02 r then raiseHeld a (0xE010 + r) else a) s
  let s2 := (List.range 4).foldl judgeFluid ((List.range 96).foldl judgeTable s1)
  let s3 := showCounters (showTariff s2)
  let s4 := (List.range 64).foldl (fun a n => if getB a (0x1240 + n) 0x01 then setN a (0x1240 + n) 0x08 1 else a) s3
  let s5 := (List.range 8).foldl (fun a t => match (traceAt a t).kept with
    | some b => setN (setN (setN a (0x2780 + t) 0x13 3) (0x2780 + t) 0x14 (fieldN b 16 4)) (0x2780 + t) 0x16 (fieldN b 24 8)
    | none => a) s4
  let s6 := (List.range 8).foldl (fun a k => setN a (0x2F28 + k) 0x06 (driftStatus a k)) s5
  let op := getN s 0x2F10 0x01
  let s7 := { s6 with health := { s6.health with lastHour := op / 3600, lastFlush := op, lastDay := op / 86400 }
                      power := { s6.power with tamperMark := recValue s recMarks == some [1] } }
  let s8 := (List.range 8).foldl (fun a i => planAlarm (updAlarm a i fun x => { x with
    lastDate := (recValue s (recAlarm i)).map leNat }) i (localTime a)) (refreshLocal (roleWritten s7))
  judgeTrust s8

/-- Loops, their learning controllers and the groups after a start (R252, R256, R489): a loop with a stored mode runs in Hold; no
member of an enabled group has a value to offer. -/
def startLoops (s : State) : State :=
  let s1 := (List.range 96).foldl (fun a l =>
    let a1 := if getB a (0x2500 + l) 0x01 then setN (repIdle a l) (0x2500 + l) 0x03 (repCells a l) else a
    if loopMode a1 l = 0 then a1
    else
      let a2 := updLoop a1 l fun _ => { loopRest with
        active := 3, safe := lf a1 l 0x1D, table := getN a1 (0x2400 + l) 0x11 }
      setN a2 (0x2300 + l) 0x07 (statusWord a2 l)) s
  (List.range 16).foldl (fun a g => if getB a (0x2700 + g) 0x01 then groupIdle a g else a) s1

/-- Step 7: every port takes its stored mode (R483). -/
def startPorts (s : State) : State :=
  (List.range 64).foldl (fun a n => if portMode a n = 0 ∨ pairedOdd a n = true then a else modeEnable a n) s

/-- A converter's island starts: a converter with Run set waits for its trigger, requests that waited run, and the state shows it (R126,
R131, R143). -/
def startConverter (s : State) (k : Nat) : State :=
  let s1 := if convRun s k then convStart s k else s
  showConv (if (convAt s1 k).slot.isNone && !((convAt s1 k).inject.isEmpty && (convAt s1 k).calib.isEmpty) then resumeConv s1 k s1.clock.ref
    else s1) k

/-- Step 8: converters and lanes with Run set restart, and every reference settles anew (R126, R137, R152). -/
def startConverters (s : State) : State :=
  let s1 := (List.range 8).foldl (fun a k => unsettle a k) s
  let s2 := (List.range 8).foldl startConverter s1
  (List.range 8).foldl (fun a k => if laneRun a k then laneStart a k else a) s2

/-- The display after a start (R431, R487): an image that was not kept is unknown, and an enabled display draws again (log 84). -/
def startDisplay (s : State) : State :=
  let s1 := if s.display.pixels.isEmpty then (if displayOn s then raiseHeld (loseImage s) 0xD010 else loseImage s) else s
  let s2 := setN s1 0x2A00 0x0F (imageCrc s1)
  showDisplay (if displayOn s2 then displayEnable s2 else s2)

/-- The first cycle of every indicator begins (R440). -/
def startIndicators (s : State) : State :=
  (List.range 4).foldl (fun a i =>
    let y := nextCycle a i
    let a1 := { a with indicators := vUpd a.indicators i fun _ => { y with nextAt := a.clock.tick + y.stepTime } }
    setB (setB a1 (0x2A41 + i) 0x05 (y.pattern.testBit 0)) (0x2A41 + i) 0x07 y.replacement) s

/-! ## Start-up (R470, R471, R481 to R488) -/

/-- Step 3, before storage is read: a set flag, or a check word that does not match, loses every Thermos value (R373, R470); else
time goes on from the RTC with source 2 turned into 3 (log 82). -/
def thermosCheck (s : State) (lost : Bool) : State :=
  if lost then
    { s with thermos := { State.reset.thermos with stopped := false }
             clock := { s.clock with source := 0, bound := none, edge := 0 } }
  else
    { s with thermos := { s.thermos with onBackup := false }
             clock := { s.clock with source := if s.clock.source = 2 then 3 else s.clock.source,
                                     edge := -((s.thermos.frac * 46875 / 64 : Nat) : Int) } }

/-- What the device records of step 3 once storage is read (R373, R470); the stored trim goes back to the crystal (R375). -/
def recordRetention (s : State) (lost : Bool) : State :=
  if lost then
    let s1 := writeNow (saveN (saveN s 0x2900 0x0E (devTime s)) 0x3001 0x0A (getN s 0x3001 0x0A + 1)) (.record recUntrusted [1])
    let s2 := setBit (setN s1 0x2901 0x0A 1) 0x3001 0x04 3 true
    raiseHeld (thermosWrite { s2 with clock := { s2.clock with lossHeld := true } } fun t => { t with trim := getI s2 0x2901 0x02 }) 0xB001
  else if recValue s recUntrusted = some [1] then raiseHeld { s with clock := { s.clock with lossHeld := true } } 0xB001
  else { s with clock := { s.clock with lossHeld := false } }

/-- Recovery (R323): the boot ROM alone runs; every output holds its safe value and FAULT_N is asserted. A loss in the Thermos
domain stays marked there for the firmware that starts next (R313; log 83). -/
def enterRecovery (s : State) (lost : Bool) : State :=
  let s1 := (List.range 64).foldl (fun a n => if isOutput (portMode a n) then holdSafe a n else a) s
  raiseHeld { s1 with power := { s1.power with phase := .recovery, faultN := true },
                      thermos := { s1.thermos with stopped := lost } } 0x9033

/-- Steps 6 and 7, and the beginning of steps 8 and 10; step 6 in the order of R485, the check word of the Thermos domain written afresh
(R470). -/
def startFirmware (s : State) (cause n : Nat) (cycle lost fallback : Bool) : State :=
  let s1 := { s with power := { s.power with
    phase := .up, runningSlot := n, starting := true, thermal := false, watchdog := 0, spread := getB s 0x3000 0x0A } }
  let s2 := recordBackup (recordPowerUp (thermosWrite (recordRetention s1 lost) id) cause cycle lost)
  let s3 := requeueKept (newFirmware (epochSeal (recordFallback (recordTamper (dirtyStart s2) lost) fallback)))
  let s4 := recordInterrupted s3
  let s5 := startPorts (startLoops (joinPairs (showStored s4)))
  showTime (trackPaths (startIndicators (startDisplay (startConverters s5))))

/-- The device public key that the certificate carries (R302, R304). -/
def certKey (s : State) : Bytes := ((getBytes s 0x2C00 0x02).drop 72).take 32

/-- What a start records before its boot selection, whatever that finds: the restart after a thermal shutdown (R475), and a check word that
did not match (R470). -/
def recordStart (s : State) (cause : Nat) (mismatch : Bool) : State :=
  let s1 := if cause = 6 then raise (saveN s 0x3000 0x0E (getN s 0x3000 0x0E + 1)) 0xF041 else s
  if mismatch then raise s1 0xF050 else s1

/-- A start-up that a power-fail warning has reached goes on under it (R461, R482). -/
def startWarned (s : State) : State := if s.power.warning.isSome then raiseHeld (displayStop s) 0xF001 else s

/-- The start-up sequence, with the cause latched; `cycle` says that it starts from Off or Backup. -/
def startUp (s : State) (cause cycles : Nat) (cycle checkOk keyOk : Bool) : State :=
  let s1 := rtcRun s cycles
  let mismatch := !checkOk || s1.thermos.check != thermosWord s1.thermos
  let lost := s1.thermos.stopped || mismatch
  let s2 := recordStart (recoverStorage (thermosCheck { s1 with power := { s1.power with coreMv := 800 } } lost)) cause mismatch
  let good := keyOk && certKey s2 == getBytes s2 0x2C00 0x01
  let s3 := { s2 with kiln := { s2.kiln with keyFault := !good } }
  let s4 := if good then s3 else raiseHeld s3 0x9002
  match bootSelect s4 with
  | (s5, some n, fb) => startWarned (startFirmware s5 cause n cycle lost fb)
  | (s5, none, _) => startWarned (enterRecovery { s5 with power := { s5.power with thermal := false, watchdog := 0 } } lost)

/-- START_UP (R481): VHOLD has been at 9.0 V for 1 ms, or a reset entry has ended; `cycles` RTC cycles have passed since the last
instant known; `checkOk` says that the Thermos check word matches, `keyOk` that the key store passes its error-correcting code (R302)
(log 25, log 82). -/
def execStartUp (cycles : Nat) (checkOk keyOk : Bool) (s : State) : Out :=
  doneIf (!coreRuns s && !s.power.thermal) s (
    let held := s.power.phase == .held
    startUp s (if held then s.power.cause else 2) cycles (!held) checkOk keyOk)

/-- THERMAL_RESTART (R475): the high-voltage die has cooled to 125 °C, `temp` in thousandths, after a thermal shutdown. -/
def execThermalRestart (temp : Int) (cycles : Nat) (checkOk keyOk : Bool) (s : State) : Out :=
  doneIf (!coreRuns s && s.power.thermal && decide (temp ≤ 125000)) s (startUp s 6 cycles true checkOk keyOk)

/-! ## Metrology valid (R488) -/

/-- Bit 0 of 2F00.01 is set. After a start-up the next interval starts now, with record flag 4, flag 8 where its length differs
from that of the interval before it (R203), and the flags 6, 7 and 10 of what fell between the two (log 89), and the meters wait for their next boundary (R209, R488). -/
def metrologyStarts (s : State) : State :=
  let s1 := causeGone { s with power := { s.power with metrologyValid := true, validAt := none, limitJudged := true } } 0x0020
  if s.interval.running then s1
  else
    let t := devTime s
    let len := getN s 0x2240 0x01
    let tariff := tariffSelect s
    let kept := getN s 0x2243 0x03 &&& 0x04C0
    let old := fieldN (startRecord s) 8 2
    let s2 := startInterval s1 t len tariff (putBit kept 4 true + bitVal (old != 0 && old != len) 8)
    let s3 := applyTarget s2 (.record recStart (startBytes s2 true t len tariff))
    { s3 with meters := s3.meters.map fun x => { x with enabledAt := t, start := none } }

/-- Every running converter's reference has settled, or the monitor finds it out of tolerance (log 85). -/
def referencesSettled (s : State) : Bool := (List.range 8).all fun k => !convRun s k || settled s k || (convAt s k).outOfTol

/-- METROLOGY_VALID (R488): step 8 ends. During a power-fail warning bit 0 waits for the end of a brown-out (log 85). -/
def execMetrologyValid (s : State) : Out :=
  doneIf (islandsRun s && !s.power.step8 && referencesSettled s) s (
    let s1 := { s with power := { s.power with step8 := true } }
    if hamperFree s then metrologyStarts s1 else s1)

/-- METROLOGY_VALID_TIMEOUT (R488): bit 0 has not been set yet when 2 s have passed since the start instant, which lies `lead` ms before tick 0 (steps 1 and 2 of
R481 take 3 to 16 ms) (log 85). -/
def execMetrologyValidTimeout (lead : Nat) (s : State) : Out :=
  doneIf (isUp s && !s.power.limitJudged && decide (3 ≤ lead) && decide (lead ≤ 16)
      && decide (2000 ≤ s.clock.tick + lead)) s
    (raiseHeld { s with power := { s.power with limitJudged := true } } 0x0020)

/-! ## Reference-oscillator fault (R28, R491) -/

/-- Converter k as its island stops: its frame, delay and slot are lost; an injected or calibration conversion that ran waits again in
front of its queue, and a ratiometric reference counts as in tolerance, since no slot runs (R131, R133, R136; log 86). -/
def haltConverter (s : State) (k : Nat) : State :=
  let s1 := updConv (slotOver s k s.clock.ref) k fun c =>
    { c with waiting := false, delay := none, frame := none, slot := none,
             inject := (match c.slot with | some sl => if sl.kind = .injected then [sl.channel] else [] | none => []) ++ c.inject,
             calib := (match c.slot with | some sl => if sl.kind = .calibration then [sl.channel] else [] | none => []) ++ c.calib }
  showConv s1 k

/-- Loop l at the fault: its job is abandoned; one in mode 1 or 2 goes into Hold, in which the port's safe value is what it applies and
resumes from (R489, R491; log 86). -/
def haltLoop (s : State) (l : Nat) : State :=
  let s1 := updLoop s l fun x => { x with latch := none, outAt := none, job := none, staged := none, fresh := none }
  let x := loopAt s l
  if x.active = 1 ∨ x.active = 2 then
    repIdle (updLoop s1 l fun x => { x with active := 3, resume := (if x.resume = 1 then 1 else 2), prev := none, applied := none }) l
  else s1

/-- Port n while the port output island is stopped (R101): its safe value, at 0.1 V/µs; a duty other than 0 and 100 % becomes 0 %, and an
actuator pair stops both lines. -/
def faultSafe (s : State) (n : Nat) : State :=
  let m := portMode s n
  if !isOutput m then s
  else if m = 14 then
    setBit (updPort (showEstimate (stopLine (holdSafe s n) n) n) n fun p => { p with line := .still }) (0x2000 + n) 0x03 13 false
  else
    let v := milliPercent (safeValue s n)
    let partly := (m = 12 ∨ m = 13) ∧ v ≠ 0 ∧ v ≠ 100000
    drive (holdSafe s n) n (if partly then 0 else safeValue s n) 1

/-- REFERENCE_OSCILLATOR_FAULT (R28): timed islands stop, outputs go to their safe values, metrology is invalid, the bus stops
sending (log 86). -/
def execReferenceOscillatorFault (s : State) : Out :=
  doneIf (coreRuns s && !s.power.refFault) s (
    let s0 := (List.range 96).foldl haltLoop ((List.range 64).foldl faultSafe (invalidate s))
    let s1 := (List.range 8).foldl haltConverter s0
    raiseHeld { s1 with
      power := { s1.power with refFault := true, step8 := false }
      lanes := s1.lanes.map fun l => { l with meas := none } } 0x0003)

/-- Each enabled pair rejoins (R347, R491). -/
def rejoinPairs (s : State) : State :=
  { s with bus := { s.bus with pairs := s.bus.pairs.map fun p =>
    { p with holder := none, joinEnd := if p.enabled then some (s.clock.tick + 2 * p.lease) else none } } }

/-- Port n when the reference runs again (R101, R106, R491): the level has reached its target meanwhile; a tripped port goes to its
trip value, any other output holds its safe value; an actuator pair re-homes first. -/
def portRestart (s : State) (n : Nat) : State :=
  if !isOutput (portMode s n) then s
  else
    let s1 := updPort s n fun p =>
      { p with level := levelAt s n (s.clock.ref + 240 * refMs), levelAt := s.clock.ref, pwmStart := s.clock.ref, pwmAt := s.clock.ref }
    let trip := getF s (0x2040 + n) 0x1C
    let s2 := if (portAt s n).tripped then setBit (drive s1 n trip (max 10 (slewRate s n))) (0x2000 + n) 0x03 12 false else holdSafe s1 n
    if portMode s n = 14 then
      startHoming (updPort s2 n fun p =>
        { p with line := .still, target := milliPercent (if p.tripped then trip else safeValue s n) }) n
    else s2

/-- REFERENCE_RESTART (R491): the reference has been within tolerance for 10 ms; steps 7 and 8 run again without leaving the port
modes, the pairs rejoin. `cycles` RTC cycles have passed since the last instant known. In recovery the firmware does not run: the
outputs keep their safe values and the bus stays silent (R323; log 86). -/
def execReferenceRestart (cycles : Nat) (s : State) : Out :=
  doneIf (coreRuns s && s.power.refFault) s (
    let s0 := rtcRun s cycles
    let s1 := { s0 with power := { s0.power with refFault := false } }
    if s.power.phase = .recovery then causeGone s1 0x0003 else
    let s2 := (List.range 64).foldl portRestart s1
    let s3 := updDisplay (startConverters s2) fun d => { d with frameAt := s.clock.ref + getN s 0x2A00 0x04 }
    causeGone (evalPairs (rejoinPairs (skipPeriod s3))) 0x0003)

end Sys2Proof.Machine
end

