-- ==== Sys2Proof/Machine/Guards.lean ====
section
/-! DEFINITION. The checks of a write, steps 1 to 10 of R44: type and range (R38 to R40), the values each chapter refuses, and the
states, running actions and space each chapter asks for. -/

namespace Sys2Proof.Machine

/-- The instance of an index in a bank of equal objects. -/
def instOf (base count index : Nat) : Option Nat := if base ≤ index ∧ index < base + count then some (index - base) else none

/-- An abort code where a test holds. -/
def refuse (c : Bool) (code : Nat) : Option Nat := if c then some code else none

/-- The first abort of a list of checks. -/
def firstOf : List (Option Nat) → Option Nat
  | [] => none
  | some c :: _ => some c
  | none :: r => firstOf r

/-! ## Length, type and range (R38 to R40) -/

/-- Valid UTF-8: bytes still expected in the running character, and the bounds of the next of them. -/
def utf8From : Nat → Nat → Nat → Bytes → Bool
  | n, _, _, [] => n == 0
  | 0, _, _, b :: r =>
    let x := b.toNat
    if x < 0x80 then utf8From 0 0 0 r
    else if 0xC2 ≤ x ∧ x ≤ 0xDF then utf8From 1 0x80 0xBF r
    else if 0xE0 ≤ x ∧ x ≤ 0xEF then utf8From 2 (if x = 0xE0 then 0xA0 else 0x80) (if x = 0xED then 0x9F else 0xBF) r
    else if 0xF0 ≤ x ∧ x ≤ 0xF4 then utf8From 3 (if x = 0xF0 then 0x90 else 0x80) (if x = 0xF4 then 0x8F else 0xBF) r
    else false
  | n + 1, lo, hi, b :: r => decide (lo ≤ b.toNat) && decide (b.toNat ≤ hi) && utf8From n 0x80 0xBF r

/-- A STRING value is valid UTF-8 (R39). -/
def utf8Valid (v : Bytes) : Bool := utf8From 0 0 0 v

/-- Step 5 of R44: the length fits the entry (R40). -/
def lengthFits (r : Row) (n : Nat) : Bool := decide (r.minLen ≤ n) && decide (n ≤ r.maxLen)

/-- The type checks of step 6 (R39). -/
def typeAbort (r : Row) (v : Bytes) : Option Nat :=
  match r.ty with
  | .bool => refuse (decide (1 < leNat v)) 0x0302
  | .f32 => refuse (!fFinite (BitVec.ofNat 32 (leNat v))) 0x0302
  | .str => refuse (!utf8Valid v) 0x0302
  | _ => none

/-- The Range column at step 6 (R39); the bounds of a binary32 entry are the binary32 values nearest to those printed (log 26)
(log 4). -/
def rangeAbort (r : Row) (v : Bytes) : Option Nat :=
  let n := leNat v
  let x : F32 := BitVec.ofNat 32 n
  let within (lo hi : Int) : Bool := fle (f32 lo 1000) x && fle x (f32 hi 1000)
  match r.range with
  | .any | .len _ _ => none
  | .nat lo hi st => refuse (!(decide (lo ≤ n) && decide (n ≤ hi) && n % st == 0)) 0x0302
  | .natOr e lo hi => refuse (n != e && !(decide (lo ≤ n) && decide (n ≤ hi))) 0x0302
  | .int lo hi st =>
    let i := toSigned (8 * v.length) n
    refuse (!(decide (lo ≤ i) && decide (i ≤ hi) && i % st == 0)) 0x0302
  | .enum lo hi => refuse (!(decide (lo ≤ n) && decide (n ≤ hi))) 0x0303
  | .oneOf vs => refuse (!vs.contains n) 0x0303
  | .mask m => refuse ((n &&& m) != n) 0x0302
  | .flo lo hi => refuse (!within lo hi) 0x0302
  | .floStep lo hi st => refuse (!(within lo hi && feq x (f32 (st * droundAway (ddiv (toF64 (fmul x (f32 1000))) (f64 st))) 1000))) 0x0302
  | .flo0 lo hi => refuse (!(feq x 0 || within lo hi)) 0x0302
  | .floMin => refuse (!fle 0 x) 0x0302

/-! ## Values refused at steps 5 and 6, by chapter -/

/-- The lengths of the items of a map with one entry replaced (R69; log 31). -/
def itemTotal (s : State) (index count sub n : Nat) : Nat :=
  let e (i : Nat) : Nat := if i = sub then n else getN s index i
  ((List.range (min 16 (e count))).map fun i => e (0x10 + i) % 256).foldl (· + ·) 0

/-- An item a map may hold (R69): an entry of fixed-size type with that length, readable, or for a subscription writable and
without A, M and X (log 31). -/
def itemFits (sub : Bool) (n : Nat) : Bool :=
  let it := itemOf n
  match rowAt it.1 it.2.1 with
  | none => false
  | some r =>
    (match r.ty with | .octets | .str | .record _ => false | _ => true) && r.ty.size == some it.2.2
      && (if sub then r.acc == .rw && !r.isA && !r.isM && !r.isX else r.acc != .wo)

/-- Values of the map entries (R69). -/
def valueMaps (index sub n : Nat) : Option Nat :=
  if 0x1200 ≤ index ∧ index < 0x1280 ∧ 0x10 ≤ sub ∧ sub ≤ 0x1F then
    refuse (!itemFits (decide (0x1240 ≤ index)) n) 0x0302
  else none

/-- Values of the ports (R84, R90, R112; log 32). -/
def valuePorts (s : State) (index sub n : Nat) : Option Nat :=
  let x : F32 := BitVec.ofNat 32 n
  if 0x2000 ≤ index ∧ index < 0x2040 then
    let p := index - 0x2000
    if sub = 0x01 then refuse (p % 2 == 1 && (n == 4 || n == 14)) 0x0303
    else if sub = 0x04 then refuse (isOutput (portMode s p) && !(fle 0 x && fle x (outHigh (portMode s p)))) 0x0302
    else none
  else if 0x2040 ≤ index ∧ index < 0x2080 then
    match sub with
    | 0x01 => refuse (flt x (fadd (getF s index 0x02) (f32 1 5))) 0x0302
    | 0x02 => refuse (flt (getF s index 0x01) (fadd x (f32 1 5))) 0x0302
    | 0x0E => refuse (!flt x (getF s index 0x0F)) 0x0302
    | 0x0F => refuse (!flt (getF s index 0x0E) x) 0x0302
    | _ => none
  else none

/-- Values of converters, sync sets and lanes (R121, R152, R169). -/
def valueConverters (s : State) (index sub n : Nat) : Option Nat :=
  let x : F32 := BitVec.ofNat 32 n
  if 0x2108 ≤ index ∧ index < 0x2110 then
    if sub = 0x03 then refuse (decide (n ≤ getN s index 0x04)) 0x0302
    else if sub = 0x04 then refuse (decide (getN s index 0x03 ≤ n)) 0x0302 else none
  else if 0x2110 ≤ index ∧ index < 0x2114 then
    if sub = 0x02 then refuse (decide (n ≤ getN s index 0x03)) 0x0302
    else if sub = 0x03 then refuse (decide (getN s index 0x02 ≤ n)) 0x0302 else none
  else if 0x2120 ≤ index ∧ index < 0x2130 then
    let k := index % 8
    let e (i j : Nat) : Nat := if i = index ∧ j = sub then n else getN s i j
    let d := laneDuration (e (0x2120 + k) 0x01) (e (0x2128 + k) 0x04) (e (0x2128 + k) 0x05) (e (0x2128 + k) 0x03)
    if index < 0x2128 then refuse ((sub == 0x01 || sub == 0x03) && decide (0 < d ∧ 1000 * e (0x2120 + k) 0x03 < d + 10000)) 0x0302
    else match sub with
      | 0x03 | 0x04 | 0x05 => refuse (decide (0 < d ∧ 1000 * e (0x2120 + k) 0x03 < d + 10000)) 0x0302
      | 0x09 => refuse (decide (getN s index 0x0A ≤ n)) 0x0302
      | 0x0A => refuse (decide (n ≤ getN s index 0x09)) 0x0302
      | 0x0E => refuse (!flt x (getF s index 0x0F)) 0x0302
      | 0x0F => refuse (!flt (getF s index 0x0E) x) 0x0302
      | _ => none
  else none

/-- A billing date of month times 100 plus day exists, and is not 29 February (R215). -/
def billingDate (n : Nat) : Bool :=
  n == 0 || (decide (1 ≤ n / 100) && decide (n / 100 ≤ 12) && decide (1 ≤ n % 100) && decide (n % 100 ≤ monthDays 2001 (n / 100)))

/-- The gain table of loop l with one entry replaced is valid: two points or more, rising strictly (R240). -/
def tableRises (s : State) (l sub n : Nat) : Bool :=
  let e (i : Nat) : Nat := if i = sub then n else getN s (0x2600 + l) i
  decide (2 ≤ e 0x01) && rises ((List.range (min 16 (e 0x01))).map fun i => BitVec.ofNat 32 (e (0x10 + i)))

/-- A number whose Range column depends on the kind beside it (R213, R245, log 29): a lane for flow source kind 0 and for
measurement source 1 is 0 to 7, a zone for setpoint source 3 is 0 to 31. -/
def valueKinds (s : State) (index sub n : Nat) : Option Nat :=
  if 0x2210 ≤ index ∧ index < 0x2220 then refuse (sub == 0x04 && getN s index 0x03 == 0 && decide (7 < n)) 0x0302
  else if 0x2300 ≤ index ∧ index < 0x2360 then
    refuse ((sub == 0x0B && getN s index 0x0A == 1 && decide (7 < n)) || (sub == 0x0D && getN s index 0x0C == 3 && decide (31 < n))) 0x0302
  else none

/-- Values of the loops, controllers, trace sets and zones (R218, R231, R240, R246, R256, R261, R268; log 32, log 34). -/
def valueLoops (s : State) (index sub n : Nat) : Option Nat :=
  let x : F32 := BitVec.ofNat 32 n
  if 0x2400 ≤ index ∧ index < 0x2460 then
    let e (i : Nat) : Nat := if i = sub then n else getN s index i
    match sub with
    | 0x01 | 0x02 | 0x03 | 0x04 =>
      refuse (decide (e 0x01 ≤ e 0x02) || decide (e 0x01 ≤ e 0x03) || decide (e 0x01 < e 0x04)
        || (decide (1 ≤ e 0x04) && decide (e 0x04 ≤ e 0x03))) 0x0302
    | 0x0C | 0x0F | 0x16 => refuse (!flt x (getF s index (sub + 1))) 0x0302
    | 0x0D | 0x10 | 0x17 => refuse (!flt (getF s index (sub - 1)) x) 0x0302
    | _ => none
  else if 0x2600 ≤ index ∧ index < 0x2660 then
    refuse (getN s (0x2400 + (index - 0x2600)) 0x11 != 0 && !tableRises s (index - 0x2600) sub n) 0x0302
  else if 0x2500 ≤ index ∧ index < 0x2560 then
    refuse (sub == 0x01 && n == 1 && leadTooLong s (index - 0x2500)) 0x0302
  else if 0x2780 ≤ index ∧ index < 0x2788 then
    if sub = 0x01 then refuse (n == 1 && traceIllFormed s (index - 0x2780)) 0x0302
    else if sub = 0x0C then refuse (decide (getN s index 0x0B ≤ n)) 0x0302 else none
  else if 0x2820 ≤ index ∧ index < 0x2840 then
    if 0x03 ≤ sub ∧ sub ≤ 0x07 then refuse (flt (fsub (getF s index (sub + 5)) (f32 1 2)) x) 0x0302
    else if 0x08 ≤ sub ∧ sub ≤ 0x0C then refuse (flt (fsub x (f32 1 2)) (getF s index (sub - 5))) 0x0302
    else none
  else if index = 0x2240 ∧ 0x10 ≤ sub then refuse (!billingDate n) 0x0302
  else none

/-- A daylight-saving rule (R392) in range. -/
def ruleFits (v : Bytes) : Bool :=
  decide (1 ≤ fieldN v 0 1) && decide (fieldN v 0 1 ≤ 12) && decide (1 ≤ fieldN v 1 1) && decide (fieldN v 1 1 ≤ 5)
    && decide (fieldN v 2 1 ≤ 6) && decide (fieldN v 3 1 ≤ 2) && decide (fieldN v 4 2 ≤ 1439)

/-- An exception date (R396) in range; with profile 0 nothing else is checked. -/
def exceptionFits (v : Bytes) : Bool :=
  let y := fieldN v 0 2
  let m := fieldN v 2 1
  let d := fieldN v 3 1
  let p := fieldN v 4 1
  p == 0 || (p ≤ 2 && (y == 0 || (decide (2000 ≤ y) && decide (y ≤ 2135))) && decide (1 ≤ m) && decide (m ≤ 12) && decide (1 ≤ d)
    && decide (d ≤ monthDays (if y = 0 then 2000 else y) m) && fieldN v 5 3 == 0)

/-- Numbers rise strictly. -/
def risesN : List Nat → Bool
  | [] => true
  | [_] => true
  | a :: b :: r => decide (a < b) && risesN (b :: r)

/-- A day profile (R394): whole switch points, minutes of the day that rise strictly, finite values. -/
def profileAbort (v : Bytes) : Option Nat :=
  if v.length % 6 ≠ 0 then some 0x0301
  else
    let ps := switchPoints v
    refuse (!(risesN (ps.map (·.1)) && ps.all fun p => decide (p.1 ≤ 1439) && fFinite p.2)) 0x0302

/-- A route table (R369): segments that rise strictly, none of them 0xFFFF or a segment of the device (log 33). -/
def routesFit (s : State) (v : Bytes) : Bool :=
  let segs := (List.range (v.length / 2)).map fun i => fieldN v (2 * i) 2
  v.length % 2 == 0 && risesN segs && segs.all fun g => g != 0xFFFF && g != getN s 0x1100 0x02 && g != getN s 0x1100 0x04

/-- A forwarded-map table (R369; log 33). -/
def forwardsFit (v : Bytes) : Bool :=
  v.length % 6 == 0 && (List.range (v.length / 6)).all fun i =>
    let b := 6 * i
    decide (fieldN v (b + 4) 1 ≤ 1) && fieldN v (b + 5) 1 == 0

/-- Values of the bus, time, storage and trust chapters (log 33). -/
def valueSystem (s : State) (index sub : Nat) (v : Bytes) : Option Nat :=
  let n := leNat v
  match index, sub with
  | 0x1100, 0x02 => refuse (n == getN s 0x1100 0x04) 0x0302
  | 0x1100, 0x04 => refuse (n == getN s 0x1100 0x02) 0x0302
  | 0x1301, 0x01 => refuse (!routesFit s v) 0x0302
  | 0x1302, 0x01 => refuse (!forwardsFit v) 0x0302
  | 0x2902, 0x04 => refuse (!ruleFits v || fieldN v 0 1 == fieldN (getBytes s 0x2902 0x05) 0 1) 0x0302
  | 0x2902, 0x05 => refuse (!ruleFits v || fieldN v 0 1 == fieldN (getBytes s 0x2902 0x04) 0 1) 0x0302
  | 0x2D10, 0x01 => refuse (decide (fieldN v 0 4 ≤ 8112)) 0x0302
  | 0x2E10, 0x01 => testRefused v
  | _, _ =>
    if index = 0x2903 then refuse (!exceptionFits v) 0x0302
    else if 0x2880 ≤ index ∧ index < 0x28C0 ∧ 0x10 ≤ sub then profileAbort v
    else none

/-- Values of the display (R426, R428, R433, R443). -/
def valueDisplay (s : State) (index sub : Nat) (v : Bytes) : Option Nat :=
  if index = 0x2A00 then refuse (decide (0x02 ≤ sub ∧ sub ≤ 0x05) && frameTooShort s sub (leNat v)) 0x0302
  else if index = 0x2A01 then refuse (decide (sub ≤ 0x09) && !bandsRise s sub (BitVec.ofNat 32 (leNat v))) 0x0302
  else if 0x2A08 ≤ index ∧ index < 0x2A10 then waveRefused v
  else if 0x2A10 ≤ index ∧ index < 0x2A18 ∧ sub = 0x06 then updateMalformed s (index - 0x2A10) v
  else none

/-- Everything a chapter adds to steps 5 and 6 of R44. -/
def valueAbort (s : State) (index sub : Nat) (v : Bytes) : Option Nat :=
  let n := leNat v
  firstOf [valueMaps index sub n, valuePorts s index sub n, valueConverters s index sub n, valueKinds s index sub n,
    valueLoops s index sub n,
    valueSystem s index sub v, valueDisplay s index sub v]

/-! ## States, running actions and space: steps 8 to 10, by chapter -/

/-- Maps (R69): guarded entries while enabled, and the total of the items (log 31). -/
def guardMaps (s : State) (index sub n : Nat) : Option Nat :=
  if 0x1200 ≤ index ∧ index < 0x1240 then
    firstOf [refuse (getB s index 0x01 && (sub == 2 || sub == 5 || sub == 8 || decide (0x0A ≤ sub ∧ sub ≤ 0x1F))) 0x0401,
      refuse ((sub == 0x0A || decide (0x10 ≤ sub ∧ sub ≤ 0x1F)) && decide (56 < itemTotal s index 0x0A sub n)) 0x0502]
  else if 0x1240 ≤ index ∧ index < 0x1280 then
    firstOf [refuse (getB s index 0x01 && (decide (2 ≤ sub ∧ sub ≤ 5) || sub == 7 || decide (0x10 ≤ sub))) 0x0401,
      refuse ((sub == 0x07 || decide (0x10 ≤ sub)) && decide (56 < itemTotal s index 0x07 sub n)) 0x0502]
  else none

/-- A write of a port mode is refused (R83, R85, R86). -/
def modeRefused (s : State) (p n : Nat) : Bool :=
  bindingWord s p != 0 || (portAt s p).tripped
    || ((n == 4 || n == 14) && (portMode s (p + 1) != 0 || bindingWord s (p + 1) != 0))

/-- Ports (R85, R86, R105, R107, R110, R112). -/
def guardPorts (s : State) (index sub n : Nat) : Option Nat :=
  if 0x2000 ≤ index ∧ index < 0x2040 then
    let p := index - 0x2000
    match sub with
    | 0x01 => refuse (modeRefused s p n) 0x0401
    | 0x04 => refuse (!isOutput (portMode s p) || loopDriven s p) 0x0401
    | 0x06 | 0x07 => refuse (bindingWord s p &&& 24 != 0) 0x0401
    | 0x08 => refuse (bindingWord s p != 0) 0x0401
    | 0x09 => refuse (decide (n < 50) && getN s (0x2040 + p) 0x18 != 0xFF) 0x0401
    | 0x12 => refuse (!(portAt s p).tripped || getN s (0x2040 + p) 0x1D != 0 || asserted s (getN s (0x2040 + p) 0x1B)) 0x0401
    | _ => none
  else if 0x2040 ≤ index ∧ index < 0x2080 then
    let p := index - 0x2040
    match sub with
    | 0x04 | 0x05 | 0x08 | 0x09 | 0x0A => refuse (bindingWord s p &&& 24 != 0) 0x0401
    | 0x18 => refuse (portMode s p != 5 || decide (getN s (0x2000 + p) 0x09 < 50) || (portAt s p).tripped) 0x0401
    | 0x1B => refuse (!isOutput (portMode s p) || (portAt s p).tripped) 0x0401
    | 0x19 | 0x1A | 0x1C | 0x1D => refuse (portAt s p).tripped 0x0401
    | _ => none
  else none

/-- A port of converter k is a sensor that is not aligned with its partner (R129). -/
def misaligned (s : State) (k : Nat) : Bool :=
  (List.range 16).any fun m => getB s (0x2200 + m) 0x01
    && (let a := getN s (0x2210 + m) 0x01
        let b := getN s (0x2210 + m) 0x02
        (a / 8 == k || b / 8 == k) && !aligned s a b)

/-- A port of converter k is a meter sensor (binding bit 3). -/
def feedsMeter (s : State) (k : Nat) : Bool := (List.range 8).any fun c => (List.range 16).any fun m => meterSensor s m (8 * k + c)

/-- A calibration conversion is running on converter k (R126). -/
def calibrating (s : State) (k : Nat) : Bool := match (convAt s k).slot with | some sl => sl.kind == .calibration | none => false

/-- The capture waits or runs on converter k. -/
def captureOn (s : State) (k : Nat) : Bool := match s.cal.capture with | some c => c.port / 8 == k | none => false

/-- Converters and sync sets (R126, R129, R131, R140). -/
def guardConverters (s : State) (index sub n : Nat) : Option Nat :=
  if 0x2100 ≤ index ∧ index < 0x2108 then
    let k := index - 0x2100
    if sub = 0x01 then refuse (if n = 1 then misaligned s k else calibrating s k) 0x0401
    else refuse (convRun s k) 0x0401
  else if 0x2108 ≤ index ∧ index < 0x2110 then
    let k := index - 0x2108
    match sub with
    | 0x08 | 0x0A => none
    | 0x09 => refuse (decide (2 ≤ (convAt s k).inject.length)) 0x0501
    | 0x0C => refuse (convRun s k || (feedsMeter s k && !s.cal.open_) || captureOn s k) 0x0401
    | _ => refuse (convRun s k) 0x0401
  else if 0x2110 ≤ index ∧ index < 0x2114 then
    refuse (sub != 0x07 && (setMembers s (index - 0x2110)).any (convRun s)) 0x0401
  else none

/-- Lanes (R151, R161, R168, R169). -/
def guardLanes (s : State) (index sub n : Nat) : Option Nat :=
  if 0x2120 ≤ index ∧ index < 0x2128 then
    if sub = 0x02 then refuse (n == 1 && laneRefused s (index - 0x2120)) 0x0401
    else refuse (laneRun s (index - 0x2120)) 0x0401
  else if 0x2128 ≤ index ∧ index < 0x2130 then
    if sub ≤ 0x05 then refuse (laneRun s (index - 0x2128)) 0x0401
    else refuse (sub == 0x17 && (laneAt s (index - 0x2128)).capture.isSome) 0x0403
  else none

/-- Calibration, meters, counters and fluid tables (R170 to R172, R177, R187, R191, R192, R201, R214, R216). -/
def guardMetering (s : State) (who : Requester) (index sub n : Nat) : Option Nat :=
  if index = 0x2180 then sessionRefused s who n
  else if index = 0x2181 then (if sub = 0x06 then captureRefused s else refuse s.cal.capture.isSome 0x0401)
  else if 0x2200 ≤ index ∧ index < 0x2210 then
    let m := index - 0x2200
    if sub = 0x01 then refuse (n == 1 && !getB s index 0x01 && meterRefused s m) 0x0401
    else refuse (sub == 0x02 && getB s index 0x01) 0x0401
  else if 0x2210 ≤ index ∧ index < 0x2220 then refuse (getB s (index - 0x10) 0x01) 0x0401
  else if 0x2220 ≤ index ∧ index < 0x2240 then
    let q := index - 0x2220
    if sub = 0x01 then refuse (if n = 1 then counterRefused s q else (flowMeter s q).isSome) 0x0401
    else refuse (decide (2 ≤ sub ∧ sub ≤ 4) && getB s index 0x01) 0x0401
  else if 0x224C ≤ index ∧ index < 0x2250 then refuse (fluidUsed s (index - 0x224C)) 0x0401
  else none

/-- The configuration with one entry changed is not admitted (R224, R225). -/
def overloaded (s : State) (index sub n : Nat) : Bool := !admitted (setN s index sub n)

/-- Loops and gain-table mode (R219, R225, R235, R240, R245, R256). -/
def guardLoops (s : State) (index sub n : Nat) : Option Nat :=
  if 0x2300 ≤ index ∧ index < 0x2360 then
    let l := index - 0x2300
    let m := loopMode s l
    match sub with
    | 0x01 => if m = 0 ∧ n ≠ 0 then firstOf [refuse (loopRefused s l) 0x0401, refuse (overloaded s index sub n) 0x0502] else none
    | 0x0A | 0x0B | 0x0F => refuse (m != 0) 0x0401
    | 0x0E => refuse (m != 0 || (n != 0xFF && (groupOf s l).isSome)) 0x0401
    | 0x0C | 0x0D => refuse (m == 2 || m == 4) 0x0401
    | _ => none
  else if 0x2400 ≤ index ∧ index < 0x2460 then
    let l := index - 0x2400
    match sub with
    | 0x01 => refuse (loopMode s l != 0 || getB s (0x2500 + l) 0x01) 0x0401
    | 0x02 | 0x03 | 0x04 | 0x05 | 0x13 => refuse (loopMode s l != 0) 0x0401
    | 0x11 => firstOf [refuse (n != 0 && !getB s (0x2600 + l) 0x02) 0x0401,
        refuse (loopMode s l != 0 && overloaded s index sub n) 0x0502]
    | _ => none
  else none

/-- Groups, learning controllers and trace sets (R249, R250, R256, R268, R269, R273). -/
def guardGroups (s : State) (index sub n : Nat) : Option Nat :=
  if 0x2700 ≤ index ∧ index < 0x2710 then
    let g := index - 0x2700
    if sub = 0x01 then
      refuse (if n = 1 then !getB s index 0x01 && groupRefused s g else (groupMembers s g).any fun l => loopMode s l != 0) 0x0401
    else if sub = 0x02 then refuse (getB s index 0x01) 0x0401
    else refuse (decide (3 ≤ sub ∧ sub ≤ 8) && memberRefused s g n) 0x0401
  else if 0x2500 ≤ index ∧ index < 0x2560 then
    let l := index - 0x2500
    match sub with
    | 0x01 => if n = 1 then firstOf [repRefused s l, refuse (loopMode s l != 0 && overloaded s index sub n) 0x0502] else none
    | 0x02 | 0x06 => refuse (getB s index 0x01) 0x0401
    | 0x09 => refuse (loopMode s l == 2 || loopMode s l == 4) 0x0401
    | _ => none
  else if 0x2780 ≤ index ∧ index < 0x2788 then
    let t := index - 0x2780
    if sub = 0x01 then
      if n = 1 then firstOf [traceRefused s t, refuse (overloaded s index 0x13 1) 0x0502] else none
    else if sub = 0x12 then refuse (!traceArmed s t) 0x0401
    else refuse (traceArmed s t) 0x0401
  else none

/-- Zones (R263, R264, R267, R276). -/
def guardZones (s : State) (index sub n : Nat) : Option Nat :=
  if 0x2800 ≤ index ∧ index < 0x2820 then
    let z := index - 0x2800
    match sub with
    | 0x01 => refuse (n == 1 && zoneRefused s z) 0x0401
    | 0x02 => refuse (!zoneOn s z) 0x0401
    | 0x0C => refuse (zoneAlarm s z) 0x0401
    | _ => none
  else if 0x2820 ≤ index ∧ index < 0x2840 then
    let z := index - 0x2820
    if 0x0D ≤ sub ∧ sub ≤ 0x11 then refuse (zoneOn s z) 0x0401
    else refuse (sub == 0x15 && n != 0xFF && !(portMode s n == 3 || portMode s n == 4)) 0x0401
  else none

/-- Trust, update and boot entries (R291, R306, R317 to R319, R321, R322). -/
def guardTrust (s : State) (who : Requester) (index sub : Nat) (v : Bytes) : Option Nat :=
  let t := (slotInfo s (targetSlot s)).state
  match index, sub with
  | 0x2B20, 0x01 => onDemandRefused s
  | 0x2C10, 0x01 => challengeRefused s who
  | 0x2D10, 0x01 => (updateRefused s (fieldN v 0 4) (v.drop 4)).1
  | 0x2D10, 0x02 => blockRefused s v
  | 0x2D10, 0x04 => refuse (t != 2) 0x0401
  | 0x2D10, 0x05 => refuse (t != 1 && t != 2) 0x0401
  | 0x2D20, 0x03 => refuse ((slotInfo s s.power.runningSlot).state != 3) 0x0401
  | 0x2D20, 0x04 => refuse (!s.power.fallback) 0x0401
  | _, _ => none

/-- Mailboxes, time, alarms and the display (R363, R370, R380, R385, R398, R400, R429, R432, R433; log 33). -/
def guardSystem (s : State) (index sub n : Nat) : Option Nat :=
  if 0x1400 ≤ index ∧ index < 0x1410 then refuse (decide (2 ≤ sub) && getB s index 0x01) 0x0401
  else if 0x1410 ≤ index ∧ index < 0x1418 then (if sub = 0x04 then mailRefused s (index - 0x1410) else none)
  else if index = 0x2900 then
    if sub = 0x07 then haltRefused s n else refuse (sub == 0x08 && s.clock.halt.isNone) 0x0401
  else if index = 0x2901 then refuse ((sub == 0x02 || sub == 0x09) && getN s 0x2901 0x01 != 0) 0x0401
  else if 0x2904 ≤ index ∧ index < 0x290C then refuse (decide (2 ≤ sub) && getB s index 0x01) 0x0401
  else if index = 0x2A00 then (if sub = 0x01 then refuse (displayRefused s n) 0x0401 else refuse (displayOn s) 0x0401)
  else if 0x2A01 ≤ index ∧ index < 0x2A10 then refuse (displayOn s) 0x0401
  else if 0x2A10 ≤ index ∧ index < 0x2A19 then
    let w := index - 0x2A10
    if sub = 0x01 then refuse (n == 1 && windowRefused s w) 0x0401
    else if sub ≤ 0x05 then refuse (windowOn s w) 0x0401
    else if w < 8 ∧ sub = 0x06 then updateRefusedFor s w
    else none
  else none

/-- The first failing check of steps 8 to 10 that a chapter asks for. -/
def stateAbort (s : State) (who : Requester) (index sub : Nat) (v : Bytes) : Option Nat :=
  let n := leNat v
  firstOf [guardMaps s index sub n, guardPorts s index sub n, guardConverters s index sub n, guardLanes s index sub n,
    guardMetering s who index sub n, guardLoops s index sub n, guardGroups s index sub n, guardZones s index sub n,
    guardTrust s who index sub v, guardSystem s index sub n]

/-- A write of the entry needs a Hamper write other than a journal write, or starts a journalled operation (R462). -/
def needsHamper (index sub : Nat) (r : Row) : Bool :=
  r.isP || r.isA || (index == 0x2D10 && sub == 0x02) || (index == 0x2B20 && sub == 0x01)

/-- The step of R44 at which a code of steps 8 to 10 is found. -/
def stepOf (code : Nat) : Nat := if code = 0x0403 then 9 else if code / 0x100 = 5 then 10 else 8

/-- The entry is an inject entry 2108+k.09, which never aborts with 0x0403 (R131). -/
def injectEntry (index sub : Nat) : Bool := decide (0x2108 ≤ index ∧ index < 0x2110) && sub == 0x09

/-- Steps 8 to 10 of R44: the power state (R462), the chapter's checks, and a segmented write open on the entry (R64), which the
inject entries do not regard (R131). -/
def occupiedAbort (s : State) (who : Requester) (index sub : Nat) (r : Row) (v : Bytes) (taken : Bool) : Option Nat :=
  if !hamperFree s && needsHamper index sub r then some 0x0401
  else
    let taken := taken && !injectEntry index sub
    match stateAbort s who index sub v with
    | some c => some (if taken && decide (9 < stepOf c) then 0x0403 else c)
    | none => refuse taken 0x0403

/-- Steps 1 to 4 of R44: the entry's row, or the abort. -/
def writableRow (index sub : Nat) (expert : Bool) : Except Nat Row :=
  match objAt index with
  | none => .error 0x0101
  | some (o, _) =>
    match findRow o.rows sub with
    | none => .error 0x0102
    | some r =>
      if r.acc == .ro || r.acc == .const then .error 0x0201
      else if r.isX && !expert then .error 0x0203 else .ok r

/-- Step 7 of R44: an M entry needs a calibration session that the requester owns (R171). -/
def metrologyAbort (s : State) (who : Requester) (r : Row) : Option Nat := refuse (r.isM && s.cal.owner != some who) 0x0402

/-- Steps 1 to 10 of R44 for a whole value: the row, or the code of the first check that fails. -/
def checkWrite (s : State) (who : Requester) (index sub : Nat) (v : Bytes) (expert taken : Bool) : Except Nat Row :=
  match writableRow index sub expert with
  | .error c => .error c
  | .ok r =>
    match firstOf [refuse (!lengthFits r v.length) 0x0301, typeAbort r v, rangeAbort r v, valueAbort s index sub v,
        metrologyAbort s who r, occupiedAbort s who index sub r v taken] with
    | some c => .error c
    | none => .ok r

end Sys2Proof.Machine
end

