-- ==== Sys2Proof/Machine/Apply.lean ====
section
/-! DEFINITION. What an accepted write does beyond its entry (R47), chapter by chapter, and steps 11 to 13 of R44. In every
function `b` is the state before the write and `s` the state with the entry written. -/

namespace Sys2Proof.Machine

/-! ## Maps and bus -/

/-- Enable, period and content of publication map n (R69, R72, R73; log 35). -/
def applyPub (b s : State) (n sub : Nat) : State :=
  let i := 0x1200 + n
  if sub = 0x01 then
    if getB s i 0x01 && !getB b i 0x01 then pubFire (updPub s n fun p => { p with enabledAt := s.clock.tick, fired := 0 }) n
    else if getB s i 0x01 then s else updPub s n fun p => { p with deferred := false }
  else if sub = 0x03 then updPub s n fun p => { p with fired := (s.clock.tick - p.enabledAt) / max 1 (getN s i 0x03) }
  else if sub = 0x0A ∨ 0x10 ≤ sub ∧ sub ≤ 0x1F then saveN s i 0x09 ((getN s i 0x09 + 1) % 256)
  else s

/-- Subscription map n. -/
def subAt (s : State) (n : Nat) : SubMap := vAt s.kdp.subs n ⟨0, false, false⟩
/-- Change subscription map n. -/
def updSub (s : State) (n : Nat) (f : SubMap → SubMap) : State :=
  { s with kdp := { s.kdp with subs := vUpd s.kdp.subs n f } }

/-- A subscription map made its timeout and its mismatch good: each condition clears when no map is left with its cause (R75;
log 48). -/
def subsJudge (s : State) : State :=
  let s1 := if (List.range 64).any (fun n => (subAt s n).late) then s else dropCond s 0x0010
  if (List.range 64).any (fun n => (subAt s n).mismatch) then s1 else dropCond s1 0x0011

/-- Enable of subscription map n (R74, R75; log 35). -/
def applySub (b s : State) (n sub : Nat) : State :=
  let i := 0x1240 + n
  if sub ≠ 0x01 ∨ getB s i 0x01 = getB b i 0x01 then s
  else subsJudge (setN (updSub s n fun _ => ⟨s.clock.tick, false, false⟩) i 0x08 (if getB s i 0x01 then 1 else 0))

/-- Bus settings that wait for the next reset (R330), and the commands of the bus. -/
def applyBus (s : State) (index sub : Nat) : State :=
  if index = 0x1100 ∨ index = 0x1101 ∨ index = 0x1102 ∨ ((index = 0x1104 ∨ index = 0x1105) ∧ sub = 0x09) ∨ (index = 0x1300 ∧ sub = 0x01)
  then { s with bus := { s.bus with resetNeeded := true } }
  else if index = 0x1110 ∧ sub = 0x03 then clearRemotes s
  else match instOf 0x1410 8 index with
    | some k => if sub = 0x04 then mailSend s k else if sub = 0x06 then mailCancel s k else s
    | none => s

/-! ## Ports, converters, lanes -/

/-- A group that drives port n and whose members offer nothing shows the safe value applied (R252). -/
def showIdleGroups (s : State) (n : Nat) : State :=
  (List.range 16).foldl (fun a g =>
    if getB a (0x2700 + g) 0x01 = true ∧ getN a (0x2700 + g) 0x02 = n ∧ getN a (0x2700 + g) 0x0A = 0xFF then setF a (0x2700 + g) 0x0B (safeValue a n)
    else a) s

/-- The safe value of a port that holds it follows a write (R101), and so does the value that an idle group shows (R252). -/
def safeWritten (s : State) (n : Nat) : State :=
  let s0 := showIdleGroups s n
  if s.power.refFault then faultSafe s0 n
  else if (portAt s n).safeHeld && isOutput (portMode s n) && !(portAt s n).tripped then holdSafe s0 n else s0

/-- A port entry of index 2000 + n (R85, R99, R101, R107). A mode write starts the 2 ms of R85; `m` is the message to answer. -/
def applyPort (s : State) (n sub : Nat) (m : KdpReq) : State :=
  let i := 0x2000 + n
  if sub = 0x01 then modeStart s n m
  else if sub = 0x04 then updPort s n fun p => { p with appStaged := some (getF s i 0x04), appLast := some (getF s i 0x04) }
  else if sub = 0x05 then safeWritten s n
  else if sub = 0x12 then releasePort s n
  else if sub = 0x13 then faultReset s n
  else s

/-- An expert entry of index 2040 + n: trips (R104, R106); a gate time ends the window in progress without a result, an edge
selection begins the periods of its polarity (R92). -/
def applyPortX (b s : State) (n sub : Nat) : State :=
  let i := 0x2040 + n
  if sub = 0x18 ∨ sub = 0x19 then
    let s1 := if getN b i 0x18 < 64 then localChange b s (getN b i 0x18) n else s
    if getN s i 0x18 < 64 ∧ getN s i 0x18 ≠ getN b i 0x18 then localChange b s1 (getN s i 0x18) n else s1
  else if sub = 0x1B ∧ getN s i 0x1B < 64 ∧ asserted s (getN s i 0x1B) = true then tripPort s n
  else if sub = 0x0B then updPort s n fun p => { p with window := none }
  else if sub = 0x03 ∧ getN s i 0x03 ≠ getN b i 0x03 then updPort s n fun p => { p with prevSel := none, countSel := 0 }
  else s

/-- A converter entry of index 2100 + k (R126, R137; log 16). -/
def applyConv (s : State) (k sub : Nat) : State :=
  if sub = 0x01 then (if convRun s k then convStart s k else convStop s k)
  else if sub = 0x08 then referenceWritten s k
  else if sub = 0x0A then judgePwmSources s
  else s

/-- A converter entry of index 2108 + k (R122, R131, R137, R140); the software trigger acts with source 4 outside a set. -/
def applyConvX (s : State) (k sub n : Nat) : State :=
  if sub = 0x02 ∨ sub = 0x05 then judgePwmSources s
  else if sub = 0x08 then
    (if getN s (0x2108 + k) 0x02 = 4 ∧ 4 ≤ convSet s k then showConv (triggerConv s k s.clock.ref) k else s)
  else if sub = 0x09 then showConv (stageRequest s k true n s.clock.ref) k
  else if sub = 0x0C then dropUnconverted (follow s (0x2070 + k) (getB s (0x2108 + k) 0x0C)) k
  else if sub = 0x0D then referenceWritten s k
  else s

/-- A sync set entry (R122, R127). -/
def applySync (s : State) (i sub : Nat) : State :=
  if sub = 0x01 ∨ sub = 0x04 then judgePwmSources s
  else if sub = 0x07 ∧ getN s (0x2110 + i) 0x01 = 4 then
    fireSet s i s.clock.ref
  else s

/-- Run of a lane (R151 to R153) and its zero-flow capture (R161; log 35). -/
def applyLane (b s : State) (k sub : Nat) : State :=
  if sub = 0x02 ∧ laneRun s k ≠ laneRun b k then (if laneRun s k then laneStart s k else laneStop s k) else s

/-! ## Calibration and metering -/

/-- Whether an entry is a coefficient entry of a session (R182): 2190+k.10–1F and 2128+k.10–16. -/
def isCoefficient (index sub : Nat) : Bool :=
  (decide (0x2190 ≤ index ∧ index < 0x2198) && decide (0x10 ≤ sub ∧ sub < 0x20)) ||
    (decide (0x2128 ≤ index ∧ index < 0x2130) && decide (0x10 ≤ sub ∧ sub < 0x17))

/-- A coefficient takes effect at once: Run of its converter or lane is clear (R160, R176). -/
def coefficientNow (s : State) (index : Nat) : Bool :=
  if 0x2190 ≤ index then !convRun s (index - 0x2190) else !laneRun s (index - 0x2128)

/-- Session control and capture start (R170, R172, R177). -/
def applyCal (s : State) (who : Requester) (index sub n : Nat) : State :=
  if index = 0x2180 ∧ sub = 0x01 then (if n = 1 then sessionOpen s who else sessionClose s 1)
  else if index = 0x2181 ∧ sub = 0x06 then captureStart s
  else s

/-- Metering entries (R191, R201, R202, R205, R206, R216; log 35). -/
def applyMetering (b s : State) (index sub : Nat) : State :=
  let s0 := match rowAt index sub with
    | some r => if r.isM ∧ 0x2200 ≤ index ∧ index < 0x2250 then recEvent s 6 else s
    | none => s
  if index = 0x2240 then showBilling (showTariff (recEvent s0 7))
  else match instOf 0x2200 16 index, instOf 0x2220 32 index, instOf 0x224C 4 index with
    | some m, _, _ => if sub = 0x01 ∧ getB s index 0x01 ≠ getB b index 0x01 then meterEnabled s0 m (getB s index 0x01) else s0
    | _, some q, _ => if sub = 0x01 ∧ getB s index 0x01 ≠ getB b index 0x01 then counterEnabled s0 q (getB s index 0x01) else s0
    | _, _, some t => judgeFluid s0 t
    | none, none, none => s0

/-! ## Loops, groups, traces, zones -/

/-- A mode write of loop l (R235). -/
def applyLoopMode (b s : State) (l m : Nat) : State :=
  if m = 0 then (if loopMode b l = 0 then s else loopOff s l) else loopEnter s l m (loopMode b l == 0)

/-- Loop entries (R235, R240, R254). -/
def applyLoop (b s : State) (index sub n : Nat) : State :=
  match instOf 0x2300 96 index, instOf 0x2400 96 index, instOf 0x2600 96 index with
  | some l, _, _ => if sub = 0x01 then applyLoopMode b s l n else s
  | _, some l, _ =>
    if sub = 0x11 ∧ n ≠ getN b index 0x11 ∧ ((loopAt s l).active = 1 ∨ (loopAt s l).active = 2) then
      updLoop s l fun x => { x with tableChanged := true }
    else s
  | _, _, some l => judgeTable s l
  | none, none, none => s

/-- Learning controllers, groups and trace sets (R250, R256, R268, R269, R273; log 35). -/
def applyGroups (b s : State) (index sub n : Nat) : State :=
  match instOf 0x2500 96 index, instOf 0x2700 16 index, instOf 0x2780 8 index with
  | some l, _, _ =>
    if sub = 0x01 then (if n = 1 then repEnabled s l else if getB b index 0x01 then repDisabled s l else s)
    else if sub = 0x09 then repClear s l else s
  | _, some g, _ => 
    if sub = 0x01 ∧ n = 0 ∧ getB b index 0x01 = true then groupDisabled s g
    else if sub = 0x01 ∧ n = 1 ∧ getB b index 0x01 = false then groupIdle s g else s
  | _, _, some t =>
    if sub = 0x01 then (if n = 1 then traceArm s t else traceDisarm s t)
    else if sub = 0x12 then traceManual s t else s
  | none, none, none => s

/-- Zone entries (R261, R263, R267; log 35). -/
def applyZone (b s : State) (z sub n : Nat) : State :=
  if sub = 0x01 then 
    if n = 0 ∧ getB b (0x2800 + z) 0x01 = true then zoneDisabled s z else setBit s (0x2800 + z) 0x0A 0 (n == 1)
  else if sub = 0x02 then
    (if n = 0xFF then zoneEnd s z else if n = 5 then zoneBoost s z else zoneRequest s z n)
  else if sub = 0x0C then zoneTripReset s z
  else s

/-! ## Trust, time, storage, display, power -/

/-- Seals, attestation, tamper inputs, update and boot (R291, R306, R311, R317 to R322). -/
def applyTrust (s : State) (who : Requester) (index sub : Nat) (v : Bytes) : State :=
  match index, sub with
  | 0x2B20, 0x01 => onDemandSeal s
  | 0x2C10, 0x01 => challenge (dropStatement s who) who v
  | 0x2C30, _ => tamperSettings s
  | 0x2D10, 0x01 => updateRequest s (fieldN v 0 4) (v.drop 4)
  | 0x2D10, 0x04 => activate s
  | 0x2D10, 0x05 => cancelUpdate s
  | 0x2D20, 0x03 => confirm s
  | 0x2D20, 0x04 => acknowledgeFallback s
  | 0x2F00, 0x09 => acknowledgeMiss s
  | _, _ => s

/-- The trim of the crystal is written (R375; log 21). -/
def trimWritten (s : State) : State := thermosWrite s fun t => { t with trim := getI s 0x2901 0x02 }

/-- Time, calendar, alarms and network time (R375, R379 to R381, R385, R392, R395, R401). -/
def applyTime (b s : State) (index sub n : Nat) : State :=
  match index, sub with
  | 0x2900, 0x07 => if n = 1 then haltStart s else haltRelease s
  | 0x2900, 0x08 => { s with clock := { s.clock with setValue := some n } }
  | 0x2900, 0x09 => judgeTrust s
  | 0x2901, 0x02 => trimWritten s
  | 0x2902, _ => evalPrograms { s with clock := { s.clock with localDue := true } }
  | 0x2903, _ => evalPrograms s
  | 0x2910, 0x01 => if getN b 0x2910 0x01 = n then s else roleWritten s
  | 0x2910, 0x02 => skipPeriod s
  | 0x2910, 0x04 => skipPeriod s
  | _, _ =>
    match instOf 0x2904 8 index, instOf 0x2880 64 index with
    | some a, _ => if sub = 0x01 then alarmEnabled s a else s
    | _, some _ => evalPrograms s
    | none, none => s

/-- Display entries (R426, R429, R433, R436). A change of the panel size leaves no pixel known (log 27, log 35). -/
def applyDisplay (b s : State) (index sub n : Nat) (v : Bytes) : State :=
  if index = 0x2A00 ∧ sub = 0x01 then
    (if displayOn s == displayOn b then s else if n = 1 then displayEnable s else displayDisable s)
  else if index = 0x2A00 ∧ (sub = 0x02 ∨ sub = 0x03) then
    (if getN s index sub = getN b index sub then s else showDisplay (clearKnown (updDisplay s fun d => { d with ledger := [] })))
  else if index = 0x2A18 ∧ sub = 0x01 ∧ n = 1 ∧ getB b index 0x01 = false then redrawPage s
  else match instOf 0x2A10 8 index with
    | some w => if sub = 0x06 then queueUpdate s w v else s
    | none => s

/-- With backup kind 0 bit 12 of 2F00.01 is never set (R468). -/
def applyBackup (s : State) (sub n : Nat) : State :=
  if sub = 0x01 ∧ n = 0 then dropCond (dropCond s 0xF030) 0xF031 else s

/-- Everything a write of the device's own entries does beyond the entry. -/
def applyWrite (b s : State) (who : Requester) (m : KdpReq) (v : Bytes) : State :=
  let n := leNat v
  let i := m.index
  let j := m.sub
  if i < 0x1240 ∧ 0x1200 ≤ i then applyPub b s (i - 0x1200) j
  else if i < 0x1280 ∧ 0x1240 ≤ i then applySub b s (i - 0x1240) j
  else if i < 0x2000 then applyBus s i j
  else if i < 0x2040 then applyPort s (i - 0x2000) j m
  else if i < 0x2080 then applyPortX b s (i - 0x2040) j
  else if i < 0x2108 then applyConv s (i - 0x2100) j
  else if i < 0x2110 then applyConvX s (i - 0x2108) j n
  else if i < 0x2114 then applySync s (i - 0x2110) j
  else if 0x2120 ≤ i ∧ i < 0x2128 then applyLane b s (i - 0x2120) j
  else if 0x2128 ≤ i ∧ i < 0x2130 then 
    (if j = 0x17 then zeroStart s (i - 0x2128) n else if j = 0x03 then maskWritten s (i - 0x2128) else s)
  else if 0x2180 ≤ i ∧ i < 0x2182 then applyCal s who i j n
  else if 0x2200 ≤ i ∧ i < 0x2250 then applyMetering b s i j
  else if (0x2300 ≤ i ∧ i < 0x2500) ∨ (0x2600 ≤ i ∧ i < 0x2700) then applyLoop b s i j n
  else if 0x2500 ≤ i ∧ i < 0x2790 then applyGroups b s i j n
  else if 0x2800 ≤ i ∧ i < 0x2820 then applyZone b s (i - 0x2800) j n
  else if 0x2880 ≤ i ∧ i < 0x2912 then applyTime b s i j n
  else if 0x2A00 ≤ i ∧ i < 0x2A20 then applyDisplay b s i j n v
  else if i = 0x3001 then applyBackup s j n
  else applyTrust s who i j v

/-! ## Steps 11 to 13 of R44 -/

/-- Entries whose value is not kept in the entry table: session control, halt, the Thermos scratch, coefficients that are staged. -/
def ownHome (index sub : Nat) : Bool :=
  (index == 0x2180 && sub == 0x01) || (index == 0x2900 && sub == 0x07) || (index == 0x3002 && sub == 0x01) ||
    isCoefficient index sub

/-- A write of 5 to a zone's request starts a boost and leaves the request as it is (R263). -/
def isBoost (index sub : Nat) (v : Bytes) : Bool := (instOf 0x2800 32 index).isSome && sub == 0x02 && leNat v == 5

/-- The entry takes the value written. -/
def setWritten (s : State) (r : Row) (index sub : Nat) (v : Bytes) : State :=
  if isBoost index sub v then s
  else if isCoefficient index sub then stageCoefficient s index sub v (coefficientNow s index)
  else if index = 0x3002 ∧ sub = 0x01 then thermosWrite s fun t => { t with scratch := v }
  else if r.acc == .rw && !ownHome index sub then setBytes s index sub v
  else s

/-- The requester's flags in an audit entry: expert, routed, segmented (R308). -/
def auditFlags (m : KdpReq) (segmented : Bool) : Nat :=
  bitVal (m.addr.flags.testBit 0) 0 + bitVal (m.addr.flags.testBit 3) 1 + bitVal segmented 2

/-- An accepted write takes effect: the audit entry of an A entry, the parameter store copy of a P entry, the value (R44
steps 11 to 13). `s` has passed them, their pages programmed. -/
def commitWrite (s : State) (who : Requester) (r : Row) (m : KdpReq) (v : Bytes) (segmented : Bool) : State :=
  let s1 := if r.isA && who != .device then placeAudit s who 1 m.index m.sub (auditFlags m segmented) v else s
  let s2 := if r.isP && !isBoost m.index m.sub v then placeTarget s1 (.record (keyOf m.index m.sub) v) else s1
  applyWrite s2 (setWritten s2 r m.index m.sub v) who m v

/-- The pages that steps 11 and 12 of R44 program, read back (R405), after the writes that R34 takes before them: on a failure only the
storage's own bookkeeping stays. -/
def programWrite (s : State) (who : Requester) (r : Row) (m : KdpReq) (v : Bytes) : Bool × State :=
  let k := keyOf m.index m.sub
  let s0 := if r.isA || r.isP then drainTo s Writer.core.cls else s
  match if r.isA && who != .device then programRun 1 s0 (auditAddr s0.audit.count / 128) else (true, s0) with
  | (false, s1) => (false, s1)
  | (true, s1) =>
    if r.isP && !isBoost m.index m.sub v then programPlaced s1 (resolve s1 (.record k v)) else (true, s1)

/-- A write of a whole value, all 13 steps of R44: 0 and the state after it, or the abort code. The session-dirty marker is
set between steps 10 and 11 and stays (R14, R183). A firmware block and a test write can still fail as they are carried out
(R318, R405). -/
def kdpWrite (s : State) (who : Requester) (m : KdpReq) (v : Bytes) (expert segmented taken : Bool) : Nat × State :=
  match checkWrite s who m.index m.sub v expert taken with
  | .error c => (c, s)
  | .ok r =>
    let s0 := loadTape s (bitList m.badPage)
    let s1 := if isCoefficient m.index m.sub then markDirty s0 m.index else s0
    match programWrite s1 who r m v with
    | (false, s2) => (0x0802, s2)
    | (true, s2) =>
      if m.hwFault then (0x0801, s2)
      else if m.index = 0x2D10 ∧ m.sub = 0x02 then
        match writeBlock s2 v with
        | (none, s3) => (0, s3)
        | (some c, s3) => (c, s3)
      else if m.index = 0x2E10 ∧ m.sub = 0x01 then
        match testWrite s2 v with
        | (true, s3) => (0, placeAudit s3 who 1 m.index m.sub (auditFlags m segmented) v)
        | (false, s3) => (0x0802, s3)
      else (0, commitWrite s2 who r m v segmented)

end Sys2Proof.Machine
end

