-- ==== Sys2Proof/Machine/Kdp.lean ====
section
/-! DEFINITION. The dictionary protocol (R42 to R68, R76 to R79): messages, snapshots, reads, writes, segmented transfers, and
the order in which requests are taken. -/

namespace Sys2Proof.Machine

/-! ## Messages (R57 to R61) -/

/-- The routed flag. -/
def KdpAddr.routed (a : KdpAddr) : Bool := a.flags.testBit 3
/-- The expert flag. -/
def KdpAddr.expert (a : KdpAddr) : Bool := a.flags.testBit 0
/-- Destination segment of the route extension (R59). -/
def KdpReq.routeDst (m : KdpReq) : Nat := fieldN m.body 0 2
/-- Source segment of the route extension (R59). -/
def KdpReq.routeSrc (m : KdpReq) : Nat := fieldN m.body 2 2
/-- The payload without the route extension (R57, R59). -/
def KdpReq.payload (m : KdpReq) : Bytes := if m.addr.routed then (m.body.take m.len).drop 4 else m.body.take m.len

/-- The segment of the pair a message came in on (log 36). -/
def ownSegment (s : State) : Chan → Nat
  | .service => (pairAt s 0).segment
  | .bus p => (pairAt s (p / 2)).segment
/-- The node ID of the pair a message came in on (R333, R357). -/
def ownNode (s : State) : Chan → Nat
  | .service => (pairAt s 0).nodeId
  | .bus p => (pairAt s (p / 2)).nodeId

/-- The requester of a message (R49). -/
def requesterOf (s : State) (m : KdpReq) : Requester :=
  match m.addr.chan with
  | .service => .service
  | .bus _ => .node (if m.addr.routed then m.routeSrc else ownSegment s m.addr.chan) m.addr.src

/-- What an answer to a message needs to know. -/
def exchange (s : State) (m : KdpReq) (kind : TransferKind) : Transfer :=
  ⟨requesterOf s m, m.addr, m.routeSrc, m.routeDst, m.index, m.sub, s.clock.tick + getN s 0x1010 0x01, kind⟩

/-- Bytes of a value that fit in one message of an exchange (R59, R65, R357). -/
def room (t : Transfer) : Nat := if t.addr.routed then 52 else 56

/-- Send a message of an exchange on the channel its request came in on (R56, R57, R59, R61): the response flag is set, on the
device's segments, segment acknowledgements and abort-transfer messages too (log 100, DESIGN CHOICE: R61 states it of
responses only); the segments of a route extension are exchanged, and a bus frame is padded (R58). -/
def sendFor (s : State) (t : Transfer) (op flags seq cls : Nat) (pay : Bytes) : State :=
  let body := if t.addr.routed then leBytes 2 t.routeSrc ++ leBytes 2 t.routeDst ++ pay else pay
  let data := kdpHeader op (flags + 2 + bitVal t.addr.routed 3) t.index t.sub seq body.length ++ body
  let id := frameId cls 1 t.addr.src (ownNode s t.addr.chan) t.addr.tag
  let kind := FrameKind.response t.who t.addr.tag
  match t.addr.chan with
  | .service => pushService s (devFrame kind id data)
  | .bus p => pushFrame s (p / 2) (devFrame kind id (padTo (fdLength data.length) data))

/-- An abort response (R61). -/
def abortReply (s : State) (m : KdpReq) (code : Nat) : State :=
  sendFor s (exchange s m (.reading [] 0 0 0)) m.op 4 0 4 (leBytes 2 code)
/-- An expedited response (R60, R61). -/
def okReply (s : State) (m : KdpReq) (flags : Nat) (pay : Bytes) : State :=
  sendFor s (exchange s m (.reading [] 0 0 0)) m.op flags 0 4 pay

/-! ## Open transfers (R62, R67) -/

/-- A transfer is that of a requester and a tag. -/
def isTransfer (who : Requester) (tag : Nat) (t : Transfer) : Bool := t.who == who && t.addr.tag == tag
/-- The open transfer of a requester with a tag. -/
def transferOf (s : State) (who : Requester) (tag : Nat) : Option Transfer := s.kdp.transfers.find? (isTransfer who tag)
/-- Change the open transfer of a requester with a tag. -/
def updTransfer (s : State) (who : Requester) (tag : Nat) (f : Transfer → Transfer) : State :=
  { s with kdp := { s.kdp with transfers := s.kdp.transfers.map fun t => if isTransfer who tag t then f t else t } }
/-- A transfer ends. -/
def closeTransfer (s : State) (who : Requester) (tag : Nat) : State :=
  { s with kdp := { s.kdp with transfers := s.kdp.transfers.filter fun t => !isTransfer who tag t } }
/-- A queued frame belongs to a transfer. -/
def ofTransfer (who : Requester) (tag : Nat) (f : Frame) : Bool := f.kind == .response who tag
/-- A transfer ends by abort or timeout: its pending frames leave the bus queues (R335); those of the service port stay (R77,
R79). -/
def dropTransfer (s : State) (who : Requester) (tag : Nat) : State :=
  (List.range 4).foldl (fun a p => withdraw a p (ofTransfer who tag)) (closeTransfer s who tag)
/-- Open a transfer. -/
def openTransfer (s : State) (t : Transfer) : State := { s with kdp := { s.kdp with transfers := s.kdp.transfers ++ [t] } }
/-- A segmented write. -/
def Transfer.isWrite (t : Transfer) : Bool := match t.kind with | .writing .. => true | .reading .. => false
/-- A segmented write to an entry is open (R64). -/
def entryTaken (s : State) (index sub : Nat) : Bool :=
  s.kdp.transfers.any fun t => t.isWrite && t.index == index && t.sub == sub
/-- The limits of R62 for a new request (log 42). -/
def transferAbort (s : State) (who : Requester) (tag : Nat) : Option Nat :=
  if (transferOf s who tag).isSome then some 0x0702
  else refuse (decide (4 ≤ (s.kdp.transfers.filter fun t => t.who == who).length) || decide (16 ≤ s.kdp.transfers.length)) 0x0501

/-! ## Snapshot groups (R50 to R54) -/

/-- The members of the snapshot group of an entry, in order; none for an entry of no group. -/
def groupMembersOf (index sub : Nat) : List (Nat × Nat) :=
  let span (lo n : Nat) : List (Nat × Nat) :=
    if lo ≤ sub ∧ sub < lo + n then (List.range n).map fun i => (index, lo + i) else []
  if 0x2100 ≤ index ∧ index < 0x2108 then span 3 3
  else if 0x2120 ≤ index ∧ index < 0x2128 then span 4 8
  else if index = 0x2181 then span 8 4
  else if 0x2200 ≤ index ∧ index < 0x2210 then (if 0x10 ≤ sub ∧ sub < 0x30 then span (sub / 4 * 4) 4 else span 3 7)
  else if index = 0x2242 then
    (if (1 ≤ sub ∧ sub ≤ 3) ∨ (0x10 ≤ sub ∧ sub ≤ 0x8F) then
      [(index, 1), (index, 2), (index, 3)] ++ (List.range 128).map fun i => (index, 0x10 + i)
    else [])
  else if 0x2300 ≤ index ∧ index < 0x2360 then span 3 5
  else if index = 0x2B00 ∨ index = 0x2C20 then span 1 3
  else if 0x1400 ≤ index ∧ index < 0x1410 then span 6 5
  else if index = 0x2900 then span 1 5
  else if index = 0x2F10 then span 1 10
  else []

/-- The key by which a group is known: that of its first member. -/
def groupKey (ms : List (Nat × Nat)) : Nat := match ms with | [] => 0 | m :: _ => keyOf m.1 m.2

/-- Snapshots whose 250 ms have passed end as expired (R51). -/
def expireSnaps (s : State) : State :=
  let beyond (x : Snap) : Bool := decide (x.tick + 250 ≤ s.clock.tick)
  let gone := (s.kdp.snaps.filter beyond).map fun x => (⟨x.who, x.group, false⟩ : SnapEnd)
  { s with kdp := { s.kdp with snaps := s.kdp.snaps.filter fun x => !beyond x, ended := s.kdp.ended ++ gone } }

/-- The live snapshot of a requester and a group. -/
def snapOf (s : State) (who : Requester) (g : Nat) : Option Snap := s.kdp.snaps.find? fun x => x.who == who && x.group == g

/-- A snapshot of a requester ends; nothing is remembered of it. -/
def forgetSnap (s : State) (who : Requester) (g : Nat) : State :=
  { s with kdp := { s.kdp with snaps := s.kdp.snaps.filter fun x => !(x.who == who && x.group == g)
                               ended := s.kdp.ended.filter fun x => !(x.who == who && x.group == g) } }

/-- With 8 snapshots live, the one with the earliest freeze instant is evicted (R52). -/
def evictSnap (s : State) : State :=
  if s.kdp.snaps.length < 8 then s
  else match lowestBy (·.frozen) s.kdp.snaps with
    | none => s
    | some x =>
      let s1 := forgetSnap s x.who x.group
      addN { s1 with kdp := { s1.kdp with ended := s1.kdp.ended ++ [⟨x.who, x.group, true⟩] } } 0x1010 0x05 1

/-- The value of a member as read now; empty where it cannot be read. -/
def memberValue (s : State) (who : Requester) (e : Nat × Nat) : Bytes :=
  match readWire s who e.1 e.2 with | .ok v => v | .error _ => []

/-- A reader has completed a snapshot of a group, or taken it by read-snapshot: a receive mailbox's flags clear (R362), and in
raw mode the flags of a data register (R139). -/
def groupTaken (s : State) (g : Nat) : State :=
  let index := g / 256
  match instOf 0x1400 16 index, instOf 0x2100 8 index with
  | some _, _ => setBit (setBit s index 0x09 0 false) index 0x09 1 false
  | _, some k => if getB s (0x2108 + k) 0x0C then setBit (setBit s index 0x04 0 false) index 0x04 1 false else s
  | none, none => s

/-! ## Reads (R42, R50 to R54, R404) -/

/-- The rows of kept trace data: number of each and its time stamp (R270). -/
def traceStamps (b : Bytes) : List Nat := (List.range (fieldN b 16 4)).map fun i => fieldN b (32 + i * (4 + 4 * fieldN b 5 1)) 4

/-- The runs of Hamper pages that a read of an entry reads, first page and number of each; none for an entry held elsewhere (R404; log
46). -/
def pagesBehind (s : State) (index sub : Nat) : List (Nat × Nat) :=
  match index, sub with
  | 0x2B00, 0x05 => [(recordAddr (getN s 0x2B00 0x04) / 128, 4)]
  | 0x2B00, 0x07 =>
    let q := getN s 0x2B00 0x04
    (List.range (min (getN s 0x2B00 0x06) (recordCount s - q))).map fun i => (recordAddr (q + i) / 128, 4)
  | 0x2B10, 0x05 => ((sealOf s (getN s 0x2B10 0x04)).map fun x => (sealAddr x.slot / 128, 64)).toList
  | 0x2B10, 0x06 => ((sealOf s (getN s 0x2B10 0x04)).map fun x => (sealAddr x.slot / 128, 2)).toList
  | 0x2C20, 0x05 => ((auditOrdinal s (getN s 0x2C20 0x04)).map fun n => (auditAddr n / 128, 1)).toList
  | 0x2C20, 0x07 => match auditOrdinal s (getN s 0x2C20 0x04) with
    | some n => (List.range (min (getN s 0x2C20 0x06) (s.audit.count - n))).filterMap fun i =>
        if i = 0 ∨ (n + i) % 2 = 0 then some (auditAddr (n + i) / 128, 1) else none
    | none => []
  | _, _ =>
    if 0x2780 ≤ index ∧ index < 0x2788 ∧ sub = 0x15 then
      match (traceAt s (index - 0x2780)).kept with
      | some b => ((traceStamps b).map fun ts => (rowAddr (index - 0x2780) ts / 128, 1)).eraseDups
      | none => []
    else if 0x2500 ≤ index ∧ index < 0x2560 ∧ sub = 0x10 then
      let l := index - 0x2500
      let first := getN s index 0x0F
      ((List.range (min 8192 (getN s index 0x03 - first))).map fun i => (cellAddr l (first + i) / 128, 1)).eraseDups
    else []

/-- A seal whose slot fails its check when it is read out (R296): the slot counts as empty from then on. -/
def sealFails (s : State) (seq : Nat) : State :=
  raise { s with kiln := { s.kiln with seals := s.kiln.seals.map fun m => if m.seq = seq then { m with valid := false } else m } } 0x8010

/-- The entry reads a seal out (R297). -/
def readsSeal (index sub : Nat) : Bool := index == 0x2B10 && (sub == 0x05 || sub == 0x06)

/-- A value read now, with the effects of the read: page inspection (R423), the refused Hamper write (R454), and a page that
proves uncorrectable, which makes the read fail but for a window of cells (R404). `ecc` is what its pages show (log 46). -/
def readNow (s : State) (who : Requester) (index sub ecc : Nat) : Except Nat Bytes × State :=
  let s1 := { s with used := s.used + 1 }
  if index = 0x2E20 ∧ sub = 0x02 then (.ok (inspectedBytes s (getN s 0x2E20 0x01) ecc), inspectPage s1 (getN s 0x2E20 0x01) ecc)
  else match readWire s who index sub with
    | .error c => (.error c, if readsSeal index sub && c == 0x0802 then sealFails s1 (getN s 0x2B10 0x04) else s1)
    | .ok v =>
      match pagesBehind s index sub with
      | [] => (.ok v, if index = 0x2F00 ∧ sub = 0x0A then refusedRead s1 else s1)
      | runs =>
        match readRuns runs (loadShows s1 ecc) with
        | (false, s2) => (.ok v, s2)
        | (true, s2) =>
          if 0x2500 ≤ index ∧ index < 0x2560 then (.ok (memoryWindow s2 (index - 0x2500)), s2)
          else (.error 0x0802, if readsSeal index sub then sealFails s2 (getN s 0x2B10 0x04) else s2)

/-- A read of a first member freezes its group (R50, R52). -/
def freezeGroup (s : State) (who : Requester) (ms : List (Nat × Nat)) : State :=
  let g := groupKey ms
  let s1 := evictSnap (forgetSnap s who g)
  let x : Snap := ⟨who, g, ms.map (memberValue s who), s.clock.ref, s.clock.tick⟩
  { s1 with kdp := { s1.kdp with snaps := s1.kdp.snaps ++ [x] }, used := s1.used + 1 }

/-- The frozen value of a member. -/
def frozenValue (x : Snap) (ms : List (Nat × Nat)) (e : Nat × Nat) : Bytes :=
  match (ms.zip x.vals).find? fun p => p.1 == e with | some p => p.2 | none => []

/-- A read of an entry by a requester (R50 to R53). -/
def kdpRead (s0 : State) (who : Requester) (index sub ecc : Nat) : Except Nat Bytes × State :=
  let s := expireSnaps s0
  let ms := groupMembersOf index sub
  let g := groupKey ms
  if ms.isEmpty then readNow s who index sub ecc
  else if g = keyOf index sub then
    match readWire s who index sub with
    | .error c => (.error c, s)
    | .ok v => (.ok v, freezeGroup s who ms)
  else match snapOf s who g with
    | some x =>
      (.ok (frozenValue x ms (index, sub)),
        if ms.getLast? = some (index, sub) then groupTaken (forgetSnap s who g) g else s)
    | none => match s.kdp.ended.find? fun e => e.who == who && e.group == g with
      | some e => (.error (if e.evicted then 0x0702 else 0x0701), s)
      | none => readNow s who index sub ecc

/-- A read-snapshot (R54): the members of a group from one instant, or an entry of no group alone. -/
def kdpSnapshot (s0 : State) (who : Requester) (index sub ecc : Nat) : Except Nat Bytes × State :=
  let s := expireSnaps s0
  let ms := groupMembersOf index sub
  if ms.isEmpty then readNow s who index sub ecc
  else match readWire s who index sub with
    | .error c => (.error c, s)
    | .ok _ =>
      if groupKey ms ≠ keyOf index sub then (.error 0x0303, s)
      else (.ok (ms.map (memberValue s who)).flatten, groupTaken { s with used := s.used + 1 } (groupKey ms))

/-- Answer a read: expedited where the value fits, else the start of a segmented read (R65). With 8 segmented transfers open
there is no place for another: the read aborts with 0x0501 and leaves `b`, the state before it (R68, R80; log 100). -/
def valueReply (b s : State) (m : KdpReq) (limit : Nat) (v : Bytes) : State :=
  let t := exchange s m (.reading v 0 0 limit)
  if v.length ≤ room t then okReply s m 16 v
  else if 8 ≤ s.kdp.transfers.length then abortReply b m 0x0501
  else openTransfer (okReply s m 0 (leBytes 4 v.length ++ leBytes 4 (crc32c v).toNat)) t

/-- The window limit of a read request (R60): absent or 0 means 16; above 16 it is taken as 16 (log 100, DESIGN CHOICE). -/
def windowLimit (pay : Bytes) : Nat := let n := fieldN pay 0 1; if n = 0 then 16 else min 16 n

/-- The operation read. -/
def readOp (s : State) (m : KdpReq) : State :=
  match kdpRead s (requesterOf s m) m.index m.sub m.ecc with
  | (.error c, s1) => abortReply s1 m c
  | (.ok v, s1) => valueReply s s1 m (windowLimit m.payload) v

/-- The operation read-snapshot. -/
def snapshotOp (s : State) (m : KdpReq) : State :=
  match kdpSnapshot s (requesterOf s m) m.index m.sub m.ecc with
  | (.error c, s1) => abortReply s1 m c
  | (.ok v, s1) => valueReply s s1 m 16 v

/-- The snapshot group number of an entry, 0xFFFF for none (R60; log 10). -/
def groupNumberOf (index sub : Nat) : Nat :=
  match groupMembersOf index sub with | [] => 0xFFFF | e :: _ => (Config.groupNumber (keyOf e.1 e.2)).toNat

/-- The operation describe (R60). -/
def describeOp (s : State) (m : KdpReq) : State :=
  match objAt m.index with
  | none => abortReply s m 0x0101
  | some (o, _) => match findRow o.rows m.sub with
    | none => abortReply s m 0x0102
    | some r => okReply s m 0 ([byte r.ty.code, byte r.acc.code, byte r.attrs, 0] ++ leBytes 4 r.maxLen
        ++ leBytes 2 (groupNumberOf m.index m.sub))

/-! ## Writes (R44, R63, R64, R68) -/

/-- The entry is the mode of a port: its response waits for the 2 ms of R85. -/
def isPortMode (index sub : Nat) : Bool := (instOf 0x2000 64 index).isSome && sub == 0x01

/-- The operation write. -/
def writeOp (s : State) (m : KdpReq) : State :=
  match kdpWrite s (requesterOf s m) m m.payload m.addr.expert false (entryTaken s m.index m.sub) with
  | (0, s1) => if isPortMode m.index m.sub then s1 else okReply s1 m 0 []
  | (c, s1) => abortReply s1 m c

/-- The code that the checks of steps 8 to 10 give before the data is known (R63): one that the values 0, 1 and all ones share for
an entry of fixed size, one that does not look at the content for the others; for the update request, which looks at it, the running
slot in trial (R317; log 28). -/
def earlyAbort (s : State) (who : Requester) (index sub : Nat) (r : Row) : Option Nat :=
  match r.ty.size with
  | some n =>
    if index = 0x2D10 ∧ sub = 0x01 then
      let t := (slotInfo s (targetSlot s)).state
      refuse (t != 1 && t != 2 && (slotInfo s s.power.runningSlot).state == 3) 0x0401
    else
      let a := stateAbort s who index sub (leBytes n 0)
      if a = stateAbort s who index sub (leBytes n 1) ∧ a = stateAbort s who index sub (List.replicate n 0xFF) then a else none
  | none => match stateAbort s who index sub [] with
    | some c => if c = 0x0702 ∨ c = 0x0301 ∨ c = 0x0302 then none else some c
    | none => none

/-- Steps 8 to 10 as far as they can be judged before data, with the limit of R68 (R63; log 28). -/
def initiateAbort (s : State) (who : Requester) (index sub : Nat) (r : Row) : Option Nat :=
  let taken := entryTaken s index sub && !injectEntry index sub
  firstOf [metrologyAbort s who r,
    if !hamperFree s && needsHamper index sub r then some 0x0401
    else match earlyAbort s who index sub r with
      | some c => some (if taken && decide (9 < stepOf c) then 0x0403 else c)
      | none => refuse taken 0x0403,
    refuse (decide (8 ≤ s.kdp.transfers.length)) 0x0501]

/-- The abort of a write initiate (R63, R68; log 28). A payload that is not its 8 bytes gives 0x0301 before the total is looked
at (log 100, DESIGN CHOICE: no rule names a code for it). -/
def initiateCode (s : State) (who : Requester) (m : KdpReq) : Option Nat :=
  match writableRow m.index m.sub m.addr.expert with
  | .error c => some c
  | .ok r =>
    let total := fieldN m.payload 0 4
    firstOf [refuse (m.payload.length != 8) 0x0301, refuse (decide (1048576 < total)) 0x0502, refuse (!lengthFits r total) 0x0301,
      initiateAbort s who m.index m.sub r]

/-- The operation write initiate (R63). -/
def initiateOp (s : State) (m : KdpReq) : State :=
  match initiateCode s (requesterOf s m) m with
  | some c => abortReply s m c
  | none =>
    let w := getN s 0x1010 0x02
    let k := TransferKind.writing (fieldN m.payload 0 4) (BitVec.ofNat 32 (fieldN m.payload 4 4)) [] 1 w 0 s.clock.tick none
    openTransfer (okReply s m 0 [byte w]) (exchange s m k)

/-! ## Segmented transfers (R63 to R67) -/

/-- Restart the wait of a transfer (R67). -/
def rearm (s : State) (t : Transfer) : Transfer := { t with deadline := s.clock.tick + getN s 0x1010 0x01 }

/-- The code a complete segmented write ends with, and the state after it (R63, R64): the CRC-32C over the bytes received, then
the checks of R44 on them as the complete value. Bytes that are not the whole value announced are no integrity the check can
hold: 0x0601 (log 100). -/
def finishWrite (s : State) (t : Transfer) (m : KdpReq) (total : Nat) (crc : BitVec 32) (got : Bytes) : Nat × State :=
  if crc32c got ≠ crc ∨ got.length ≠ total then (0x0601, s)
  else kdpWrite s t.who { m with index := t.index, sub := t.sub, addr := { m.addr with flags := t.addr.flags } } got
    t.addr.expert true (entryTaken s t.index t.sub)

/-- The final acknowledgement (R63). -/
def finalAck (s : State) (t : Transfer) (seq code : Nat) : State := sendFor s t 6 16 seq 4 (leBytes 2 code)

/-- How far a segment number lies past the segment wanted, modulo 256. -/
def ahead (seq next : Nat) : Nat := (seq + 256 - next % 256) % 256

/-- An out-of-sequence segment `d` past the one wanted belongs to the window that went out of sequence before: it lies behind
that window's last segment and before its end (R66; log 100). -/
def sameWindow (gap : Option (Nat × Nat)) (d : Nat) : Bool :=
  match gap with | some (lastD, fin) => decide (lastD < d ∧ d < fin) | none => false

/-- A segment of a segmented write is taken in order, or discarded (R63, R66): the first one out of sequence of each window is
acknowledged at once. A discarded segment too restarts the response timeout (log 100, DESIGN CHOICE). -/
def takeSegment (s : State) (t : Transfer) (m : KdpReq) (total : Nat) (crc : BitVec 32) (got : Bytes) (next window since : Nat)
    (gap : Option (Nat × Nat)) : State :=
  let w := getN s 0x1010 0x02
  let d := ahead m.seq next
  let put (s : State) (got : Bytes) (next window since : Nat) (gap : Option (Nat × Nat)) : State :=
    updTransfer s t.who t.addr.tag fun x => { rearm s x with kind := .writing total crc got next window since s.clock.tick gap }
  if d ≠ 0 then
    if sameWindow gap d then put s got next window 0 (gap.map fun g => (d, g.2))
    else put (sendFor s t 6 0 ((next - 1) % 256) 4 [byte w]) got next w 0 (some (d, if gap.isSome then w else window - since))
  else if m.addr.flags.testBit 4 then
    match finishWrite (closeTransfer s t.who t.addr.tag) t m total crc (got ++ m.payload) with
    | (0, s1) => if isPortMode t.index t.sub then s1 else finalAck s1 t m.seq 0
    | (c, s1) => finalAck s1 t m.seq c
  else if window ≤ since + 1 then put (sendFor s t 6 0 m.seq 4 [byte w]) (got ++ m.payload) (next + 1) w 0 none
  else put s (got ++ m.payload) (next + 1) window (since + 1) none

/-- The operation segment: it continues a segmented write of its requester and tag. One of no open segmented write is ignored
(log 100, DESIGN CHOICE). -/
def segmentOp (s : State) (m : KdpReq) : State :=
  match transferOf s (requesterOf s m) m.addr.tag with
  | some t => match t.kind with
    | .writing total crc got next window since _ gap => takeSegment s t m total crc got next window since gap
    | .reading .. => s
  | none => s

/-- Segments of a value of n bytes. -/
def segmentCount (t : Transfer) (n : Nat) : Nat := (n + room t - 1) / room t

/-- Send segments `first` to `last` of a segmented read (R56, R63, R65). -/
def sendSegments (s : State) (t : Transfer) (v : Bytes) (first last : Nat) : State :=
  (List.range (last + 1 - first)).foldl (fun a j =>
    let i := first + j
    sendFor a t 5 (if i = segmentCount t v.length then 16 else 0) (i % 256) (if i = 1 then 4 else 6)
      ((v.drop (room t * (i - 1))).take (room t))) s

/-- A segment acknowledgement of a segmented read (R65, R66): it sets the next window, pauses with 0, or ends the transfer. The
requester that has read its attestation statement whole gives it up (R307). An empty payload takes the window limit as its
window, and an acknowledgement of a segment not yet sent is ignored (log 100, DESIGN CHOICE). -/
def takeAck (s : State) (t : Transfer) (m : KdpReq) (v : Bytes) (acked sent limit : Nat) : State :=
  let n := acked + (m.seq + 256 - acked % 256) % 256
  let w := if m.payload.isEmpty then limit else min limit (fieldN m.payload 0 1)
  let last := min (n + w) (segmentCount t v.length)
  if sent < n then s
  else if segmentCount t v.length ≤ n then
    let s1 := closeTransfer s t.who t.addr.tag
    if t.index = 0x2C10 ∧ t.sub = 0x03 then dropStatement s1 t.who else s1
  else updTransfer (sendSegments s t v (n + 1) last) t.who t.addr.tag fun x => { rearm s x with kind := .reading v n (max sent last) limit }

/-- The operation segment acknowledgement: it continues a segmented read of its requester and tag. One of no open segmented read is
ignored (log 100, DESIGN CHOICE). -/
def ackOp (s : State) (m : KdpReq) : State :=
  match transferOf s (requesterOf s m) m.addr.tag with
  | some t => match t.kind with
    | .reading v acked sent limit => takeAck s t m v acked sent limit
    | .writing .. => s
  | none => s

/-- The operation abort transfer: the transfer is discarded without side effect or answer (R67). -/
def abortOp (s : State) (m : KdpReq) : State :=
  let who := requesterOf s m
  if (transferOf s who m.addr.tag).isSome then dropTransfer s who m.addr.tag else s

/-! ## Taking messages (R42, R79, R336, R337) -/

/-- An index is served: every index while the firmware runs, those of R323 in recovery. -/
def indexServed (s : State) (index : Nat) : Bool :=
  isUp s || index == 0x1000 || index == 0x2C00 || decide (0x2D00 ≤ index ∧ index ≤ 0x2D20)

/-- Process one message (R42, R60, R62; log 42). The limits of R62 are tested before the OP and before R44 (log 100, DESIGN
CHOICE: no rule orders them). -/
def processMsg (s : State) (m : KdpReq) : State :=
  if m.op = 5 then segmentOp s m
  else if m.op = 6 then ackOp s m
  else if m.op = 7 then abortOp s m
  else match transferAbort s (requesterOf s m) m.addr.tag with
    | some c => abortReply s m c
    | none =>
      if m.op = 0 ∨ (4 < m.op ∧ m.op ≠ 8) then abortReply s m 0x0303
      else if !indexServed s m.index then abortReply s m 0x0101
      else if m.op = 1 then readOp s m
      else if m.op = 2 then writeOp s m
      else if m.op = 3 then snapshotOp s m
      else if m.op = 4 then initiateOp s m
      else describeOp s m

/-- The device takes a waiting message now: a new request needs a free place for its answer (R79, R336; log 44). -/
def takeable (s : State) (m : KdpReq) : Bool :=
  !modePending s && (continues m || match m.addr.chan with
    | .service => decide (s.kdp.serviceQ.length < 16)
    | .bus p => decide (8 ≤ freePlaces s (p / 2)))

/-- Take the waiting messages that can be taken, oldest first, at most n of them. -/
def drainSteps : Nat → State → State
  | 0, s => s
  | n + 1, s => match takeFirst (takeable s) s.kdp.wait with
    | some (m, r) => drainSteps n (processMsg { s with kdp := { s.kdp with wait := r } } m)
    | none => s

/-- Take every waiting message that can be taken (R42). -/
def drainWait (s : State) : State := drainSteps s.kdp.wait.length s

/-- A message joins those that wait (R337). -/
def enqueue (s : State) (m : KdpReq) : State := { s with kdp := { s.kdp with wait := s.kdp.wait ++ [m] } }

/-- A message addressed to the device arrives: a response and a publication are none of it (R60, R61; log 41). -/
def arrive (s : State) (m : KdpReq) : State :=
  if m.addr.flags.testBit 1 || m.op == 0x10 then s else drainWait (enqueue s m)

/-- The message is well formed and addressed to the device on its channel (R58, R59, R76, R357; log 36, log 37). -/
def addressed (s : State) (m : KdpReq) : Bool :=
  decide (m.len ≤ m.body.length) && decide (m.body.length ≤ 56)
    && (!m.addr.routed || (decide (4 ≤ m.len) && m.routeDst == ownSegment s m.addr.chan))
    && (match m.addr.chan with
      | .service => m.addr.svc == 1 && serviceClass 1 m.addr.cls && (m.addr.dst == 0 || m.addr.dst == ownNode s .service)
      | .bus _ => m.addr.dst == ownNode s m.addr.chan && (m.addr.svc == 1 || m.addr.routed))

/-- The bus frame that carries a message. -/
def frameOf (m : KdpReq) (p : Nat) : RxFrame :=
  ⟨p, frameId m.addr.cls m.addr.svc m.addr.dst m.addr.src m.addr.tag, true, true, m.addr.brs, m.addr.esi,
    kdpHeader m.op m.addr.flags m.index m.sub m.seq m.len ++ m.body, m.addr.sof⟩

/-- A frame is discarded (R78): with 10 within 1 s, or while it stands, the condition is raised anew. -/
def serviceDiscard (s : State) : State :=
  let ds := s.clock.tick :: s.kdp.discards.filter fun t => decide (s.clock.tick < t + 1000)
  let s1 := { s with kdp := { s.kdp with discards := ds } }
  if 10 ≤ ds.length ∨ raised s 0x0012 = true then raise s1 0x0012 else s1

/-- A message is received on its channel (R57 to R61, R332, R346). On the service port a message that is not its header with
LEN bytes, without padding, is a frame of the wrong length (R76, R78); during a reference fault the RTC has gone on (R28). On the
bus its frame is first received as such. -/
def receiveMsg (s : State) (m : KdpReq) : State :=
  match m.addr.chan with
  | .service =>
    let s := faultTime s
    if m.body.length ≠ m.len ∨ 56 < m.len then serviceDiscard s else if addressed s m then arrive s m else s
  | .bus p =>
    if m.addr.svc = 1 ∨ m.addr.svc = 5 then
      match receiveFrame s (frameOf m p) m.addr.svc with
      | (true, s1) => if addressed s1 m then arrive s1 m else s1
      | (false, s1) => s1
    else s

end Sys2Proof.Machine
end

