-- ==== Sys2Proof/Machine/Service.lean ====
section
/-! DEFINITION. The commands of the dictionary protocol: READ to UNKNOWN_OP, the timeouts of transfers and snapshots, the service
port (R51, R60 to R68, R76 to R79), and the form of the commands that are one write. -/

namespace Sys2Proof.Machine

/-- A command that is a KDP message of a kind: the message is received while some code runs; one of another kind is none of
this command's business and changes nothing (log 1). -/
def message (ok : Bool) (m : KdpReq) (s : State) : Out := doneIf (coreRuns s && ok) s (receiveMsg s m)

/-- READ (R42, R50 to R53, R60, R65): a read request. -/
def execRead (m : KdpReq) (s : State) : Out := message (m.op == 1) m s

/-- WRITE (R44, R47, R60): a write request of any entry. -/
def execWrite (m : KdpReq) (s : State) : Out := message (m.op == 2) m s

/-- READ_SNAPSHOT (R54): a read-snapshot request. -/
def execReadSnapshot (m : KdpReq) (s : State) : Out := message (m.op == 3) m s

/-- WRITE_INITIATE (R63, R68): a write initiate. -/
def execWriteInitiate (m : KdpReq) (s : State) : Out := message (m.op == 4) m s

/-- SEGMENT (R63, R64, R66): a segment of a segmented write. -/
def execSegment (m : KdpReq) (s : State) : Out := message (m.op == 5) m s

/-- SEGMENT_ACKNOWLEDGEMENT (R65, R66): the requester of a segmented read acknowledges. -/
def execSegmentAcknowledgement (m : KdpReq) (s : State) : Out := message (m.op == 6) m s

/-- ABORT_TRANSFER (R67): the requester gives its transfer up. -/
def execAbortTransfer (m : KdpReq) (s : State) : Out := message (m.op == 7) m s

/-- DESCRIBE (R60): a describe request. -/
def execDescribe (m : KdpReq) (s : State) : Out := message (m.op == 8) m s

/-- UNKNOWN_OP (R60): a request with an OP that is not in the table. -/
def execUnknownOp (m : KdpReq) (s : State) : Out :=
  message (m.op == 0 || (decide (8 < m.op) && m.op != 0x10)) m s

/-- SNAPSHOT_EXPIRY (R51): every snapshot frozen 250 ms ago or earlier expires. -/
def execSnapshotExpiry (s : State) : Out :=
  doneIf (coreRuns s && s.kdp.snaps.any fun x => decide (x.tick + 250 ≤ s.clock.tick)) s (expireSnaps s)

/-- SEGMENT_WAIT_TIMEOUT (R63): 20 ms after the last segment taken in order without another, the device acknowledges, once for
the window. -/
def execSegmentWaitTimeout (who : Requester) (tag : Nat) (s : State) : Out :=
  match transferOf s who tag with
  | none => .next s
  | some t => match t.kind with
    | .reading .. => .next s
    | .writing total crc got nxt _ since last gap =>
      let w := getN s 0x1010 0x02
      doneIf (coreRuns s && decide (0 < since) && gap.isNone && decide (last + 20 ≤ s.clock.tick)) s
        (updTransfer (sendFor s t 6 0 ((nxt - 1) % 256) 4 [byte w]) who tag fun x =>
          { x with kind := .writing total crc got nxt w 0 last gap })

/-- TRANSFER_TIMEOUT (R67): the response timeout expires while the device waits; the transfer is discarded and an abort-transfer
message with 0x0701 is sent. -/
def execTransferTimeout (who : Requester) (tag : Nat) (s : State) : Out :=
  match transferOf s who tag with
  | none => .next s
  | some t => doneIf (coreRuns s && decide (t.deadline ≤ s.clock.tick)) s
      (drainWait (sendFor (dropTransfer s who tag) t 7 0 0 4 (leBytes 2 0x0701)))

/-! ## The service port (R76 to R79) -/

/-- The bytes of a selection from its start byte on; none in an idle selection (R77). -/
def fromStart : Bytes → Bytes
  | [] => []
  | b :: r => if b = 0x5A then b :: r else fromStart r

/-- The message of a service-port frame (R57, R76), with what its pages and its hardware show. Identifier bits [31:29] and the
source node are not checked (log 100, DESIGN CHOICE). -/
def serviceMsg (f : Bytes) (badPage : Nat) (hwFault : Bool) (ecc : Nat) : KdpReq :=
  let id := fieldN f 2 4 % 2 ^ 29
  let d := (f.drop 6).take (fieldN f 1 1)
  { addr := { chan := .service, cls := idClass id, svc := idService id, dst := idDst id, src := idSrc id, tag := idTag id,
              flags := fieldN d 1 1, sof := 0, brs := false, esi := false }
    op := fieldN d 0 1, index := fieldN d 2 2, sub := fieldN d 4 1, seq := fieldN d 5 1, len := fieldN d 6 2, body := d.drop 8,
    badPage := badPage, hwFault := hwFault, ecc := ecc }

/-- Length and check of a service-port frame hold (R57, R76, R78): the message is its header and the LEN bytes it names. -/
def serviceFrameGood (f : Bytes) : Bool :=
  let l := fieldN f 1 1
  decide (8 ≤ l ∧ l ≤ 64) && decide (l + 10 ≤ f.length) && l == 8 + fieldN f 12 2
    && fieldN f (6 + l) 4 == (crc32c ((f.drop 1).take (5 + l))).toNat

/-- The host has clocked n bytes: the oldest queued frame leaves when its last byte has been clocked out (R77). -/
def serviceShift (s : State) (n : Nat) : State :=
  match s.kdp.serviceQ with
  | [] => s
  | f :: r => if (serviceBytes f).length ≤ n then refillService { s with kdp := { s.kdp with serviceQ := r } } else s

/-- The bytes the device shifts out in a selection of n clocks (R77). -/
def serviceOut (s : State) (n : Nat) : Bytes :=
  let b := match s.kdp.serviceQ with | [] => [] | f :: _ => serviceBytes f
  padTo n (b.take n)

/-- SERVICE_PORT_SELECTION (R76 to R79): a selection in which the host shifts in `bytes`; the device shifts out its oldest
queued frame and takes at most one frame (log 36). -/
def execServicePortSelection (bytes : Bytes) (badPage : Nat) (hwFault : Bool) (ecc : Nat) (s : State) : Out :=
  let s1 := drainWait (serviceShift s bytes.length)
  let f := fromStart bytes
  doneIf (coreRuns s) s (
    if f.isEmpty then s1
    else if serviceFrameGood f then receiveMsg s1 (serviceMsg f badPage hwFault ecc)
    else serviceDiscard s1)

/-! ## Commands that are one write (R44, R63) -/

/-- A message that writes an entry of objects `base` to `base + count - 1` at subindex `sub` with a value that a test accepts:
a write request, or the final segment of an open segmented write. -/
def writes (s : State) (m : KdpReq) (base count sub : Nat) (ok : Nat → Bool) : Bool :=
  if m.op = 2 then (instOf base count m.index).isSome && m.sub == sub && ok (leNat m.payload)
  else m.op == 5 && m.addr.flags.testBit 4 && (match transferOf s (requesterOf s m) m.addr.tag with
    | some t => match t.kind with
      | .writing _ _ got .. => (instOf base count t.index).isSome && t.sub == sub && ok (leNat (got ++ m.payload))
      | .reading .. => false
    | none => false)

/-- A write of any value. -/
def anyValue (_ : Nat) : Bool := true
/-- A write of one value. -/
def only (k : Nat) (n : Nat) : Bool := n == k

/-- A command that is a write of an entry (log 1): the message is received; one that is no such write changes nothing. -/
def writeRow (base count sub : Nat) (ok : Nat → Bool) (m : KdpReq) (s : State) : Out :=
  message (writes s m base count sub ok) m s

/-- PUBLICATION_MAP_ENABLE (R73). -/
def execPublicationMapEnable (m : KdpReq) (s : State) : Out := writeRow 0x1200 64 0x01 (only 1) m s
/-- PORT_MODE_WRITE (R85). -/
def execPortModeWrite (m : KdpReq) (s : State) : Out := writeRow 0x2000 64 0x01 anyValue m s
/-- FAULT_RESET (R99). -/
def execFaultReset (m : KdpReq) (s : State) : Out := writeRow 0x2000 64 0x13 (only 1) m s
/-- TRIP_RELEASE (R107). -/
def execTripRelease (m : KdpReq) (s : State) : Out := writeRow 0x2000 64 0x12 (only 1) m s
/-- SOFTWARE_TRIGGER (R120) of a converter (2108+k.08) or a sync set (2110+i.07). -/
def execSoftwareTrigger (m : KdpReq) (s : State) : Out :=
  message (writes s m 0x2108 8 0x08 (only 1) || writes s m 0x2110 4 0x07 (only 1)) m s
/-- CONVERTER_RUN (R126, R129). -/
def execConverterRun (m : KdpReq) (s : State) : Out := writeRow 0x2100 8 0x01 anyValue m s
/-- INJECT_CHANNEL (R130, R131). -/
def execInjectChannel (m : KdpReq) (s : State) : Out := writeRow 0x2108 8 0x09 anyValue m s
/-- RAW_MODE (R139, R140). -/
def execRawMode (m : KdpReq) (s : State) : Out := writeRow 0x2108 8 0x0C anyValue m s
/-- LANE_RUN (R151 to R153). -/
def execLaneRun (m : KdpReq) (s : State) : Out := writeRow 0x2120 8 0x02 anyValue m s
/-- ZERO_FLOW_CAPTURE (R161). -/
def execZeroFlowCapture (m : KdpReq) (s : State) : Out := writeRow 0x2128 8 0x17 anyValue m s
/-- SESSION_OPEN (R170). -/
def execSessionOpen (m : KdpReq) (s : State) : Out := writeRow 0x2180 1 0x01 (only 1) m s
/-- SESSION_CLOSE (R172, R182). -/
def execSessionClose (m : KdpReq) (s : State) : Out := writeRow 0x2180 1 0x01 (only 0) m s
/-- CAPTURE_START (R177, R178). -/
def execCaptureStart (m : KdpReq) (s : State) : Out := writeRow 0x2181 1 0x06 (only 1) m s
/-- METER_ENABLE (R191). -/
def execMeterEnable (m : KdpReq) (s : State) : Out := writeRow 0x2200 16 0x01 anyValue m s
/-- COUNTER_ENABLE (R201). -/
def execCounterEnable (m : KdpReq) (s : State) : Out := writeRow 0x2220 32 0x01 anyValue m s
/-- LOOP_MODE_OFF (R235). -/
def execLoopModeOff (m : KdpReq) (s : State) : Out := writeRow 0x2300 96 0x01 (only 0) m s
/-- LOOP_MODE_MANUAL (R235). -/
def execLoopModeManual (m : KdpReq) (s : State) : Out := writeRow 0x2300 96 0x01 (only 1) m s
/-- LOOP_MODE_AUTO (R235). -/
def execLoopModeAuto (m : KdpReq) (s : State) : Out := writeRow 0x2300 96 0x01 (only 2) m s
/-- LOOP_MODE_HOLD (R235). -/
def execLoopModeHold (m : KdpReq) (s : State) : Out := writeRow 0x2300 96 0x01 (only 3) m s
/-- LOOP_MODE_SAFE (R235). -/
def execLoopModeSafe (m : KdpReq) (s : State) : Out := writeRow 0x2300 96 0x01 (only 4) m s
/-- GROUP_ENABLE (R250). -/
def execGroupEnable (m : KdpReq) (s : State) : Out := writeRow 0x2700 16 0x01 anyValue m s
/-- GROUP_MEMBER_WRITE (R249): a write of any of the six members. -/
def execGroupMemberWrite (m : KdpReq) (s : State) : Out :=
  message ((List.range 6).any fun i => writes s m 0x2700 16 (0x03 + i) anyValue) m s
/-- REPETITIVE_ENABLE (R256). -/
def execRepetitiveEnable (m : KdpReq) (s : State) : Out := writeRow 0x2500 96 0x01 anyValue m s
/-- CLEAR_MEMORY (R254, R273). -/
def execClearMemory (m : KdpReq) (s : State) : Out := writeRow 0x2500 96 0x09 (only 1) m s
/-- ZONE_ENABLE (R261, R264). -/
def execZoneEnable (m : KdpReq) (s : State) : Out := writeRow 0x2800 32 0x01 anyValue m s
/-- ZONE_MODE_REQUEST (R263). -/
def execZoneModeRequest (m : KdpReq) (s : State) : Out := writeRow 0x2800 32 0x02 (fun n => decide (n ≤ 4)) m s
/-- ZONE_BOOST_START (R263). -/
def execZoneBoostStart (m : KdpReq) (s : State) : Out := writeRow 0x2800 32 0x02 (only 5) m s
/-- ZONE_REQUEST_END (R263). -/
def execZoneRequestEnd (m : KdpReq) (s : State) : Out := writeRow 0x2800 32 0x02 (only 0xFF) m s
/-- ZONE_TRIP_RESET (R267). -/
def execZoneTripReset (m : KdpReq) (s : State) : Out := writeRow 0x2800 32 0x0C (only 1) m s
/-- TRACE_ARM (R268). -/
def execTraceArm (m : KdpReq) (s : State) : Out := writeRow 0x2780 8 0x01 (only 1) m s
/-- TRACE_DISARM (R268). -/
def execTraceDisarm (m : KdpReq) (s : State) : Out := writeRow 0x2780 8 0x01 (only 0) m s
/-- TRACE_MANUAL_TRIGGER (R269). -/
def execTraceManualTrigger (m : KdpReq) (s : State) : Out := writeRow 0x2780 8 0x12 (only 1) m s
/-- ON_DEMAND_SEAL (R286, R291). -/
def execOnDemandSeal (m : KdpReq) (s : State) : Out := writeRow 0x2B20 1 0x01 (only 1) m s
/-- ATTESTATION_CHALLENGE (R306). -/
def execAttestationChallenge (m : KdpReq) (s : State) : Out := writeRow 0x2C10 1 0x01 anyValue m s
/-- UPDATE_REQUEST (R317). -/
def execUpdateRequest (m : KdpReq) (s : State) : Out := writeRow 0x2D10 1 0x01 anyValue m s
/-- UPDATE_BLOCK (R316, R318). -/
def execUpdateBlock (m : KdpReq) (s : State) : Out := writeRow 0x2D10 1 0x02 anyValue m s
/-- UPDATE_CANCEL (R318). -/
def execUpdateCancel (m : KdpReq) (s : State) : Out := writeRow 0x2D10 1 0x05 (only 1) m s
/-- ACTIVATE (R319). -/
def execActivate (m : KdpReq) (s : State) : Out := writeRow 0x2D10 1 0x04 (only 1) m s
/-- CONFIRM (R322). -/
def execConfirm (m : KdpReq) (s : State) : Out := writeRow 0x2D20 1 0x03 (only 1) m s
/-- ACKNOWLEDGE_FALLBACK (R321). -/
def execAcknowledgeFallback (m : KdpReq) (s : State) : Out := writeRow 0x2D20 1 0x04 (only 1) m s
/-- CLEAR_REMOTE_SOURCES (R352). -/
def execClearRemoteSources (m : KdpReq) (s : State) : Out := writeRow 0x1110 1 0x03 (only 1) m s
/-- MAILBOX_SEND (R363). -/
def execMailboxSend (m : KdpReq) (s : State) : Out := writeRow 0x1410 8 0x04 (only 1) m s
/-- MAILBOX_CANCEL (R370). -/
def execMailboxCancel (m : KdpReq) (s : State) : Out := writeRow 0x1410 8 0x06 (only 1) m s
/-- HALT (R380). -/
def execHalt (m : KdpReq) (s : State) : Out := writeRow 0x2900 1 0x07 (only 1) m s
/-- HALT_RELEASE (R381). -/
def execHaltRelease (m : KdpReq) (s : State) : Out := writeRow 0x2900 1 0x07 (only 0) m s
/-- TEST_WRITE (R408, R422). -/
def execTestWrite (m : KdpReq) (s : State) : Out := writeRow 0x2E10 1 0x01 anyValue m s
/-- DISPLAY_ENABLE (R429). -/
def execDisplayEnable (m : KdpReq) (s : State) : Out := writeRow 0x2A00 1 0x01 (only 1) m s
/-- DISPLAY_DISABLE (R429). -/
def execDisplayDisable (m : KdpReq) (s : State) : Out := writeRow 0x2A00 1 0x01 (only 0) m s
/-- WINDOW_UPDATE (R433). -/
def execWindowUpdate (m : KdpReq) (s : State) : Out := writeRow 0x2A10 8 0x06 anyValue m s
/-- ACKNOWLEDGE_DEADLINE_MISS (R454). -/
def execAcknowledgeDeadlineMiss (m : KdpReq) (s : State) : Out := writeRow 0x2F00 1 0x09 (only 1) m s
/-- STATE_REQUEST (R465): the change of state follows at the next tick. -/
def execStateRequest (m : KdpReq) (s : State) : Out := writeRow 0x3000 1 0x02 anyValue m s

/-! ## Commands that are one read -/

/-- PAGE_INSPECT (R423): a read of 2E20.02. -/
def execPageInspect (m : KdpReq) (s : State) : Out := message (m.op == 1 && m.index == 0x2E20 && m.sub == 0x02) m s
/-- REFUSED_HAMPER_WRITE_READ (R454): a read of 2F00.0A. -/
def execRefusedHamperWriteRead (m : KdpReq) (s : State) : Out := message (m.op == 1 && m.index == 0x2F00 && m.sub == 0x0A) m s
/-- ATTESTATION_STATEMENT_READ (R307): the requester acknowledges a segment of its statement; with the final one its read is
complete. -/
def execAttestationStatementRead (m : KdpReq) (s : State) : Out :=
  message (m.op == 6 && (match transferOf s (requesterOf s m) m.addr.tag with
    | some t => t.index == 0x2C10 && t.sub == 0x03
    | none => false)) m s

end Sys2Proof.Machine
end

