-- ==== Sys2Proof/Machine/Events.lean ====
section
/-! DEFINITION. Publications and subscriptions at run time (R69 to R75), the end of a port mode's wait, completed frames, the
clearing of conditions, and the tick. -/

namespace Sys2Proof.Machine

/-! ## Publication triggers (R72, R73) -/

/-- Map n has a trigger of a kind (0 period, 1 change, 2 event) and is enabled. -/
def triggers (s : State) (n kind : Nat) : Bool :=
  isUp s && decide (n < 64) && getB s (0x1200 + n) 0x01 && getBit s (0x1200 + n) 0x02 kind

/-- Periods of map n that have passed since it was enabled. -/
def periodsPassed (s : State) (n : Nat) : Nat := (s.clock.tick - (pubAt s n).enabledAt) / max 1 (getN s (0x1200 + n) 0x03)

/-- PUBLICATION_PERIOD_TRIGGER (R72): a whole multiple of the period after Enable was set (log 47). -/
def execPublicationPeriodTrigger (n : Nat) (s : State) : Out :=
  doneIf (triggers s n 0 && decide ((pubAt s n).fired < periodsPassed s n)) s
    (pubFire (updPub s n fun p => { p with fired := periodsPassed s n }) n)

/-- A value of an entry as a fraction; none for a NaN or an infinity. -/
def fraction (index sub : Nat) (v : Bytes) : Option (Int × Nat) :=
  match rowAt index sub with
  | none => none
  | some r => match r.ty with
    | .f32 => (v32 (BitVec.ofNat 32 (leNat v))).toRat
    | .i8 | .i16 | .i32 | .i64 => some (toSigned (8 * v.length) (leNat v), 1)
    | _ => some (leNat v, 1)

/-- Two values of an entry differ by more than a threshold; for BOOL by anything (R72; log 43). -/
def differs (index sub : Nat) (v w : Bytes) (threshold : F32) : Bool :=
  if (rowAt index sub).map (·.ty) = some .bool then v != w
  else match fraction index sub v, fraction index sub w, (v32 threshold).toRat with
    | some (a, b), some (c, d), some (e, f) => decide (e * (b * d : Nat) < (a * d - c * b).natAbs * f)
    | _, _, _ => false

/-- The change item of map n differs from its last transmitted value by more than the threshold (log 43). -/
def changed (s : State) (n : Nat) : Bool :=
  match changeValue s n, (pubAt s n).lastValue with
  | some (i, j, v), some w => differs i j v w (getF s (0x1200 + n) 0x06)
  | _, _ => false

/-- PUBLICATION_CHANGE_TRIGGER (R72). A change that waits for the end of the inhibit time has fired already (log 43). -/
def execPublicationChangeTrigger (n : Nat) (s : State) : Out :=
  doneIf (triggers s n 1 && pubLive s n && !(pubAt s n).deferred && changed s n) s (pubFire s n)

/-- INHIBIT_TIME_END (R72): one frame goes out with the values sampled now. -/
def execInhibitTimeEnd (n : Nat) (s : State) : Out :=
  doneIf (decide (n < 64) && pubLive s n && (pubAt s n).deferred && !inhibited s n) s (pubSend s n)

/-! ## Subscriptions (R74, R75) -/

/-- Subscription map n takes publications of a map from a segment and node, received on pair i (R74, R360). -/
def subTakes (s : State) (n i seg node map : Nat) : Bool :=
  let b := 0x1240 + n
  let want := if getN s b 0x02 = 0xFFFF then (pairAt s i).segment else getN s b 0x02
  getB s b 0x01 && want == seg && getN s b 0x03 == node && getN s b 0x04 == map

/-- The write of one item, as the device does it for a subscription: no expert flag. -/
def itemReq (it : Nat × Nat × Nat) (v : Bytes) (badPage : Nat) (hwFault : Bool) : KdpReq :=
  { addr := { chan := .service, cls := 4, svc := 1, dst := 0, src := 0, tag := 0, flags := 0, sof := 0, brs := false, esi := false }
    op := 2, index := it.1, sub := it.2.1, seq := 0, len := v.length, body := v, badPage := badPage, hwFault := hwFault, ecc := 0 }

/-- Write the items in order (R74); a refused one is counted in subindex 0A of `b`. -/
def writeItems (badPage : Nat) (hwFault : Bool) (b : Nat) : List (Nat × Nat × Nat) → Bytes → State → State
  | [], _, s => s
  | it :: r, v, s =>
    let x := v.take it.2.2
    match kdpWrite s .device (itemReq it x badPage hwFault) x false false (entryTaken s it.1 it.2.1) with
    | (0, s1) => writeItems badPage hwFault b r (v.drop it.2.2) s1
    | (_, s1) => writeItems badPage hwFault b r (v.drop it.2.2) (addN s1 b 0x0A 1)

/-- Subscription map n receives a publication it matches, of a content version and payload (R74, R75; log 44). -/
def subReceive (badPage : Nat) (hwFault : Bool) (s : State) (n version : Nat) (v : Bytes) : State :=
  let b := 0x1240 + n
  let items := mapItems s b 0x07
  let s1 := updSub s n fun x => { x with last := s.clock.tick }
  let total : Nat := items.foldl (fun a it => a + it.2.2) 0
  if version ≠ getN s b 0x05 ∨ v.length ≠ total then
    setN (raiseHeld (updSub s1 n fun x => { x with mismatch := true }) 0x0011) b 0x08 4
  else
    let s2 := updSub (writeItems badPage hwFault b items v s1) n fun x => { x with late := false, mismatch := false }
    subsJudge (setN (addN s2 b 0x09 1) b 0x08 2)

/-- PUBLICATION_RECEIVED (R74, R75, R360): a publication of service 0x2 or 0x6 reaches every matching subscription map, in
ascending order, and goes on across a bridge (log 44). -/
def execPublicationReceived (f : RxFrame) (badPage : Nat) (hwFault : Bool) (s : State) : Out :=
  let svc := if isService f 6 then 6 else 2
  match receiveFrame s f svc with
  | (false, s1) => done s1
  | (true, s1) =>
    let i := f.path / 2
    let len := fieldN f.data 6 2
    let seg := if svc = 6 then fieldN f.data 4 2 else (pairAt s i).segment
    if f.data.length < 8 + len ∨ fieldN f.data 0 1 ≠ 0x10 ∨ fieldN f.data 1 1 &&& 0x16 ≠ 0 then done s1
    else
      let map := fieldN f.data 2 1
      let v := (f.data.drop 8).take len
      let s2 := (List.range 64).foldl (fun a n =>
        if subTakes a n i seg (idSrc f.id) map then subReceive badPage hwFault a n (fieldN f.data 3 1) v else a) s1
      done (forwardPublication s2 i f seg)

/-- SUBSCRIPTION_TIMEOUT (R75): no matching publication within the reception timeout. -/
def execSubscriptionTimeout (n : Nat) (s : State) : Out :=
  let b := 0x1240 + n
  let late := decide ((subAt s n).last + getN s b 0x06 ≤ s.clock.tick)
  doneIf (isUp s && decide (n < 64) && getB s b 0x01 && decide (0 < getN s b 0x06) && getN s b 0x08 != 3 && late) s
    (raiseHeld (setN (updSub s n fun x => { x with late := true }) b 0x08 3) 0x0010)

/-! ## Port modes, frames, conditions -/

/-- PORT_MODE_ENABLE (R85): 2 ms after the write the mode is enabled, the response goes out, and the messages that waited are
taken. -/
def execPortModeEnable (n : Nat) (s : State) : Out :=
  match (portAt s n).modeAt with
  | none => .next s
  | some t =>
    let s1 := judgePwmSources (modeEnable s n)
    let s2 := if s.power.refFault then faultSafe s1 n else s1
    doneIf (isUp s && decide (t ≤ s.clock.tick)) s (drainWait (match (portAt s n).modeReq with
      | none => s2
      | some m => if m.op = 5 then finalAck s2 (exchange s2 m (.reading [] 0 0 0)) m.seq 0 else okReply s2 m 0 []))

/-- FRAME_COMPLETED (R329, R334, R335, R338, R341, R345, R386): the frame that path p offered at reference count `sof`, its start
of frame, has been sent; `delay` is the measured transmitter delay in ns. A place becomes free for waiting requests (R336). -/
def execFrameCompleted (p sof delay : Nat) (s : State) : Out :=
  match offerAt s p sof with
  | none => .next s
  | some o => done (drainWait (frameEnds s p o sof delay))

/-- The clear time of a condition has passed since its cause became absent. -/
def clearDue (s : State) (code : Nat) : Bool :=
  s.conds.any fun c => c.code == code && !c.cause && decide (c.since + clearMs code ≤ s.clock.tick)

/-- CONDITION_CLEAR (R22, R102, R371, R385, R424): a condition clears when its cause has been absent for its time. -/
def execConditionClear (code : Nat) (s : State) : Out :=
  doneIf (coreRuns s && clearDue s code) s (
    if code / 4096 = 1 then clearFault s (code % 64) (code % 4096 / 64) else dropCond s code)

/-! ## The tick (R23, R121) -/

/-- A tick on the clocks (R24, R121, R372, R376, R379). -/
def tickClock (s : State) (cycles : Nat) : State :=
  let n := s.clock.tick + 1
  let s := skipPeriod s
  growBound (rtcTick { s with clock := { s.clock with tick := n, ref := refMs * n } } cycles (refMs * n))

/-- Staged values of the application core, and safe values that are due, reach port n (R27, R31, R107, R234). -/
def tickPort (s : State) (n : Nat) : State :=
  let p := portAt s n
  if p.modeAt.isSome then s
  else
    let s1 := updPort s n fun x => { x with safeNext := false, appStaged := none }
    let s2 := if p.safeNext && !p.tripped then holdSafe s1 n else s1
    match p.appStaged with
    | none => s2
    | some v => if isOutput (portMode s n) && !loopDriven s n then applyOut s2 n v (refMs * s.clock.tick + 1) else s2

/-- The tick at every port that has something due. -/
def tickPorts (s : State) : State :=
  (List.range 64).foldl (fun a n => if (portAt a n).safeNext || (portAt a n).appStaged.isSome then tickPort a n else a) s

/-- Run and Quiet (R465, R466, R481): start-up is complete when metrology is valid and every enabled pair has joined; from the next
tick on the state request holds, and on the return to Run every enabled map sends one frame. -/
def tickQuiet (s : State) : State :=
  let joined := (List.range 2).all fun i => !(pairAt s i).enabled || (pairAt s i).joinEnd.isNone
  let starting := s.power.starting && !(s.power.metrologyValid && joined)
  let q := !starting && getN s 0x3000 0x02 == 1
  let s1 := { s with power := { s.power with
    quiet := q, quietAt := if s.power.quiet then s.power.quietAt else s.clock.ref, starting := starting } }
  if s.power.quiet && !q then (List.range 64).foldl pubFire s1 else s1

/-- A path that stands as quiet and is so no longer passes the test again (R344). -/
def unquiet (s : State) (p : Nat) : State :=
  if (pathAt s p).quiet && !quietNow s p then causeGone (updPath s p fun x => { x with quiet := false }) (0xA060 + p) else s

/-- The bus at a tick (R345). -/
def tickBus (s : State) : State := evalPairs ((List.range 4).foldl unquiet s)

/-- Metrology becomes valid again at the whole second after a brown-out (R461, R463). -/
def tickValid (s : State) : State :=
  match s.power.validAt with
  | some k => if k ≤ devRef s / refSec then metrologyStarts s else s
  | none => s

/-- The tick of the running firmware; `index` is the ring oscillator's speed index in thousandths. A change of the converter spread is in
effect from the first tick after it: a sweep of 40 µs begins before that (R459; log 107). -/
def tickFirmware (s : State) (index : Nat) (serviced : Bool) : State :=
  let s1 := { s with power := { s.power with
    watchdog := if serviced then 0 else s.power.watchdog + 1, spread := getB s 0x3000 0x0A } }
  let s2 := judgeTrust (if s1.clock.localDue then refreshLocal s1 else s1)
  let s3 := speedTick (showDieTemp s2) index
  showTime (tickBus (tickQuiet (tickPorts (tickValid s3))))

/-- TICK (R121): the next 1 ms tick. `index` is the ring oscillator's speed index in thousandths (R19), `cycles` the crystal
cycles since the last tick, `serviced` whether the firmware restarted the watchdog (R490). In recovery only the clocks
run; during a reference fault there is no tick (R28; log 1). -/
def execTick (index cycles : Nat) (serviced : Bool) (s : State) : Out :=
  let s1 := tickClock s cycles
  doneIf (coreRuns s && !s.power.refFault) s (drainWait (if isUp s then tickFirmware s1 index serviced else
    { s1 with power := { s1.power with watchdog := if serviced then 0 else s1.power.watchdog + 1 } }))

end Sys2Proof.Machine
end

