-- ==== Sys2Proof/Machine/Dispatch.lean ====
section
/-! DEFINITION. The meaning of every command: one arm for each constructor of Instr. -/

namespace Sys2Proof.Machine

/-- What a command does to everything but the queue. -/
def exec (i : Instr) (s : State) : Host.Outcome State Fault Refusal :=
  match i with
  | .tick index cycles serviced => Sys2Proof.Machine.execTick index cycles serviced s
  | .coreSupplyAdjust => Sys2Proof.Machine.execCoreSupplyAdjust s
  | .conditionClear code => Sys2Proof.Machine.execConditionClear code s
  | .referenceOscillatorFault => Sys2Proof.Machine.execReferenceOscillatorFault s
  | .referenceRestart cycles => Sys2Proof.Machine.execReferenceRestart cycles s
  | .hamperPageWrite differs => Sys2Proof.Machine.execHamperPageWrite differs s
  | .scrubPage ecc differs => Sys2Proof.Machine.execScrubPage ecc differs s
  | .read m => Sys2Proof.Machine.execRead m s
  | .snapshotExpiry => Sys2Proof.Machine.execSnapshotExpiry s
  | .write m => Sys2Proof.Machine.execWrite m s
  | .readSnapshot m => Sys2Proof.Machine.execReadSnapshot m s
  | .writeInitiate m => Sys2Proof.Machine.execWriteInitiate m s
  | .segment m => Sys2Proof.Machine.execSegment m s
  | .segmentAcknowledgement m => Sys2Proof.Machine.execSegmentAcknowledgement m s
  | .segmentWaitTimeout who tag => Sys2Proof.Machine.execSegmentWaitTimeout who tag s
  | .abortTransfer m => Sys2Proof.Machine.execAbortTransfer m s
  | .transferTimeout who tag => Sys2Proof.Machine.execTransferTimeout who tag s
  | .describe m => Sys2Proof.Machine.execDescribe m s
  | .unknownOp m => Sys2Proof.Machine.execUnknownOp m s
  | .publicationReceived f badPage hwFault => Sys2Proof.Machine.execPublicationReceived f badPage hwFault s
  | .subscriptionTimeout n => Sys2Proof.Machine.execSubscriptionTimeout n s
  | .publicationPeriodTrigger n => Sys2Proof.Machine.execPublicationPeriodTrigger n s
  | .publicationChangeTrigger n => Sys2Proof.Machine.execPublicationChangeTrigger n s
  | .inhibitTimeEnd n => Sys2Proof.Machine.execInhibitTimeEnd n s
  | .publicationMapEnable m => Sys2Proof.Machine.execPublicationMapEnable m s
  | .servicePortSelection bytes badPage hwFault ecc => Sys2Proof.Machine.execServicePortSelection bytes badPage hwFault ecc s
  | .portModeWrite m => Sys2Proof.Machine.execPortModeWrite m s
  | .portModeEnable n => Sys2Proof.Machine.execPortModeEnable n s
  | .digitalFilterChange n level edge => Sys2Proof.Machine.execDigitalFilterChange n level edge s
  | .gateWindowEnd n => Sys2Proof.Machine.execGateWindowEnd n s
  | .stallTimeout n => Sys2Proof.Machine.execStallTimeout n s
  | .presenceWindowEnd n => Sys2Proof.Machine.execPresenceWindowEnd n s
  | .shuntOverload n => Sys2Proof.Machine.execShuntOverload n s
  | .shuntReclose n => Sys2Proof.Machine.execShuntReclose n s
  | .pwmPeriodBoundary n => Sys2Proof.Machine.execPwmPeriodBoundary n s
  | .outputOverloadTimeout n => Sys2Proof.Machine.execOutputOverloadTimeout n s
  | .switchOvercurrent n => Sys2Proof.Machine.execSwitchOvercurrent n s
  | .switchRetry n => Sys2Proof.Machine.execSwitchRetry n s
  | .switchRetrySuccess n => Sys2Proof.Machine.execSwitchRetrySuccess n s
  | .faultReset m => Sys2Proof.Machine.execFaultReset m s
  | .driverOverTemperature n => Sys2Proof.Machine.execDriverOverTemperature n s
  | .driverRestart n cooled => Sys2Proof.Machine.execDriverRestart n cooled s
  | .actuatorRunEnd n => Sys2Proof.Machine.execActuatorRunEnd n s
  | .portFaultClear n t => Sys2Proof.Machine.execPortFaultClear n t s
  | .tripRelease m => Sys2Proof.Machine.execTripRelease m s
  | .converterTimerTrigger set j => Sys2Proof.Machine.execConverterTimerTrigger set j s
  | .pwmEventTrigger n ev t => Sys2Proof.Machine.execPwmEventTrigger n ev t s
  | .softwareTrigger m => Sys2Proof.Machine.execSoftwareTrigger m s
  | .triggerDelayEnd k => Sys2Proof.Machine.execTriggerDelayEnd k s
  | .slotEnd k vin vref => Sys2Proof.Machine.execSlotEnd k vin vref s
  | .converterRun m => Sys2Proof.Machine.execConverterRun m s
  | .injectChannel m => Sys2Proof.Machine.execInjectChannel m s
  | .rawMode m => Sys2Proof.Machine.execRawMode m s
  | .metrologyTakesResult k compliance => Sys2Proof.Machine.execMetrologyTakesResult k compliance s
  | .referenceOutOfTolerance k m => Sys2Proof.Machine.execReferenceOutOfTolerance k m s
  | .settlingComplete k => Sys2Proof.Machine.execSettlingComplete k s
  | .laneMeasurementStart k => Sys2Proof.Machine.execLaneMeasurementStart k s
  | .laneShot k j => Sys2Proof.Machine.execLaneShot k j s
  | .laneMeasurementEnd k => Sys2Proof.Machine.execLaneMeasurementEnd k s
  | .laneResultTaken k => Sys2Proof.Machine.execLaneResultTaken k s
  | .laneRun m => Sys2Proof.Machine.execLaneRun m s
  | .zeroFlowCapture m => Sys2Proof.Machine.execZeroFlowCapture m s
  | .calNChange on => Sys2Proof.Machine.execCalNChange on s
  | .sessionOpen m => Sys2Proof.Machine.execSessionOpen m s
  | .sessionClose m => Sys2Proof.Machine.execSessionClose m s
  | .sessionTimeout => Sys2Proof.Machine.execSessionTimeout s
  | .captureStart m => Sys2Proof.Machine.execCaptureStart m s
  | .meterEnable m => Sys2Proof.Machine.execMeterEnable m s
  | .counterEnable m => Sys2Proof.Machine.execCounterEnable m s
  | .meteringPeriodEnd m => Sys2Proof.Machine.execMeteringPeriodEnd m s
  | .pulseCounterSecond q => Sys2Proof.Machine.execPulseCounterSecond q s
  | .intervalEnd => Sys2Proof.Machine.execIntervalEnd s
  | .loopSampleInstant l => Sys2Proof.Machine.execLoopSampleInstant l s
  | .loopRelease l => Sys2Proof.Machine.execLoopRelease l s
  | .loopJobEnd l => Sys2Proof.Machine.execLoopJobEnd l s
  | .loopOutputInstant l => Sys2Proof.Machine.execLoopOutputInstant l s
  | .loopModeOff m => Sys2Proof.Machine.execLoopModeOff m s
  | .loopModeManual m => Sys2Proof.Machine.execLoopModeManual m s
  | .loopModeAuto m => Sys2Proof.Machine.execLoopModeAuto m s
  | .loopModeHold m => Sys2Proof.Machine.execLoopModeHold m s
  | .loopModeSafe m => Sys2Proof.Machine.execLoopModeSafe m s
  | .groupEnable m => Sys2Proof.Machine.execGroupEnable m s
  | .groupMemberWrite m => Sys2Proof.Machine.execGroupMemberWrite m s
  | .repetitiveEnable m => Sys2Proof.Machine.execRepetitiveEnable m s
  | .clearMemory m => Sys2Proof.Machine.execClearMemory m s
  | .highWaterFlush l => Sys2Proof.Machine.execHighWaterFlush l s
  | .zoneEvaluation z => Sys2Proof.Machine.execZoneEvaluation z s
  | .zoneEnable m => Sys2Proof.Machine.execZoneEnable m s
  | .presenceSample z => Sys2Proof.Machine.execPresenceSample z s
  | .occupiedSet z => Sys2Proof.Machine.execOccupiedSet z s
  | .occupiedClear z => Sys2Proof.Machine.execOccupiedClear z s
  | .zoneModeRequest m => Sys2Proof.Machine.execZoneModeRequest m s
  | .zoneBoostStart m => Sys2Proof.Machine.execZoneBoostStart m s
  | .zoneRequestEnd m => Sys2Proof.Machine.execZoneRequestEnd m s
  | .requestExpiry z => Sys2Proof.Machine.execRequestExpiry z s
  | .boostEnd z => Sys2Proof.Machine.execBoostEnd z s
  | .zoneTripReset m => Sys2Proof.Machine.execZoneTripReset m s
  | .traceArm m => Sys2Proof.Machine.execTraceArm m s
  | .traceDisarm m => Sys2Proof.Machine.execTraceDisarm m s
  | .traceManualTrigger m => Sys2Proof.Machine.execTraceManualTrigger m s
  | .onDemandSeal m => Sys2Proof.Machine.execOnDemandSeal m s
  | .signingStart => Sys2Proof.Machine.execSigningStart s
  | .signingComplete good => Sys2Proof.Machine.execSigningComplete good s
  | .signingRetry => Sys2Proof.Machine.execSigningRetry s
  | .attestationChallenge m => Sys2Proof.Machine.execAttestationChallenge m s
  | .attestationStatementRead m => Sys2Proof.Machine.execAttestationStatementRead m s
  | .statementExpiry who => Sys2Proof.Machine.execStatementExpiry who s
  | .trngHealthFailure => Sys2Proof.Machine.execTrngHealthFailure s
  | .trngRetest pass => Sys2Proof.Machine.execTrngRetest pass s
  | .tamperActivation j cycles => Sys2Proof.Machine.execTamperActivation j cycles s
  | .tamperRearm j => Sys2Proof.Machine.execTamperRearm j s
  | .tamperLog j => Sys2Proof.Machine.execTamperLog j s
  | .updateRequest m => Sys2Proof.Machine.execUpdateRequest m s
  | .updateBlock m => Sys2Proof.Machine.execUpdateBlock m s
  | .updateCancel m => Sys2Proof.Machine.execUpdateCancel m s
  | .activate m => Sys2Proof.Machine.execActivate m s
  | .activationReset busy => Sys2Proof.Machine.execActivationReset busy s
  | .confirm m => Sys2Proof.Machine.execConfirm m s
  | .confirmationTimeout => Sys2Proof.Machine.execConfirmationTimeout s
  | .acknowledgeFallback m => Sys2Proof.Machine.execAcknowledgeFallback m s
  | .tripFrameReceived f => Sys2Proof.Machine.execTripFrameReceived f s
  | .kdpForward f => Sys2Proof.Machine.execKdpForward f s
  | .rawFrameReceived f => Sys2Proof.Machine.execRawFrameReceived f s
  | .remoteFrameReceived p => Sys2Proof.Machine.execRemoteFrameReceived p s
  | .frameCompleted p sof delay => Sys2Proof.Machine.execFrameCompleted p sof delay s
  | .transmissionError p e => Sys2Proof.Machine.execTransmissionError p e s
  | .busOffRecovery p => Sys2Proof.Machine.execBusOffRecovery p s
  | .transceiverFault p bits => Sys2Proof.Machine.execTransceiverFault p bits s
  | .errorPassiveLimit p => Sys2Proof.Machine.execErrorPassiveLimit p s
  | .quietPath p => Sys2Proof.Machine.execQuietPath p s
  | .leaseExpiry j => Sys2Proof.Machine.execLeaseExpiry j s
  | .heartbeatDue j => Sys2Proof.Machine.execHeartbeatDue j s
  | .pairJoin j => Sys2Proof.Machine.execPairJoin j s
  | .tripRefresh => Sys2Proof.Machine.execTripRefresh s
  | .clearRemoteSources m => Sys2Proof.Machine.execClearRemoteSources m s
  | .mailboxSend m => Sys2Proof.Machine.execMailboxSend m s
  | .mailboxCancel m => Sys2Proof.Machine.execMailboxCancel m s
  | .rtcWindow periods => Sys2Proof.Machine.execRtcWindow periods s
  | .halt m => Sys2Proof.Machine.execHalt m s
  | .haltRelease m => Sys2Proof.Machine.execHaltRelease m s
  | .haltTimeout => Sys2Proof.Machine.execHaltTimeout s
  | .timeReferenceSend j => Sys2Proof.Machine.execTimeReferenceSend j s
  | .timeFollowUpSend j => Sys2Proof.Machine.execTimeFollowUpSend j s
  | .timeReferenceReceived f => Sys2Proof.Machine.execTimeReferenceReceived f s
  | .timeFollowUpReceived f => Sys2Proof.Machine.execTimeFollowUpReceived f s
  | .holdover => Sys2Proof.Machine.execHoldover s
  | .masterResume j => Sys2Proof.Machine.execMasterResume j s
  | .scheduleMinute => Sys2Proof.Machine.execScheduleMinute s
  | .daylightSavingChange => Sys2Proof.Machine.execDaylightSavingChange s
  | .userAlarm a => Sys2Proof.Machine.execUserAlarm a s
  | .testWrite m => Sys2Proof.Machine.execTestWrite m s
  | .pageInspect m => Sys2Proof.Machine.execPageInspect m s
  | .displayEnable m => Sys2Proof.Machine.execDisplayEnable m s
  | .displayDisable m => Sys2Proof.Machine.execDisplayDisable m s
  | .windowUpdate m => Sys2Proof.Machine.execWindowUpdate m s
  | .displayFrameBoundary committed => Sys2Proof.Machine.execDisplayFrameBoundary committed s
  | .imageCheck corrupt => Sys2Proof.Machine.execImageCheck corrupt s
  | .metrologyPageChange => Sys2Proof.Machine.execMetrologyPageChange s
  | .railFault => Sys2Proof.Machine.execRailFault s
  | .railRecovery => Sys2Proof.Machine.execRailRecovery s
  | .indicatorStep j => Sys2Proof.Machine.execIndicatorStep j s
  | .indicatorFault j kind => Sys2Proof.Machine.execIndicatorFault j kind s
  | .healthHour => Sys2Proof.Machine.execHealthHour s
  | .pathLossTimeout j => Sys2Proof.Machine.execPathLossTimeout j s
  | .pathLossClear j => Sys2Proof.Machine.execPathLossClear j s
  | .histogramSample => Sys2Proof.Machine.execHistogramSample s
  | .lifetimeFlush differs => Sys2Proof.Machine.execLifetimeFlush differs s
  | .dieTemperatureInject => Sys2Proof.Machine.execDieTemperatureInject s
  | .acknowledgeDeadlineMiss m => Sys2Proof.Machine.execAcknowledgeDeadlineMiss m s
  | .refusedHamperWriteRead m => Sys2Proof.Machine.execRefusedHamperWriteRead m s
  | .powerFailWarning t busy => Sys2Proof.Machine.execPowerFailWarning t busy s
  | .brownOutEnd t => Sys2Proof.Machine.execBrownOutEnd t s
  | .powerDownReset retained => Sys2Proof.Machine.execPowerDownReset retained s
  | .warningTimeout retained => Sys2Proof.Machine.execWarningTimeout retained s
  | .stateRequest m => Sys2Proof.Machine.execStateRequest m s
  | .supplyWarning m => Sys2Proof.Machine.execSupplyWarning m s
  | .overVoltage m => Sys2Proof.Machine.execOverVoltage m s
  | .portRailLimit m => Sys2Proof.Machine.execPortRailLimit m s
  | .dieOverTemperature m => Sys2Proof.Machine.execDieOverTemperature m s
  | .thermalShutdown m retained => Sys2Proof.Machine.execThermalShutdown m retained s
  | .thermosSwitchToBackup cycles => Sys2Proof.Machine.execThermosSwitchToBackup cycles s
  | .thermosSwitchToMain cycles => Sys2Proof.Machine.execThermosSwitchToMain cycles s
  | .backupMeasurement mv => Sys2Proof.Machine.execBackupMeasurement mv s
  | .oscillatorStopped => Sys2Proof.Machine.execOscillatorStopped s
  | .startUp cycles checkOk keyOk => Sys2Proof.Machine.execStartUp cycles checkOk keyOk s
  | .metrologyValid => Sys2Proof.Machine.execMetrologyValid s
  | .metrologyValidTimeout lead => Sys2Proof.Machine.execMetrologyValidTimeout lead s
  | .externalReset busy => Sys2Proof.Machine.execExternalReset busy s
  | .watchdogExpiry busy => Sys2Proof.Machine.execWatchdogExpiry busy s
  | .resetEntryEnd => Sys2Proof.Machine.execResetEntryEnd s
  | .heartbeatLosesArbitration j => Sys2Proof.Machine.execHeartbeatLosesArbitration j s
  | .receiveError p heavy => Sys2Proof.Machine.execReceiveError p heavy s
  | .transceiverFaultCleared p => Sys2Proof.Machine.execTransceiverFaultCleared p s
  | .currentLimitActs n on => Sys2Proof.Machine.execCurrentLimitActs n on s
  | .thermalRestart temp cycles checkOk keyOk => Sys2Proof.Machine.execThermalRestart temp cycles checkOk keyOk s

end Sys2Proof.Machine
end

