-- ==== Sys2Proof/Safety.lean ====
section
/-! DEFINITION. What a good state is, and the words that claims are stated in. -/

namespace Sys2Proof.Machine

/-! ## Invariants -/

/-- The bytes of the Hamper are in canonical form (R33, R404). -/
def State.memoryWf (s : State) : Prop := Memory.wf s.stor.mem = true

/-- The entry table is in canonical form: keys rise strictly. -/
def State.entriesWf (s : State) : Prop := mapWf s.ents = true

/-- At most 8 snapshots are live (R52). -/
def State.snapsFit (s : State) : Prop := s.kdp.snaps.length ≤ 8

/-- No more spare pages are used than the Hamper has (R407). -/
def State.sparesFit (s : State) : Prop := s.stor.remap.fits = true

/-- A good state. -/
def State.good (s : State) : Prop := s.memoryWf ∧ s.entriesWf ∧ s.snapsFit ∧ s.sparesFit

/-! ## Outcomes -/

/-- An outcome is a next state. -/
def answers (o : Out) : Prop := ∃ t, o = .next t

/-- The command has its effect: it answers u, after the event triggers of the publication maps have fired for the conditions it
raised and cleared (R72). -/
def runs (c : Instr) (s u : State) : Prop := exec c s = .next (flushEvents u)

/-! ## Entries -/

/-- An entry holds an unsigned number, modulo its size. -/
def holds (s : State) (index sub n : Nat) : Prop := getBytes s index sub = leBytes (entSize index sub) n

/-- No entry differs between two states but the listed ones. -/
def onlyEntries (ks : List (Nat × Nat)) (s t : State) : Prop :=
  ∀ i j, (∀ k ∈ ks, keyOf k.1 k.2 ≠ keyOf i j) → getBytes t i j = getBytes s i j

/-! ## Conditions -/

/-- Conditions are raised in t as they are in s, but for those of the list. -/
def onlyConds (cs : List Nat) (s t : State) : Prop := ∀ c, c ∉ cs → raised t c = raised s c

/-! ## Page writes -/

/-- The entries in which the storage shows and counts page writes: status, spare pages and remapped pages, verify failures, the latest
refused write and its advisory, and the page writes of each region (R405, R407, R421, R448, R454). -/
def storageEntries : List (Nat × Nat) :=
  [(0x2E00, 1), (0x2E00, 2), (0x2E00, 3), (0x2E00, 8), (0x2F00, 3), (0x2F00, 0x0A)] ++ (List.range 10).map fun r => (0x2F18 + r, 1)

/-- The conditions that page writes raise and clear (R33, R424). -/
def storageConds : List Nat := [0x0004, 0xC020, 0xC021, 0xC030, 0xC031, 0xC040]

/-! ## Parts of the state -/

/-- The parts of the state that frames speak about. -/
inductive Part where
  | power | clock | thermos | entries | memory | records | journal | pending | remap | conditions | snapshots | transfers | waiting
  | servicePort | publications | kdpRest | paths | pairs | trips | network | alarms | audit | sealQueue | seals | kilnRest | update
  | ports | converters | syncSets | lanes | calibration | meters | counters | interval | loops | repetitive | groups | traces | zones
  | display | indicators | health | freeValues
  deriving DecidableEq, Repr

/-- Two states agree on a part. -/
def Part.same (p : Part) (s t : State) : Prop :=
  match p with
  | .power => t.power = s.power
  | .clock => t.clock = s.clock
  | .thermos => t.thermos = s.thermos
  | .entries => t.ents = s.ents
  | .memory => t.stor.mem = s.stor.mem
  | .records => t.stor.recs = s.stor.recs
  | .journal => t.stor.journal = s.stor.journal
  | .pending => t.stor.pend = s.stor.pend
  | .remap => t.stor.remap = s.stor.remap ∧ t.stor.bad = s.stor.bad ∧ t.stor.scrubHits = s.stor.scrubHits
      ∧ t.stor.scrubStart = s.stor.scrubStart ∧ t.stor.scrubHours = s.stor.scrubHours ∧ t.stor.scrubDue = s.stor.scrubDue
      ∧ t.stor.tape = s.stor.tape ∧ t.stor.shows = s.stor.shows ∧ t.stor.update = s.stor.update ∧ t.stor.cut = s.stor.cut
      ∧ t.stor.marks = s.stor.marks
  | .conditions => t.conds = s.conds
  | .snapshots => t.kdp.snaps = s.kdp.snaps ∧ t.kdp.ended = s.kdp.ended
  | .transfers => t.kdp.transfers = s.kdp.transfers
  | .waiting => t.kdp.wait = s.kdp.wait
  | .servicePort => t.kdp.serviceQ = s.kdp.serviceQ ∧ t.kdp.serviceWait = s.kdp.serviceWait
  | .publications => t.kdp.pubs = s.kdp.pubs
  | .kdpRest => t.kdp.discards = s.kdp.discards ∧ t.kdp.subs = s.kdp.subs ∧ t.kdp.events = s.kdp.events
  | .paths => t.bus.paths = s.bus.paths
  | .pairs => t.bus.pairs = s.bus.pairs
  | .trips => t.bus.bridging = s.bus.bridging ∧ t.bus.resetNeeded = s.bus.resetNeeded ∧ t.bus.remotes = s.bus.remotes
      ∧ t.bus.stuck = s.bus.stuck ∧ t.bus.tripCounter = s.bus.tripCounter ∧ t.bus.localTags = s.bus.localTags
      ∧ t.bus.refreshAt = s.bus.refreshAt ∧ t.bus.tripOrder = s.bus.tripOrder
  | .network => t.net = s.net
  | .alarms => t.alarms = s.alarms
  | .audit => t.audit = s.audit
  | .sealQueue => t.kiln.queue = s.kiln.queue
  | .seals => t.kiln.seals = s.kiln.seals
  | .kilnRest => t.kiln.statements = s.kiln.statements ∧ t.kiln.onDemand = s.kiln.onDemand ∧ t.kiln.trngHalted = s.kiln.trngHalted
      ∧ t.kiln.keyFault = s.kiln.keyFault ∧ t.kiln.billingOmitted = s.kiln.billingOmitted
      ∧ t.kiln.recordsLost = s.kiln.recordsLost ∧ t.kiln.counter = s.kiln.counter
  | .update => t.update = s.update
  | .ports => t.ports = s.ports
  | .converters => t.convs = s.convs
  | .syncSets => t.syncs = s.syncs
  | .lanes => t.lanes = s.lanes
  | .calibration => t.cal = s.cal
  | .meters => t.meters = s.meters
  | .counters => t.counters = s.counters
  | .interval => t.interval = s.interval
  | .loops => t.loops = s.loops
  | .repetitive => t.reps = s.reps
  | .groups => t.groups = s.groups
  | .traces => t.traces = s.traces
  | .zones => t.zones = s.zones
  | .display => t.display = s.display
  | .indicators => t.indicators = s.indicators
  | .health => t.health = s.health
  | .freeValues => t.used = s.used

/-! ## What a command may write -/

/-- Every part. -/
def everyPart : List Part :=
  [.power, .clock, .thermos, .entries, .memory, .records, .journal, .pending, .remap, .conditions, .snapshots, .transfers,
   .waiting, .servicePort, .publications, .kdpRest, .paths, .pairs, .trips, .network, .alarms, .audit, .sealQueue, .seals,
   .kilnRest, .update, .ports, .converters, .syncSets, .lanes, .calibration, .meters, .counters, .interval, .loops,
   .repetitive, .groups, .traces, .zones, .display, .indicators, .health, .freeValues]

/-- What any command may write: entries, conditions and, where an event trigger of a publication map fires, what sending a publication
writes (R72). -/
def always : List Part := [.entries, .conditions, .servicePort, .publications, .kdpRest, .paths]

/-- Every part but some. -/
def allBut (l : List Part) : List Part := everyPart.filter fun p => !l.contains p

/-- The parts of the state that a command may write. Commands that bring a message, and those that take messages that wait (R42),
may do whatever those messages ask for. -/
def touched (c : Instr) : List Part :=
  match c with
  | .tick .. | .read .. | .write .. | .readSnapshot .. | .writeInitiate .. | .segment .. | .segmentAcknowledgement ..
  | .abortTransfer .. | .describe .. | .unknownOp .. | .publicationMapEnable .. | .servicePortSelection .. | .portModeWrite ..
  | .faultReset .. | .tripRelease .. | .softwareTrigger .. | .converterRun .. | .injectChannel .. | .rawMode .. | .laneRun ..
  | .zeroFlowCapture .. | .sessionOpen .. | .sessionClose .. | .captureStart .. | .meterEnable .. | .counterEnable ..
  | .loopModeOff .. | .loopModeManual .. | .loopModeAuto .. | .loopModeHold .. | .loopModeSafe .. | .groupEnable ..
  | .groupMemberWrite .. | .repetitiveEnable .. | .clearMemory .. | .zoneEnable .. | .zoneModeRequest .. | .zoneBoostStart ..
  | .zoneRequestEnd .. | .zoneTripReset .. | .traceArm .. | .traceDisarm .. | .traceManualTrigger .. | .onDemandSeal ..
  | .attestationChallenge .. | .attestationStatementRead .. | .updateRequest .. | .updateBlock .. | .updateCancel ..
  | .activate .. | .confirm .. | .acknowledgeFallback .. | .frameCompleted .. | .clearRemoteSources .. | .mailboxSend ..
  | .mailboxCancel .. | .halt .. | .haltRelease .. | .testWrite .. | .pageInspect .. | .displayEnable .. | .displayDisable ..
  | .windowUpdate .. | .acknowledgeDeadlineMiss .. | .refusedHamperWriteRead .. | .stateRequest .. =>
    allBut [.groups, .indicators]
  | .coreSupplyAdjust =>
    [.power, .clock] ++ always
  | .conditionClear .. | .subscriptionTimeout .. | .publicationPeriodTrigger .. | .publicationChangeTrigger ..
  | .inhibitTimeEnd .. | .stallTimeout .. | .outputOverloadTimeout .. | .portFaultClear .. | .occupiedSet ..
  | .occupiedClear .. | .indicatorFault .. | .backupMeasurement .. =>
    always
  | .referenceOscillatorFault =>
    [.power, .ports, .converters, .lanes, .meters, .loops] ++ always
  | .referenceRestart .. =>
    [.power, .clock, .thermos, .pairs, .network, .ports, .converters, .syncSets, .lanes, .calibration, .display, .health,
     .freeValues] ++ always
  | .hamperPageWrite .. | .highWaterFlush .. | .pathLossClear .. =>
    [.memory, .records, .pending, .remap, .repetitive] ++ always
  | .scrubPage .. | .lifetimeFlush .. =>
    [.memory, .records, .pending, .remap, .repetitive, .health] ++ always
  | .snapshotExpiry =>
    [.snapshots] ++ always
  | .segmentWaitTimeout .. =>
    [.transfers] ++ always
  | .transferTimeout .. | .portModeEnable .. =>
    allBut [.pairs, .groups, .indicators]
  | .publicationReceived .. =>
    allBut [.snapshots, .transfers, .seals, .groups, .indicators]
  | .digitalFilterChange .. =>
    [.clock, .trips, .ports] ++ always
  | .gateWindowEnd .. | .presenceWindowEnd .. | .shuntOverload .. | .shuntReclose .. | .switchOvercurrent .. | .switchRetry ..
  | .switchRetrySuccess .. | .driverOverTemperature .. | .driverRestart .. | .actuatorRunEnd .. | .currentLimitActs .. =>
    [.ports] ++ always
  | .pwmPeriodBoundary .. =>
    [.clock, .ports, .freeValues] ++ always
  | .converterTimerTrigger .. =>
    [.converters, .syncSets] ++ always
  | .pwmEventTrigger .. =>
    [.clock, .ports, .converters, .syncSets] ++ always
  | .triggerDelayEnd .. | .slotEnd .. =>
    [.clock, .converters, .calibration] ++ always
  | .metrologyTakesResult .. =>
    [.memory, .records, .pending, .remap, .audit, .ports, .converters, .calibration, .meters, .repetitive, .health] ++ always
  | .referenceOutOfTolerance .. =>
    [.converters] ++ always
  | .settlingComplete .. | .scheduleMinute =>
    [.clock] ++ always
  | .daylightSavingChange =>
    [.clock, .alarms] ++ always
  | .laneMeasurementStart .. =>
    [.lanes, .calibration] ++ always
  | .laneShot .. =>
    [.clock, .lanes] ++ always
  | .laneMeasurementEnd .. =>
    [.lanes] ++ always
  | .laneResultTaken .. =>
    [.memory, .records, .pending, .remap, .audit, .ports, .lanes, .calibration, .meters, .repetitive, .freeValues] ++ always
  | .calNChange .. =>
    [.calibration] ++ always
  | .sessionTimeout =>
    [.memory, .records, .journal, .pending, .remap, .audit, .sealQueue, .converters, .lanes, .calibration, .repetitive] ++
     always
  | .meteringPeriodEnd .. =>
    [.memory, .records, .journal, .pending, .remap, .meters, .repetitive] ++ always
  | .pulseCounterSecond .. =>
    [.memory, .records, .journal, .pending, .remap, .meters, .counters, .interval, .repetitive] ++ always
  | .intervalEnd =>
    [.memory, .records, .journal, .pending, .remap, .sealQueue, .kilnRest, .meters, .interval, .repetitive] ++ always
  | .loopSampleInstant .. =>
    [.loops] ++ always
  | .loopRelease .. =>
    [.power, .memory, .records, .pending, .remap, .loops, .repetitive, .traces, .health] ++ always
  | .loopJobEnd .. =>
    [.memory, .records, .pending, .remap, .loops, .repetitive, .traces] ++ always
  | .loopOutputInstant .. =>
    [.power, .memory, .records, .pending, .remap, .ports, .loops, .repetitive, .groups, .traces] ++ always
  | .zoneEvaluation .. =>
    [.memory, .records, .pending, .remap, .audit, .repetitive, .zones] ++ always
  | .presenceSample .. | .boostEnd .. =>
    [.zones] ++ always
  | .requestExpiry .. =>
    [.memory, .records, .pending, .remap, .audit, .repetitive] ++ always
  | .signingStart | .signingRetry =>
    [.sealQueue, .freeValues] ++ always
  | .signingComplete .. =>
    [.power, .memory, .records, .journal, .pending, .remap, .sealQueue, .seals, .kilnRest, .repetitive, .freeValues] ++ always
  | .statementExpiry .. | .trngHealthFailure =>
    [.kilnRest] ++ always
  | .trngRetest .. =>
    [.sealQueue, .kilnRest, .freeValues] ++ always
  | .tamperActivation .. | .thermosSwitchToBackup .. | .thermosSwitchToMain .. =>
    [.clock, .thermos] ++ always
  | .tamperRearm .. =>
    [.thermos] ++ always
  | .oscillatorStopped =>
    [.power, .thermos] ++ always
  | .tamperLog .. =>
    [.power, .thermos, .memory, .records, .pending, .remap, .audit, .sealQueue, .repetitive] ++ always
  | .activationReset .. | .externalReset .. | .watchdogExpiry .. =>
    [.power, .memory, .records, .pending, .remap, .repetitive, .traces, .display, .freeValues] ++ always
  | .confirmationTimeout =>
    [.power, .memory, .records, .journal, .pending, .remap, .audit, .kilnRest, .repetitive] ++ always
  | .tripFrameReceived .. =>
    [.waiting, .pairs, .trips, .ports, .health, .freeValues] ++ always
  | .kdpForward .. | .rawFrameReceived .. =>
    [.waiting, .pairs, .health, .freeValues] ++ always
  | .remoteFrameReceived .. | .transmissionError .. | .busOffRecovery .. | .transceiverFault .. | .errorPassiveLimit ..
  | .quietPath .. | .leaseExpiry .. | .pairJoin .. | .receiveError .. | .transceiverFaultCleared .. =>
    [.pairs, .health, .freeValues] ++ always
  | .heartbeatDue .. | .heartbeatLosesArbitration .. =>
    [.pairs] ++ always
  | .tripRefresh =>
    [.trips] ++ always
  | .rtcWindow .. =>
    [.clock, .thermos, .memory, .records, .pending, .remap, .network, .audit, .repetitive, .freeValues] ++ always
  | .haltTimeout =>
    [.clock, .thermos, .memory, .records, .journal, .pending, .remap, .network, .alarms, .audit, .sealQueue, .meters,
     .repetitive, .zones] ++ always
  | .timeReferenceSend .. | .timeFollowUpSend .. | .masterResume .. =>
    [.network] ++ always
  | .timeReferenceReceived .. =>
    [.waiting, .pairs, .network, .health, .freeValues] ++ always
  | .timeFollowUpReceived .. =>
    [.clock, .thermos, .memory, .records, .journal, .pending, .remap, .waiting, .pairs, .network, .alarms, .audit, .sealQueue,
     .meters, .repetitive, .zones, .health, .freeValues] ++ always
  | .holdover =>
    [.clock, .network] ++ always
  | .userAlarm .. =>
    [.memory, .records, .pending, .remap, .alarms, .audit, .repetitive] ++ always
  | .displayFrameBoundary .. =>
    [.clock, .memory, .records, .remap, .repetitive, .display, .freeValues] ++ always
  | .imageCheck .. | .metrologyPageChange | .railFault | .railRecovery =>
    [.display] ++ always
  | .indicatorStep .. =>
    [.indicators] ++ always
  | .healthHour =>
    [.memory, .records, .journal, .pending, .remap, .sealQueue, .repetitive, .health] ++ always
  | .pathLossTimeout .. =>
    [.memory, .records, .journal, .pending, .remap, .sealQueue, .repetitive] ++ always
  | .histogramSample =>
    [.health] ++ always
  | .dieTemperatureInject =>
    [.converters, .calibration, .health] ++ always
  | .powerFailWarning .. =>
    [.power, .clock, .thermos, .memory, .records, .pending, .remap, .meters, .repetitive, .traces, .display, .freeValues] ++
     always
  | .brownOutEnd .. =>
    [.power, .clock, .memory, .records, .journal, .pending, .remap, .sealQueue, .seals, .kilnRest, .repetitive, .display] ++
     always
  | .powerDownReset .. | .warningTimeout .. | .thermalShutdown .. | .resetEntryEnd =>
    everyPart
  | .supplyWarning .. | .overVoltage .. | .portRailLimit .. | .dieOverTemperature .. | .metrologyValidTimeout .. =>
    [.power] ++ always
  | .startUp .. | .thermalRestart .. =>
    allBut [.snapshots, .transfers, .waiting, .update, .counters, .interval, .groups, .traces, .freeValues]
  | .metrologyValid =>
    [.power, .memory, .records, .pending, .remap, .meters, .interval, .repetitive] ++ always

/-! ## Messages -/

/-- The message that a command brings; none for the commands that bring none. -/
def messageOf (c : Instr) : Option KdpReq :=
  match c with
  | .read m | .write m | .readSnapshot m | .writeInitiate m | .segment m | .segmentAcknowledgement m | .abortTransfer m
  | .describe m | .unknownOp m | .publicationMapEnable m | .portModeWrite m | .faultReset m | .tripRelease m
  | .softwareTrigger m | .converterRun m | .injectChannel m | .rawMode m | .laneRun m | .zeroFlowCapture m | .sessionOpen m
  | .sessionClose m | .captureStart m | .meterEnable m | .counterEnable m | .loopModeOff m | .loopModeManual m
  | .loopModeAuto m | .loopModeHold m | .loopModeSafe m | .groupEnable m | .groupMemberWrite m | .repetitiveEnable m
  | .clearMemory m | .zoneEnable m | .zoneModeRequest m | .zoneBoostStart m | .zoneRequestEnd m | .zoneTripReset m
  | .traceArm m | .traceDisarm m | .traceManualTrigger m | .onDemandSeal m | .attestationChallenge m
  | .attestationStatementRead m | .updateRequest m | .updateBlock m | .updateCancel m | .activate m | .confirm m
  | .acknowledgeFallback m | .clearRemoteSources m | .mailboxSend m | .mailboxCancel m | .halt m | .haltRelease m
  | .testWrite m | .pageInspect m | .displayEnable m | .displayDisable m | .windowUpdate m | .acknowledgeDeadlineMiss m
  | .refusedHamperWriteRead m | .stateRequest m =>
    some m
  | _ => none

/-- The message that a command brings is of the kind that the command names. -/
def fits (c : Instr) (s : State) : Bool :=
  match c with
  | .read m => m.op == 1
  | .write m => m.op == 2
  | .readSnapshot m => m.op == 3
  | .writeInitiate m => m.op == 4
  | .segment m => m.op == 5
  | .segmentAcknowledgement m => m.op == 6
  | .abortTransfer m => m.op == 7
  | .describe m => m.op == 8
  | .unknownOp m => m.op == 0 || (decide (8 < m.op) && m.op != 0x10)
  | .publicationMapEnable m => writes s m 0x1200 64 0x01 (only 1)
  | .portModeWrite m => writes s m 0x2000 64 0x01 anyValue
  | .faultReset m => writes s m 0x2000 64 0x13 (only 1)
  | .tripRelease m => writes s m 0x2000 64 0x12 (only 1)
  | .softwareTrigger m => writes s m 0x2108 8 0x08 (only 1) || writes s m 0x2110 4 0x07 (only 1)
  | .converterRun m => writes s m 0x2100 8 0x01 anyValue
  | .injectChannel m => writes s m 0x2108 8 0x09 anyValue
  | .rawMode m => writes s m 0x2108 8 0x0C anyValue
  | .laneRun m => writes s m 0x2120 8 0x02 anyValue
  | .zeroFlowCapture m => writes s m 0x2128 8 0x17 anyValue
  | .sessionOpen m => writes s m 0x2180 1 0x01 (only 1)
  | .sessionClose m => writes s m 0x2180 1 0x01 (only 0)
  | .captureStart m => writes s m 0x2181 1 0x06 (only 1)
  | .meterEnable m => writes s m 0x2200 16 0x01 anyValue
  | .counterEnable m => writes s m 0x2220 32 0x01 anyValue
  | .loopModeOff m => writes s m 0x2300 96 0x01 (only 0)
  | .loopModeManual m => writes s m 0x2300 96 0x01 (only 1)
  | .loopModeAuto m => writes s m 0x2300 96 0x01 (only 2)
  | .loopModeHold m => writes s m 0x2300 96 0x01 (only 3)
  | .loopModeSafe m => writes s m 0x2300 96 0x01 (only 4)
  | .groupEnable m => writes s m 0x2700 16 0x01 anyValue
  | .groupMemberWrite m => (List.range 6).any fun i => writes s m 0x2700 16 (0x03 + i) anyValue
  | .repetitiveEnable m => writes s m 0x2500 96 0x01 anyValue
  | .clearMemory m => writes s m 0x2500 96 0x09 (only 1)
  | .zoneEnable m => writes s m 0x2800 32 0x01 anyValue
  | .zoneModeRequest m => writes s m 0x2800 32 0x02 (fun n => decide (n ≤ 4))
  | .zoneBoostStart m => writes s m 0x2800 32 0x02 (only 5)
  | .zoneRequestEnd m => writes s m 0x2800 32 0x02 (only 0xFF)
  | .zoneTripReset m => writes s m 0x2800 32 0x0C (only 1)
  | .traceArm m => writes s m 0x2780 8 0x01 (only 1)
  | .traceDisarm m => writes s m 0x2780 8 0x01 (only 0)
  | .traceManualTrigger m => writes s m 0x2780 8 0x12 (only 1)
  | .onDemandSeal m => writes s m 0x2B20 1 0x01 (only 1)
  | .attestationChallenge m => writes s m 0x2C10 1 0x01 anyValue
  | .attestationStatementRead m => m.op == 6 && (match transferOf s (requesterOf s m) m.addr.tag with | some t => t.index == 0x2C10 && t.sub == 0x03 | none => false)
  | .updateRequest m => writes s m 0x2D10 1 0x01 anyValue
  | .updateBlock m => writes s m 0x2D10 1 0x02 anyValue
  | .updateCancel m => writes s m 0x2D10 1 0x05 (only 1)
  | .activate m => writes s m 0x2D10 1 0x04 (only 1)
  | .confirm m => writes s m 0x2D20 1 0x03 (only 1)
  | .acknowledgeFallback m => writes s m 0x2D20 1 0x04 (only 1)
  | .clearRemoteSources m => writes s m 0x1110 1 0x03 (only 1)
  | .mailboxSend m => writes s m 0x1410 8 0x04 (only 1)
  | .mailboxCancel m => writes s m 0x1410 8 0x06 (only 1)
  | .halt m => writes s m 0x2900 1 0x07 (only 1)
  | .haltRelease m => writes s m 0x2900 1 0x07 (only 0)
  | .testWrite m => writes s m 0x2E10 1 0x01 anyValue
  | .pageInspect m => m.op == 1 && m.index == 0x2E20 && m.sub == 0x02
  | .displayEnable m => writes s m 0x2A00 1 0x01 (only 1)
  | .displayDisable m => writes s m 0x2A00 1 0x01 (only 0)
  | .windowUpdate m => writes s m 0x2A10 8 0x06 anyValue
  | .acknowledgeDeadlineMiss m => writes s m 0x2F00 1 0x09 (only 1)
  | .refusedHamperWriteRead m => m.op == 1 && m.index == 0x2F00 && m.sub == 0x0A
  | .stateRequest m => writes s m 0x3000 1 0x02 anyValue
  | _ => false

/-- The state after the frame of a message has been received (R28, R332, R346): on the service port the RTC has gone on during a
reference fault, on the bus the path has heard the frame. -/
def received (s : State) (m : KdpReq) : State :=
  match m.addr.chan with
  | .service => faultTime s
  | .bus p => (receiveFrame s (frameOf m p) m.addr.svc).2

/-- The frame of a message reaches the dictionary protocol (R76, R78, R332, R337, R346): on the service port its length is that of
the message; on the bus it is of service 1 or 5, no duplicate, and finds a place. -/
def arrives (s : State) (m : KdpReq) : Bool :=
  match m.addr.chan with
  | .service => m.body.length == m.len && decide (m.len ≤ 56)
  | .bus p => (m.addr.svc == 1 || m.addr.svc == 5) && (receiveFrame s (frameOf m p) m.addr.svc).1

/-- A message is taken as soon as it comes in (R42, R58, R60, R79, R336): some code runs, the message is addressed to the device and
is no response and no publication, nothing waits, and there is a place for its answer. -/
def takenNow (s : State) (m : KdpReq) : Bool :=
  coreRuns s && arrives s m && addressed (received s m) m && !m.addr.flags.testBit 1 && m.op != 0x10
    && (received s m).kdp.wait.isEmpty && takeable (received s m) m

/-- The state in which steps 11 and 12 of R44 begin: a coefficient of a session marks its owner (R183). -/
def marked (s : State) (m : KdpReq) : State := if isCoefficient m.index m.sub then markDirty s m.index else s

/-- A request that is neither turned away for its requester's transfers (R62) nor for its index (R323). -/
def mayProceed (s : State) (m : KdpReq) : Prop := transferAbort s (requesterOf s m) m.addr.tag = none ∧ indexServed s m.index = true

/-- What the checks of R44 say of a write request, at step 10. -/
def judged (s : State) (m : KdpReq) : Except Nat Row :=
  checkWrite s (requesterOf s m) m.index m.sub m.payload m.addr.expert (entryTaken s m.index m.sub)

/-- A write that R44 carries out in its own way: a port's mode (R85), a block of an update (R318), a test write (R422). -/
def special (m : KdpReq) : Bool :=
  isPortMode m.index m.sub || (m.index == 0x2D10 && m.sub == 0x02) || (m.index == 0x2E10 && m.sub == 0x01)

/-- The state with steps 11 and 12 of R44 done: the audit entry of an A entry and the parameter-store copy of a P entry. -/
def filed (y : State) (who : Requester) (r : Row) (m : KdpReq) (v : Bytes) (segmented : Bool) : State :=
  let s1 := if r.isA && who != .device then placeAudit y who 1 m.index m.sub (auditFlags m segmented) v else y
  if r.isP && !isBoost m.index m.sub v then placeTarget s1 (.record (keyOf m.index m.sub) v) else s1

/-- What a command that is one write does to its unit, once its entry is written: `b` is the state before and `s` after that. For a
write of any entry it is the chapter's effect of the entry. -/
def rowEffect (c : Instr) (b s : State) (who : Requester) : State :=
  match c with
  | .publicationMapEnable m => applyPub b s (m.index - 0x1200) 0x01
  | .faultReset m => faultReset s (m.index - 0x2000)
  | .tripRelease m => releasePort s (m.index - 0x2000)
  | .softwareTrigger m =>
    if m.index < 0x2110 then applyConvX s (m.index - 0x2108) 0x08 1 else applySync s (m.index - 0x2110) 0x07
  | .converterRun m => if convRun s (m.index - 0x2100) then convStart s (m.index - 0x2100) else convStop s (m.index - 0x2100)
  | .injectChannel m => showConv (stageRequest s (m.index - 0x2108) true (leNat m.payload) s.clock.ref) (m.index - 0x2108)
  | .rawMode m => dropUnconverted (follow s (0x2070 + (m.index - 0x2108)) (getB s m.index 0x0C)) (m.index - 0x2108)
  | .laneRun m => applyLane b s (m.index - 0x2120) 0x02
  | .zeroFlowCapture m => zeroStart s (m.index - 0x2128) (leNat m.payload)
  | .sessionOpen _ => sessionOpen s who
  | .sessionClose _ => sessionClose s 1
  | .captureStart _ => captureStart s
  | .meterEnable m => applyMetering b s m.index 0x01
  | .counterEnable m => applyMetering b s m.index 0x01
  | .loopModeOff m => if loopMode b (m.index - 0x2300) = 0 then s else loopOff s (m.index - 0x2300)
  | .loopModeManual m => loopEnter s (m.index - 0x2300) 1 (loopMode b (m.index - 0x2300) == 0)
  | .loopModeAuto m => loopEnter s (m.index - 0x2300) 2 (loopMode b (m.index - 0x2300) == 0)
  | .loopModeHold m => loopEnter s (m.index - 0x2300) 3 (loopMode b (m.index - 0x2300) == 0)
  | .loopModeSafe m => loopEnter s (m.index - 0x2300) 4 (loopMode b (m.index - 0x2300) == 0)
  | .groupEnable m =>
    if leNat m.payload = 0 ∧ getB b m.index 0x01 = true then groupDisabled s (m.index - 0x2700)
    else if leNat m.payload = 1 ∧ getB b m.index 0x01 = false then groupIdle s (m.index - 0x2700) else s
  | .groupMemberWrite _ => s
  | .repetitiveEnable m =>
    if leNat m.payload = 1 then repEnabled s (m.index - 0x2500)
    else if getB b m.index 0x01 then repDisabled s (m.index - 0x2500) else s
  | .clearMemory m => repClear s (m.index - 0x2500)
  | .zoneEnable m =>
    if leNat m.payload = 0 ∧ getB b m.index 0x01 = true then zoneDisabled s (m.index - 0x2800)
    else setBit s m.index 0x0A 0 (leNat m.payload == 1)
  | .zoneModeRequest m => zoneRequest s (m.index - 0x2800) (leNat m.payload)
  | .zoneBoostStart m => zoneBoost s (m.index - 0x2800)
  | .zoneRequestEnd m => zoneEnd s (m.index - 0x2800)
  | .zoneTripReset m => zoneTripReset s (m.index - 0x2800)
  | .traceArm m => traceArm s (m.index - 0x2780)
  | .traceDisarm m => traceDisarm s (m.index - 0x2780)
  | .traceManualTrigger m => traceManual s (m.index - 0x2780)
  | .onDemandSeal _ => onDemandSeal s
  | .attestationChallenge m => challenge (dropStatement s who) who m.payload
  | .updateRequest m => updateRequest s (fieldN m.payload 0 4) (m.payload.drop 4)
  | .updateCancel _ => cancelUpdate s
  | .activate _ => activate s
  | .confirm _ => confirm s
  | .acknowledgeFallback _ => acknowledgeFallback s
  | .clearRemoteSources _ => clearRemotes s
  | .mailboxSend m => mailSend s (m.index - 0x1410)
  | .mailboxCancel m => mailCancel s (m.index - 0x1410)
  | .halt _ => haltStart s
  | .haltRelease _ => haltRelease s
  | .displayEnable _ => if displayOn s == displayOn b then s else displayEnable s
  | .displayDisable _ => if displayOn s == displayOn b then s else displayDisable s
  | .windowUpdate m => queueUpdate s (m.index - 0x2A10) m.payload
  | .acknowledgeDeadlineMiss _ => acknowledgeMiss s
  | .stateRequest _ => s
  | .write m => applyWrite b s who m m.payload
  | _ => s

/-- A command that brings a write request which passes every step of R44: `x` is the state in which the request is taken, `r` the row
of its entry, `y` the state after the pages of steps 11 and 12 have been programmed. -/
def accepted (c : Instr) (m : KdpReq) (s x : State) (r : Row) (y : State) : Prop :=
  messageOf c = some m ∧ fits c s = true ∧ takenNow s m = true ∧ m.op = 2 ∧ x = received s m ∧ mayProceed x m ∧ judged x m = .ok r
    ∧ programWrite (marked (loadTape x (bitList m.badPage)) m) (requesterOf s m) r m m.payload = (true, y) ∧ m.hwFault = false ∧ special m = false

/-! ## Converters -/

/-- Converter k has met a trigger at instant t (R115, R124, R125): idle, running and with a channel to convert it is in its delay; in its
delay or frame it goes on, the missed trigger is counted and 0x2010 + k raised; stopped, or idle without a channel, it stays as it was. -/
def triggeredConv (k t : Nat) (s u : State) : Prop :=
  (convRun s k = true → frameChannels s k ≠ [] → (convAt s k).delay = none → (convAt s k).frame = none →
    (convAt u k).delay = some (t + getN s (0x2108 + k) 0x01) ∧ (convAt u k).waiting = false) ∧
  (convRun s k = true → ((convAt s k).delay.isSome = true ∨ (convAt s k).frame.isSome = true) →
    (convAt u k).delay = (convAt s k).delay ∧ (convAt u k).frame = (convAt s k).frame ∧ (convAt u k).slot = (convAt s k).slot ∧
    holds u (0x2100 + k) 0x0C (getN s (0x2100 + k) 0x0C + 1) ∧ raised u (0x2010 + k) = true) ∧
  (convRun s k = false ∨ (frameChannels s k = [] ∧ (convAt s k).delay = none ∧ (convAt s k).frame = none) →
    (convAt u k).delay = (convAt s k).delay ∧ (convAt u k).frame = (convAt s k).frame ∧ (convAt u k).slot = (convAt s k).slot ∧
    (convAt u k).waiting = (convAt s k).waiting ∧ getBytes u (0x2100 + k) 0x0C = getBytes s (0x2100 + k) 0x0C)

/-! ## When a command is due, and what it then does -/

/-- The conditions on the state and the operands under which a command that brings no message has its own effect: the unit runs, the
instant has come or the event may happen (the rules of each command are cited at its meaning). A command that brings a message is due
where the message is of its kind and is taken at once. -/
def due (c : Instr) (s : State) : Prop :=
  match c with
  | .tick .. => coreRuns s = true ∧ s.power.refFault = false
  | .coreSupplyAdjust => isUp s = true ∧ s.power.raiseAt = none ∧ dueRef s s.clock.ref = true ∧
      (((speedMean s).1 < 1000 * (speedMean s).2 ∧ s.power.coreMv < 900) ∨ (1100 * (speedMean s).2 < (speedMean s).1 ∧ 600 < s.power.coreMv))
  | .conditionClear code => coreRuns s = true ∧ clearDue s code = true
  | .referenceOscillatorFault => coreRuns s = true ∧ s.power.refFault = false
  | .referenceRestart _ => coreRuns s = true ∧ s.power.refFault = true
  | .hamperPageWrite _ => isUp s = true ∧ hamperFree s = true ∧ (nextPend s).isSome = true
  | .scrubPage .. => isUp s = true ∧ hamperFree s = true ∧ s.stor.pend = [] ∧ s.entriesWf ∧
      (s.stor.scrubDue.isSome = true ∨ scrubOpen s = true)
  | .snapshotExpiry => coreRuns s = true ∧ ∃ x ∈ s.kdp.snaps, x.tick + 250 ≤ s.clock.tick
  | .segmentWaitTimeout who tag => coreRuns s = true ∧ ∃ t total crc got next window since last, transferOf s who tag = some t ∧
      t.kind = .writing total crc got next window since last none ∧ 0 < since ∧ last + 20 ≤ s.clock.tick
  | .transferTimeout who tag => coreRuns s = true ∧ ∃ t, transferOf s who tag = some t ∧ t.deadline ≤ s.clock.tick
  | .publicationReceived f _ _ => rxOpen s f.path = true
  | .subscriptionTimeout n => isUp s = true ∧ s.entriesWf ∧ n < 64 ∧ getB s (0x1240 + n) 0x01 = true ∧ 0 < getN s (0x1240 + n) 0x06 ∧
      getN s (0x1240 + n) 0x08 ≠ 3 ∧ (subAt s n).last + getN s (0x1240 + n) 0x06 ≤ s.clock.tick
  | .publicationPeriodTrigger n => triggers s n 0 = true ∧ (pubAt s n).fired < periodsPassed s n
  | .publicationChangeTrigger n => triggers s n 1 = true ∧ pubLive s n = true ∧ (pubAt s n).deferred = false ∧ changed s n = true
  | .inhibitTimeEnd n => n < 64 ∧ pubLive s n = true ∧ (pubAt s n).deferred = true ∧ inhibited s n = false
  | .servicePortSelection .. => coreRuns s = true
  | .portModeEnable n => isUp s = true ∧ n < 64 ∧ ∃ t, (portAt s n).modeAt = some t ∧ t ≤ s.clock.tick
  | .digitalFilterChange n level edge => islandsRun s = true ∧ n < 64 ∧ isDigital (portMode s n) = true ∧ (portAt s n).modeAt = none ∧
      dueRef s edge = true ∧ ((portAt s n).known = true → getN s (0x2000 + n) 0x0A ≠ level.toNat) ∧
      (portAt s n).changed + filterPeriods s n ≤ edge
  | .gateWindowEnd n => islandsRun s = true ∧ n < 64 ∧ (portMode s n = 6 ∨ portMode s n = 7 ∨ portMode s n = 15) ∧
      (portAt s n).modeAt = none ∧ s.clock.tick % getN s (0x2040 + n) 0x0B = 0 ∧ (portAt s n).window ≠ some s.clock.tick
  | .stallTimeout n => islandsRun s = true ∧ n < 64 ∧ portMode s n = 15 ∧ (portAt s n).modeAt = none ∧
      (portAt s n).lastEdgeTick + getN s (0x2040 + n) 0x0D ≤ s.clock.tick
  | .presenceWindowEnd n => isUp s = true ∧ s.entriesWf ∧ n < 64 ∧ portMode s n = 8 ∧ getB s (0x2000 + n) 0x0A = true ∧
      (portAt s n).pulses.foldl max 0 + getN s (0x2040 + n) 0x12 ≤ s.clock.tick
  | .shuntOverload n => isUp s = true ∧ n < 64 ∧ portMode s n = 2 ∧ (portAt s n).shuntTill = none ∧ (portAt s n).modeAt = none
  | .shuntReclose n => isUp s = true ∧ n < 64 ∧ ∃ t, (portAt s n).shuntTill = some t ∧ t ≤ s.clock.tick
  | .pwmPeriodBoundary n => islandsRun s = true ∧ n < 64 ∧ (portMode s n = 12 ∨ portMode s n = 13) ∧ (portAt s n).modeAt = none ∧
      dueRef s (portAt s n).pwmAt = true ∧ pwmEventOpen s n = false
  | .outputOverloadTimeout n => isUp s = true ∧ n < 64 ∧ portMode s n = 11 ∧ ∃ t, (portAt s n).limitSince = some t ∧ t + 10 ≤ s.clock.tick
  | .switchOvercurrent n => isUp s = true ∧ n < 64 ∧ portMode s n = 13 ∧ (portAt s n).retryAt = none ∧ hasFault s n 8 = false ∧
      (portAt s n).hot = false
  | .switchRetry n => isUp s = true ∧ n < 64 ∧ portMode s n = 13 ∧ ∃ t, (portAt s n).retryAt = some t ∧ t ≤ s.clock.tick
  | .switchRetrySuccess n => isUp s = true ∧ n < 64 ∧ portMode s n = 13 ∧ (portAt s n).hot = false ∧
      ∃ t, (portAt s n).retryRun = some t ∧ t + 1000 ≤ s.clock.tick
  | .driverOverTemperature n => isUp s = true ∧ n < 64 ∧ (isOutput (portMode s n) = true ∨ (actuatorOf s n).isSome = true) ∧
      (portAt s n).hot = false
  | .driverRestart n cooled => isUp s = true ∧ n < 64 ∧ (portAt s n).hot = true ∧ cooled + 1000 ≤ s.clock.tick
  | .actuatorRunEnd n => islandsRun s = true ∧ n < 64 ∧ portMode s n = 14 ∧ ∃ t, t ≤ s.clock.tick ∧ (portAt s n).line = .dead t
  | .portFaultClear n t => isUp s = true ∧ n < 64 ∧ 1 ≤ t ∧ t ≤ 8 ∧
      ∃ x ∈ s.conds, x.code = faultCode t n ∧ x.cause = false ∧ x.since + 1000 ≤ s.clock.tick
  | .converterTimerTrigger set i => islandsRun s = true ∧
      (set = true → i < 4 ∧ getN s (0x2110 + i) 0x01 = 1 ∧ timerFires s (getN s (0x2110 + i) 0x02) (getN s (0x2110 + i) 0x03) = true ∧
        (vAt s.syncs i syncRest).lastTimer ≠ some s.clock.tick) ∧
      (set = false → i < 8 ∧ 4 ≤ convSet s i ∧ getN s (0x2108 + i) 0x02 = 1 ∧
        timerFires s (getN s (0x2108 + i) 0x03) (getN s (0x2108 + i) 0x04) = true ∧ (convAt s i).lastTimer ≠ some s.clock.tick)
  | .pwmEventTrigger n ev t => islandsRun s = true ∧ n < 64 ∧ (portMode s n = 12 ∨ portMode s n = 13) ∧
      ∃ e, pwmEvent s n ev = some e ∧ t = e + 1 ∧ dueRef s t = true
  | .triggerDelayEnd k => islandsRun s = true ∧ k < 8 ∧ ∃ t, (convAt s k).delay = some t ∧ dueRef s t = true
  | .slotEnd k _ vref => islandsRun s = true ∧ k < 8 ∧ ∃ sl, (convAt s k).slot = some sl ∧ dueRef s sl.fin = true ∧
      0 < referenceUsed s k sl.channel vref
  | .metrologyTakesResult k _ => isUp s = true ∧ s.entriesWf ∧ k < 8 ∧ (getN s (0x2100 + k) 0x04).testBit 0 = true ∧
      (getN s (0x2100 + k) 0x04).testBit 7 = false ∧ getB s (0x2108 + k) 0x0C = false
  | .referenceOutOfTolerance k m => islandsRun s = true ∧ k < 8 ∧ monitorJudges s k = true ∧
      inTolerance (getN s (0x2100 + k) 8) m.uv m.change = false
  | .settlingComplete k => islandsRun s = true ∧ s.entriesWf ∧ k < 8 ∧ (convAt s k).outOfTol = false ∧ settled s k = false ∧
      dueRef s ((convAt s k).settleFrom + 48000) = true
  | .laneMeasurementStart k => islandsRun s = true ∧ k < 8 ∧ laneRun s k = true ∧ (laneAt s k).meas = none ∧ (laneAt s k).handed = none ∧
      (laneAt s k).lastStart ≠ some s.clock.tick ∧ (laneAt s k).runTick ≤ s.clock.tick ∧
      (s.clock.tick - (laneAt s k).runTick) % max 1 (getN s (0x2120 + k) 0x03) = 0
  | .laneShot k _ => islandsRun s = true ∧ k < 8 ∧ ∃ m, (laneAt s k).meas = some m ∧ m.shots < shotTotal s k ∧
      dueRef s (shotStart s k m) = true
  | .laneMeasurementEnd k => islandsRun s = true ∧ k < 8 ∧ ∃ m, (laneAt s k).meas = some m ∧ shotTotal s k ≤ m.shots
  | .laneResultTaken k => isUp s = true ∧ k < 8 ∧ (laneAt s k).handed.isSome = true
  | .calNChange _ => isUp s = true
  | .sessionTimeout => isUp s = true ∧ hamperFree s = true ∧ modePending s = false ∧ s.cal.open_ = true ∧ s.cal.openedTick + 1800000 ≤ s.clock.tick
  | .meteringPeriodEnd m => meterRuns s = true ∧ m < 16 ∧ getB s (0x2200 + m) 0x01 = true ∧
      ∃ b, boundary s ((meterAt s m).start.getD (meterAt s m).enabledAt) (periodMs s m) = some b ∧ resultsTaken s m b = true
  | .pulseCounterSecond q => meterRuns s = true ∧ q < 32 ∧ getB s (0x2220 + q) 0x01 = true ∧
      (vAt s.counters q counterRest).readSecond ≠ devTime s / 1000
  | .intervalEnd => meterRuns s = true ∧ minuteSettled s = true ∧
      ∃ b, boundary s (getN s 0x2243 0x01) (60000 * max 1 s.interval.length) = some b ∧ periodsEnded s b = true
  | .loopSampleInstant l => islandsRun s = true ∧ l < 96 ∧ loopMode s l ≠ 0 ∧ (loopAt s l).lastSample ≠ some s.clock.tick ∧
      ((s.clock.tick : Int) - getN s (0x2400 + l) 0x02) % (loopTs s l : Nat) = 0
  | .loopRelease l => islandsRun s = true ∧ l < 96 ∧ loopMode s l ≠ 0 ∧ (∀ t, (loopAt s l).outAt = some t → s.clock.tick < t) ∧
      ∃ c, (loopAt s l).latch = some c ∧ c.ts + getN s (0x2400 + l) 0x03 ≤ s.clock.tick
  | .loopJobEnd l => isUp s = true ∧ l < 96 ∧ ∃ j, (loopAt s l).job = some j ∧ jobFirst s l j = true
  | .loopOutputInstant l => islandsRun s = true ∧ l < 96 ∧ (loopAt s l).active ≠ 0 ∧ groupOf s l = none ∧
      ∃ t, (loopAt s l).outAt = some t ∧ t ≤ s.clock.tick
  | .highWaterFlush l => isUp s = true ∧ hamperFree s = true ∧ l < 96 ∧ getB s (0x2500 + l) 0x01 = true ∧
      (recValue s (keyOf (0x2500 + l) 0x0D)).getD (leBytes 8 0) ≠ getBytes s (0x2500 + l) 0x0D
  | .zoneEvaluation z => isUp s = true ∧ z < 32 ∧ zoneOn s z = true ∧ (zoneAt s z).lastSecond ≠ some (devTime s / 1000)
  | .presenceSample z => isUp s = true ∧ z < 32 ∧ zoneOn s z = true ∧ s.clock.tick % 100 = 0 ∧ (zoneAt s z).lastSample ≠ some s.clock.tick
  | .occupiedSet z => isUp s = true ∧ s.entriesWf ∧ z < 32 ∧ zoneOn s z = true ∧ (zoneAt s z).raw = true ∧ getB s (0x2800 + z) 0x06 = false ∧
      (zoneAt s z).rawSince + getN s (0x2820 + z) 0x12 ≤ s.clock.tick
  | .occupiedClear z => isUp s = true ∧ s.entriesWf ∧ z < 32 ∧ zoneOn s z = true ∧ (zoneAt s z).raw = false ∧ getB s (0x2800 + z) 0x06 = true ∧
      (zoneAt s z).rawSince + getN s (0x2820 + z) 0x13 ≤ s.clock.tick
  | .requestExpiry z => isUp s = true ∧ z < 32 ∧ requestExpired s z = true
  | .boostEnd z => isUp s = true ∧ z < 32 ∧ ∃ t, (zoneAt s z).boostEnd = some t ∧ t ≤ s.clock.tick
  | .signingStart => canSign s = true ∧ busyPlace s.kiln.queue = none ∧ (nextRequest s.kiln.queue).isSome = true
  | .signingComplete _ => isUp s = true ∧ s.entriesWf ∧ s.power.entry = none ∧
      ∃ i n, busyPlace s.kiln.queue = some i ∧ (requestAt s.kiln.queue i).phase = .signing n
  | .signingRetry => canSign s = true ∧ ∃ i t, busyPlace s.kiln.queue = some i ∧ (requestAt s.kiln.queue i).phase = .retry t ∧
      t + 60000 ≤ s.clock.tick
  | .statementExpiry who => isUp s = true ∧ ∃ x ∈ s.kiln.statements, x.who = who ∧ x.ready + 60000 ≤ s.clock.tick
  | .trngHealthFailure => isUp s = true
  | .trngRetest _ => isUp s = true ∧ ∃ t, s.kiln.trngHalted = some t ∧ t + 60000 ≤ s.clock.tick
  | .tamperActivation i _ => thermosLives s = true ∧ i < 2 ∧ (tamperAt s i).enable = true ∧ (tamperAt s i).active = false
  | .tamperRearm i => thermosLives s = true ∧ i < 2 ∧ (tamperAt s i).active = true
  | .tamperLog i => isUp s = true ∧ hamperFree s = true ∧ i < 2 ∧ 0 < (tamperAt s i).count
  | .activationReset _ => coreRuns s = true ∧ s.power.entry = none ∧ ∃ t, s.update.resetAt = some t ∧ t ≤ s.clock.tick
  | .confirmationTimeout => isUp s = true ∧ hamperFree s = true ∧ (slotInfo s s.power.runningSlot).state = 3 ∧ getN s 0x2D20 0x02 = 0 ∧
      s.update.runSince + 1000 * getN s 0x2D20 0x05 ≤ s.clock.tick
  | .tripFrameReceived f => rxOpen s f.path = true
  | .kdpForward f => rxOpen s f.path = true
  | .rawFrameReceived f => rxOpen s f.path = true ∧ isService f 4 = false ∧ (f.ext && f.fd && serviceClass (idService f.id) (idClass f.id)) = false
  | .remoteFrameReceived p => rxOpen s p = true
  | .frameCompleted p sof _ => (offerAt s p sof).isSome = true
  | .transmissionError p _ => (offer s p).isSome = true ∨ (txOpen s p = true ∧ (pathAt s p).left ≠ [])
  | .busOffRecovery p => islandsRun s = true ∧ p < 4 ∧ (pathAt s p).busOff = true
  | .transceiverFault p bits => islandsRun s = true ∧ pathPowered s p = true ∧ p < 4 ∧ 0 < bits ∧ bits < 16
  | .errorPassiveLimit p => islandsRun s = true ∧ p < 4 ∧ (pathAt s p).passiveTooLong = false ∧
      ∃ t, (pathAt s p).passiveSince = some t ∧ t + (pairAt s (p / 2)).passiveLimit < s.clock.tick
  | .quietPath p => islandsRun s = true ∧ pathPowered s p = true ∧ p < 4 ∧ (pathAt s p).quiet = false ∧ quietNow s p = true
  | .leaseExpiry i => islandsRun s = true ∧ i < 2 ∧ (pairAt s i).enabled = true ∧ (pairAt s i).expiry ≤ s.clock.tick ∧
      ∃ h, (pairAt s i).holder = some h ∧ passes s (pathOf i (1 - h)) = true
  | .heartbeatDue i => islandsRun s = true ∧ i < 2 ∧ heartbeatDue s i = true ∧ s.clock.tick < (pairAt s i).expiry
  | .pairJoin i => islandsRun s = true ∧ i < 2 ∧ (pairAt s i).enabled = true ∧ ∃ t, (pairAt s i).joinEnd = some t ∧ t ≤ s.clock.tick
  | .tripRefresh => islandsRun s = true ∧ s.bus.refreshAt + getN s 0x1110 0x02 ≤ s.clock.tick
  | .rtcWindow periods => isUp s = true ∧ hamperFree s = true ∧ 0 < periods ∧ s.clock.rtcWindowAt + 32000 ≤ s.clock.tick
  | .haltTimeout => isUp s = true ∧ hamperFree s = true ∧ ∃ h, s.clock.halt = some h ∧ h.1 ≤ s.clock.tick
  | .timeReferenceSend i => islandsRun s = true ∧ i < 2 ∧ masterOn s i = true ∧ timeTrusted s = true ∧ vAt s.net.better i none = none ∧
      (pairAt s i).holder.isSome = true ∧ devTime s / ownPeriod s ≠ vAt s.net.lastSent i 0 ∧ 0 < freePlaces s i
  | .timeFollowUpSend i => islandsRun s = true ∧ i < 2 ∧ masterOn s i = true ∧ timeTrusted s = true ∧ vAt s.net.better i none = none ∧
      (pairAt s i).holder.isSome = true ∧ 0 < freePlaces s i ∧
      ∃ o, vAt s.net.owed i none = some o ∧ s.clock.ref ≤ o.2.2.2.2 + 2400000
  | .timeReferenceReceived f => rxOpen s f.path = true
  | .timeFollowUpReceived f => rxOpen s f.path = true
  | .holdover => isUp s = true ∧ s.entriesWf ∧ getN s 0x2910 0x01 = 1 ∧ getN s 0x2910 0x08 = 2 ∧
      ∃ t, s.net.lastPair = some t ∧ t + 4 * s.net.period ≤ s.clock.tick
  | .masterResume i => isUp s = true ∧ i < 2 ∧ ∃ t, vAt s.net.better i none = some t ∧ t + 4 * ownPeriod s ≤ s.clock.tick
  | .scheduleMinute => isUp s = true ∧ s.clock.lastMinute ≠ nowMinute s
  | .daylightSavingChange => isUp s = true ∧ offsetAt s (devTime s) ≠ s.clock.localOffset
  | .userAlarm a => isUp s = true ∧ hamperFree s = true ∧ a < 8 ∧ alarmDue s a = true
  | .displayFrameBoundary _ => displayRuns s = true ∧ dueRef s s.display.frameAt = true
  | .imageCheck _ => displayRuns s = true ∧ s.display.mending = false ∧ s.display.rects = [] ∧ s.display.checkAt + 60000 ≤ s.clock.tick
  | .metrologyPageChange => isUp s = true ∧ displayOn s = true ∧ windowOn s 8 = true ∧ s.display.pageAt ≤ s.clock.tick
  | .railFault => islandsRun s = true ∧ displayOn s = true ∧ s.display.railFault = false
  | .railRecovery => islandsRun s = true ∧ s.display.railFault = true
  | .indicatorStep i => islandsRun s = true ∧ i < 4 ∧ (indicatorAt s i).nextAt ≤ s.clock.tick
  | .indicatorFault i kind => islandsRun s = true ∧ s.entriesWf ∧ i < 4 ∧ 1 ≤ kind ∧ kind ≤ 2 ∧ getB s (0x2A41 + i) 0x05 = true
  | .healthHour => isUp s = true ∧ hamperFree s = true ∧ s.health.lastHour < getN s 0x2F10 0x01 / 3600
  | .pathLossTimeout i => isUp s = true ∧ hamperFree s = true ∧ i < 2 ∧ pairJudged s i = true ∧
      (lostFor s (vAt s.health.failSince (2 * i) none) = true ∨ lostFor s (vAt s.health.failSince (2 * i + 1) none) = true)
  | .pathLossClear i => isUp s = true ∧ hamperFree s = true ∧ i < 2 ∧ getBit s 0x2F00 0x02 (5 + i) = true ∧
      lostFor s (vAt s.health.passSince i none) = true
  | .histogramSample => isUp s = true ∧ s.health.lastSecond < s.clock.tick / 1000
  | .lifetimeFlush _ => isUp s = true ∧ hamperFree s = true ∧ s.health.lastFlush + 600 ≤ getN s 0x2F10 0x01
  | .dieTemperatureInject => islandsRun s = true ∧ freshBanks s = [] ∧ s.health.dieInject + 60000 ≤ s.clock.tick ∧ (convAt s 0).inject.length < 2
  | .powerFailWarning t _ => coreRuns s = true → s.power.warning = none ∧ s.clock.ref ≤ t ∧ dueRef s t = true
  | .brownOutEnd t => ∃ w, s.power.warning = some w ∧ (coreRuns s = true → s.clock.ref ≤ t ∧ dueRef s t = true ∧ t ≤ w + 2400000)
  | .powerDownReset _ => s.power.warning.isSome = true
  | .warningTimeout _ => coreRuns s = true ∧ ∃ w, s.power.warning = some w ∧ dueRef s (w + 2400000) = true
  | .supplyWarning _ => isUp s = true ∧ s.entriesWf
  | .overVoltage m => isUp s = true ∧ 60000 < m.vhold
  | .portRailLimit m => isUp s = true ∧ 3000 < m.pport
  | .dieOverTemperature m => isUp s = true ∧ 125000 < m.temp
  | .thermalShutdown m _ => coreRuns s = true ∧ 145000 ≤ m.temp
  | .thermosSwitchToBackup _ => thermosLives s = true ∧ s.thermos.onBackup = false
  | .thermosSwitchToMain _ => thermosLives s = true ∧ s.thermos.onBackup = true
  | .backupMeasurement _ => isUp s = true ∧ getN s 0x3001 0x01 ≠ 0 ∧ s.clock.tick % 60000 = 0
  | .oscillatorStopped => True
  | .startUp .. => coreRuns s = false ∧ s.power.thermal = false
  | .metrologyValid => islandsRun s = true ∧ s.power.step8 = false ∧ referencesSettled s = true
  | .metrologyValidTimeout lead => isUp s = true ∧ s.power.limitJudged = false ∧ 3 ≤ lead ∧ lead ≤ 16 ∧ 2000 ≤ s.clock.tick + lead
  | .externalReset _ => coreRuns s = true ∧ s.power.entry = none
  | .watchdogExpiry _ => coreRuns s = true ∧ s.power.entry = none ∧ watchdogLimit s ≤ s.power.watchdog
  | .resetEntryEnd => coreRuns s = true ∧ s.power.entry.isSome = true
  | .heartbeatLosesArbitration i => islandsRun s = true ∧ i < 2 ∧ (pairAt s i).enabled = true ∧ (pairAt s i).holder.isSome = true ∧
      (pairAt s i).hbPending = true
  | .receiveError p _ => rxOpen s p = true
  | .transceiverFaultCleared p => islandsRun s = true ∧ p < 4 ∧ (pathAt s p).xcvr ≠ 0
  | .currentLimitActs n on => isUp s = true ∧ n < 64 ∧ portMode s n = 11 ∧ (portAt s n).limitSince.isSome ≠ on
  | .thermalRestart temp .. => coreRuns s = false ∧ s.power.thermal = true ∧ temp ≤ 125000
  | .read m | .write m | .readSnapshot m | .writeInitiate m | .segment m | .segmentAcknowledgement m | .abortTransfer m
  | .describe m | .unknownOp m | .publicationMapEnable m | .portModeWrite m | .faultReset m | .tripRelease m
  | .softwareTrigger m | .converterRun m | .injectChannel m | .rawMode m | .laneRun m | .zeroFlowCapture m | .sessionOpen m
  | .sessionClose m | .captureStart m | .meterEnable m | .counterEnable m | .loopModeOff m | .loopModeManual m
  | .loopModeAuto m | .loopModeHold m | .loopModeSafe m | .groupEnable m | .groupMemberWrite m | .repetitiveEnable m
  | .clearMemory m | .zoneEnable m | .zoneModeRequest m | .zoneBoostStart m | .zoneRequestEnd m | .zoneTripReset m
  | .traceArm m | .traceDisarm m | .traceManualTrigger m | .onDemandSeal m | .attestationChallenge m
  | .attestationStatementRead m | .updateRequest m | .updateBlock m | .updateCancel m | .activate m | .confirm m
  | .acknowledgeFallback m | .clearRemoteSources m | .mailboxSend m | .mailboxCancel m | .halt m | .haltRelease m
  | .testWrite m | .pageInspect m | .displayEnable m | .displayDisable m | .windowUpdate m | .acknowledgeDeadlineMiss m
  | .refusedHamperWriteRead m | .stateRequest m =>
    fits c s = true ∧ takenNow s m = true

/-- What a command that is due does in the state u that it leaves: what it stores, raises or hands on, or the operation of its rule that
it carries out. -/
def effect (c : Instr) (s u : State) : Prop :=
  match c with
  | .tick index cycles serviced =>
      (isUp s = true → u = drainWait (tickFirmware (tickClock s cycles) index serviced)) ∧
      (isUp s = false → ∃ x, x = tickClock s cycles ∧
        u = drainWait { x with power := { x.power with watchdog := if serviced then 0 else x.power.watchdog + 1 } })
  | .coreSupplyAdjust => u.power.raiseAt = some s.clock.ref ∧
      ((speedMean s).1 < 1000 * (speedMean s).2 → s.power.coreMv < 900 → u.power.coreMv = s.power.coreMv + 10) ∧
      (1100 * (speedMean s).2 < (speedMean s).1 → u.power.coreMv = s.power.coreMv - 10)
  | .conditionClear code => raised u code = false
  | .referenceOscillatorFault => u.power.refFault = true ∧ u.power.step8 = false ∧ raised u 0x0003 = true
  | .referenceRestart _ => u.power.refFault = false
  | .hamperPageWrite _ => ∃ p, nextPend s = some p ∧ u.stor.pend = s.stor.pend.erase p
  | .scrubPage .. => (s.stor.scrubDue.isSome = true → u.stor.scrubDue = none) ∧
      (s.stor.scrubDue = none → holds u 0x2E00 4 ((getN s 0x2E00 4 + 1) % 524288))
  | .snapshotExpiry => u.kdp.snaps = s.kdp.snaps.filter (fun x => decide (s.clock.tick < x.tick + 250))
  | .segmentWaitTimeout who tag => ∃ t a, transferOf s who tag = some t ∧ a = getN s 0x1010 2 ∧ ∀ total crc got next window since last,
      t.kind = .writing total crc got next window since last none →
      u = updTransfer (sendFor s t 6 0 ((next - 1) % 256) 4 [byte a]) who tag fun z => { z with kind := .writing total crc got next a 0 last none }
  | .transferTimeout who tag => ∃ t, transferOf s who tag = some t ∧ u = drainWait (sendFor (dropTransfer s who tag) t 7 0 0 4 [0x01, 0x07])
  | .publicationReceived f badPage hwFault => ∃ a svc, svc = (if isService f 6 then 6 else 2) ∧ a = receiveFrame s f svc ∧
      (a.1 = false → u = a.2) ∧
      (a.1 = true → 8 + fieldN f.data 6 2 ≤ f.data.length → fieldN f.data 0 1 = 0x10 → fieldN f.data 1 1 &&& 0x16 = 0 →
        ∃ seg, seg = (if svc = 6 then fieldN f.data 4 2 else (pairAt s (f.path / 2)).segment) ∧
          u = forwardPublication ((List.range 64).foldl (fun x n => if subTakes x n (f.path / 2) seg (idSrc f.id) (fieldN f.data 2 1) then
            subReceive badPage hwFault x n (fieldN f.data 3 1) ((f.data.drop 8).take (fieldN f.data 6 2)) else x) a.2) (f.path / 2) f seg)
  | .subscriptionTimeout n => holds u (0x1240 + n) 0x08 3 ∧ raised u 0x0010 = true
  | .publicationPeriodTrigger n => u = pubFire (updPub s n fun p => { p with fired := periodsPassed s n }) n
  | .publicationChangeTrigger n => u = pubFire s n
  | .inhibitTimeEnd n => u = pubSend s n
  | .servicePortSelection bytes badPage hwFault ecc => ∃ a, a = drainWait (serviceShift s bytes.length) ∧
      u = (if (fromStart bytes).isEmpty then a
        else if serviceFrameGood (fromStart bytes) then receiveMsg a (serviceMsg (fromStart bytes) badPage hwFault ecc) else serviceDiscard a)
  | .portModeEnable n => ∃ a b, a = judgePwmSources (modeEnable s n) ∧ b = (if s.power.refFault then faultSafe a n else a) ∧
      ((portAt s n).modeReq = none → u = drainWait b) ∧ (∀ m, (portAt s n).modeReq = some m →
        u = drainWait (if m.op = 5 then finalAck b (exchange b m (.reading [] 0 0 0)) m.seq 0 else okReply b m 0 []))
  | .digitalFilterChange n level edge => ∃ a b, a = setN (updPort (advance s edge) n fun p => { p with known := true, changed := edge })
        (0x2000 + n) 0x0A level.toNat ∧ b = (if (portAt s n).known then takeEdge a n level edge else a) ∧
      u = (if portMode s n = 5 ∧ getN s (0x2040 + n) 0x18 < 64 then localChange s b (getN s (0x2040 + n) 0x18) n else b)
  | .gateWindowEnd n => (portAt u n).window = some s.clock.tick ∧ (portAt u n).accepted = 0 ∧ (portAt u n).countSel = 0
  | .stallTimeout n => raised u (faultCode 7 n) = true
  | .presenceWindowEnd n => holds u (0x2000 + n) 0x0A 0
  | .shuntOverload n => (portAt u n).shuntTill = some (s.clock.tick + 1000) ∧ raised u (faultCode 3 n) = true
  | .shuntReclose n => (portAt u n).shuntTill = none
  | .pwmPeriodBoundary n => onlyEntries [(0x2000 + n, 3)] s u ∧ u.clock = (advance s (portAt s n).pwmAt).clock ∧ (portAt u n).pwmStart = (portAt s n).pwmAt
  | .outputOverloadTimeout n => raised u (faultCode 3 n) = true
  | .switchOvercurrent n => (portAt u n).retryRun = none ∧ raised u (faultCode 3 n) = true
  | .switchRetry n => (portAt u n).retryAt = none ∧ (portAt u n).retryRun = some s.clock.tick
  | .switchRetrySuccess n => (portAt u n).retryRun = none ∧ raised u (faultCode 3 n) = false
  | .driverOverTemperature n => raised u (faultCode 5 n) = true
  | .driverRestart n _ => raised u (faultCode 5 n) = false
  | .actuatorRunEnd n => u = startMove (updPort s n fun p => { p with line := .still, lastDir := none }) n
  | .portFaultClear n t => raised u (faultCode t n) = false
  | .converterTimerTrigger set i =>
      (set = true → u = fireSet (updSync s i fun x => { x with lastTimer := some s.clock.tick }) i (refMs * s.clock.tick)) ∧
      (set = false → u = showConv (triggerConv (updConv s i fun x => { x with lastTimer := some s.clock.tick }) i (refMs * s.clock.tick)) i)
  | .pwmEventTrigger _ _ t => u.clock = (advance s t).clock
  | .triggerDelayEnd k => ∀ t, (convAt s k).delay = some t → u.clock = (advance s t).clock
  | .slotEnd k .. => ∀ sl, (convAt s k).slot = some sl → u.clock = (advance s sl.fin).clock
  | .metrologyTakesResult k _ => holds u (0x2100 + k) 0x04 (getN s (0x2100 + k) 0x04 / 4 * 4)
  | .referenceOutOfTolerance k _ => raised u (0x2030 + k) = true
  | .settlingComplete k => holds u (0x2100 + k) 0x09 1 ∧ raised u (0x2030 + k) = false
  | .laneMeasurementStart k => (laneAt u k).meas = some (measRest (24000 * s.clock.tick))
  | .laneShot k _ => ∀ m, (laneAt s k).meas = some m → (∃ n, (laneAt u k).meas = some n) ∧ u.clock = (advance s (shotStart s k m)).clock
  | .laneMeasurementEnd k => (laneAt u k).meas = none ∧ (laneAt u k).handed = (laneAt s k).meas
  | .laneResultTaken k => (laneAt u k).skipped = false
  | .calNChange on => u = { s with cal := { s.cal with calN := on } }
  | .sessionTimeout => u = raiseHeld (appendAudit (sessionClose s 2) .device 3 0x2180 0x01 0 [2]) 0x4002
  | .meteringPeriodEnd m => (meterAt u m).start = boundary s ((meterAt s m).start.getD (meterAt s m).enabledAt) (periodMs s m)
  | .pulseCounterSecond q => (vAt u.counters q counterRest).readSecond = devTime s / 1000
  | .intervalEnd => u.interval.running = true ∧ u.interval.length = getN s 0x2240 0x01
  | .loopSampleInstant l => (loopAt u l).lastSample = some s.clock.tick ∧ ∃ c, (loopAt u l).latch = some c ∧ c.ts = s.clock.tick
  | .loopRelease l => (loopAt u l).latch = none
  | .loopJobEnd l => (loopAt u l).job = none
  | .loopOutputInstant l => u = loopOutput s l
  | .highWaterFlush l => u = saveN (writeNow s (.record (keyOf (0x2500 + l) 0x0D) (getBytes s (0x2500 + l) 0x0D)))
      (0x2500 + l) 0x0E (getN s (0x2500 + l) 0x0E)
  | .zoneEvaluation z => u = evaluateZone (updZone s z fun x => { x with lastSecond := some (devTime s / 1000) }) z
  | .presenceSample z => (zoneAt u z).lastSample = some s.clock.tick
  | .occupiedSet z => getB u (0x2800 + z) 0x06 = true
  | .occupiedClear z => getB u (0x2800 + z) 0x06 = false
  | .requestExpiry z => u = requestOver s z
  | .boostEnd z => (zoneAt u z).boostEnd = none
  | .signingStart => ∃ i, nextRequest s.kiln.queue = some i ∧ (requestAt u.kiln.queue i).phase = .signing 1
  | .signingComplete good => ∃ i a, busyPlace s.kiln.queue = some i ∧
      a = setN (setN s 0x2B20 0x06 (s.clock.tick - (requestAt s.kiln.queue i).started)) 0x2B20 0x07
        (max (s.clock.tick - (requestAt s.kiln.queue i).started) (getN s 0x2B20 0x07)) ∧
      (good = true → u = (if (requestAt s.kiln.queue i).kind = 4 then deliverStatement a i
        else if s.power.warning.isSome then updRequest a i fun r => { r with phase := .held } else commitSeal a i)) ∧
      (good = false → holds u 0x2B20 0x09 (getN s 0x2B20 0x09 + 1))
  | .signingRetry => ∃ i, busyPlace s.kiln.queue = some i ∧ (requestAt u.kiln.queue i).phase = .signing 1
  | .statementExpiry who => ∀ x ∈ u.kiln.statements, x.who ≠ who
  | .trngHealthFailure => u.kiln.trngHalted = some s.clock.tick ∧ raised u 0x9001 = true
  | .trngRetest pass => u.kiln.trngHalted = (if pass then none else some s.clock.tick)
  | .tamperActivation i _ => (tamperAt u i).active = true ∧ (tamperAt u i).count = min 65535 ((tamperAt s i).count + 1)
  | .tamperRearm i => tamperAt u i = { tamperAt s i with active := false }
  | .tamperLog i => u = logInput s i
  | .activationReset _ => u.power.entry = some (s.clock.ref, 5)
  | .confirmationTimeout => u = confirm s
  | .tripFrameReceived f => ∃ a, a = receiveFrame s f 0 ∧ (a.1 = false → u = a.2) ∧
      (a.1 = true → 8 ≤ f.data.length → fieldN f.data 0 1 < 64 →
        (remoteOf a.2 (fieldN f.data 4 2) (fieldN f.data 2 1) (fieldN f.data 0 1)).any (fun r => r.tag == idTag f.id) = false →
        ∃ b, b = forwardTrip a.2 (f.path / 2) (fieldN f.data 0 1) (fieldN f.data 1 1 == 1) (idTag f.id) (fieldN f.data 2 1)
            (fieldN f.data 3 1) (fieldN f.data 4 2) ∧
          u = (if (getN s 0x1110 0x01).testBit (fieldN f.data 0 1) then channelFollow b (applyRemote b (fieldN f.data 0 1)
            (fieldN f.data 1 1 == 1) (fieldN f.data 4 2) (fieldN f.data 2 1) (idTag f.id)) (fieldN f.data 0 1) else b))
  | .kdpForward f => ∃ a, a = receiveFrame s f (if isService f 5 then 5 else 1) ∧ (a.1 = false → u = a.2) ∧
      (∀ j, a.1 = true → forwardTo s (f.path / 2) (fieldN f.data 8 2) = some j → 12 ≤ f.data.length → 8 + fieldN f.data 6 2 ≤ f.data.length →
        4 ≤ fieldN f.data 6 2 → (fieldN f.data 1 1).testBit 3 = true → fieldN f.data 8 2 ≠ (pairAt s (f.path / 2)).segment →
        u = pushForwarded a.2 j (devFrame .forwarded (frameId (idClass f.id) 5 (idDst f.id) (idSrc f.id) (idTag f.id)) f.data))
  | .rawFrameReceived f => u = evalPairs (mailRx (hear s f.path (if f.ext then some (idSrc f.id) else none)) f)
  | .remoteFrameReceived p => u = evalPairs (hear s p none)
  | .frameCompleted p sof delay => ∃ o, offerAt s p sof = some o ∧ u = drainWait (frameEnds s p o sof delay)
  | .transmissionError p e => u = transmissionFails (failedMeasure s p) p e
  | .busOffRecovery p => (pathAt u p).busOff = false ∧ (pathAt u p).txErr = 0 ∧ (pathAt u p).rxErr = 0
  | .transceiverFault p bits => (pathAt u p).xcvr = bits ∧ raised u (0xA040 + p) = true
  | .errorPassiveLimit p => (pathAt u p).passiveTooLong = true ∧ raised u (0xA020 + p) = true
  | .quietPath p => (pathAt u p).quiet = true ∧ raised u (0xA060 + p) = true
  | .leaseExpiry i => ∃ h, (pairAt s i).holder = some h ∧ u = handOver (trackPaths s) i (1 - h) (if pathFails s (pathOf i h) then 1 else 2)
  | .heartbeatDue i => (pairAt u i).hbPending = true ∧ (pairAt u i).hbCount = ((pairAt s i).hbCount + 1) % 256
  | .pairJoin i => u = evalPairs (joinPair s i)
  | .tripRefresh => u.bus.refreshAt = s.clock.tick
  | .rtcWindow _ => u.clock.rtcWindowAt = s.clock.tick
  | .haltTimeout => u = raise (haltRelease s) 0xB007
  | .timeReferenceSend i => vAt u.net.lastSent i 0 = devTime s / ownPeriod s ∧ vAt u.net.sendTag i 0 = (vAt s.net.sendTag i 0 + 1) % 256
  | .timeFollowUpSend i => vAt u.net.owed i none = none
  | .timeReferenceReceived f => ∃ a, a = receiveFrame s f 3 ∧ (a.1 = false → u = a.2) ∧
      (a.1 = true → 8 ≤ f.data.length → fieldN f.data 0 1 = 0 → masterOn a.2 (f.path / 2) = true →
        betterMaster a.2 (f.path / 2) (fieldN f.data 2 1) (idSrc f.id) = true → f.path / 2 < 2 → raised u 0xB005 = true)
  | .timeFollowUpReceived f => ∃ a, a = receiveFrame s f 3 ∧ (a.1 = false → u = a.2) ∧
      (a.1 = true → (a.2.net.halves.find? fun x => x.src == idSrc f.id) = none → u = a.2)
  | .holdover => holds u 0x2910 0x08 3 ∧ raised u 0xB004 = true
  | .masterResume i => vAt u.net.better i none = none
  | .scheduleMinute => u = evalPrograms { s with clock := { s.clock with lastMinute := nowMinute s } }
  | .daylightSavingChange => u = refreshLocal s
  | .userAlarm a => u = fireAlarm s a false
  | .displayFrameBoundary _ => u.clock = (advance s s.display.frameAt).clock
  | .imageCheck _ => u.display.checkAt = s.clock.tick
  | .metrologyPageChange => u.display.pageAt = s.clock.tick + 1000 * getN s 0x2A18 0x07
  | .railFault => u.display.railFault = true ∧ raised u 0xD020 = true
  | .railRecovery => u.display.railFault = false
  | .indicatorStep i => s.clock.tick ≤ (indicatorAt u i).nextAt
  | .indicatorFault i kind => holds u (0x2A41 + i) 0x06 kind ∧ raised u (0xD040 + i) = true
  | .healthHour => u.health.lastHour = getN s 0x2F10 0x01 / 3600
  | .pathLossTimeout i => u = judgeCriterion s (5 + i) true
  | .pathLossClear i => raised u (0xE015 + i) = false
  | .histogramSample => u.health.lastSecond = s.clock.tick / 1000
  | .lifetimeFlush differs => u = flushLifetime (showDiffers s differs)
  | .dieTemperatureInject => u.health.dieInject = s.clock.tick
  | .powerFailWarning t _ => (coreRuns s = true → u.power.warning = some t ∧ raised u 0xF001 = true) ∧
      (coreRuns s = false → u = { s with power := { s.power with warning := some (s.power.warning.getD s.clock.ref) } })
  | .brownOutEnd t => (coreRuns s = true → ∃ v, v.power.warning = none ∧ v.clock = (advance s t).clock ∧
      u = (if v.power.entry.isSome then v else commitHeld (displayResume v))) ∧ (coreRuns s = false → u.power.warning = none)
  | .powerDownReset retained => u.power.phase = (if retained then .backup else .off) ∧ u.ents = [] ∧ u.conds = []
  | .warningTimeout retained => u.power.phase = (if retained then .backup else .off) ∧ u.ents = [] ∧ u.conds = []
  | .supplyWarning m => holds u 0x3000 0x05 (f32 m.vhold 1000).toNat
  | .overVoltage _ => raised u 0xF011 = true
  | .portRailLimit _ => raised u 0xF020 = true
  | .dieOverTemperature _ => raised u 0xF040 = true
  | .thermalShutdown _ retained => u.power.phase = (if retained then .backup else .off) ∧ u.power.thermal = true
  | .thermosSwitchToBackup _ => u.thermos.onBackup = true
  | .thermosSwitchToMain _ => u.thermos.onBackup = false
  | .backupMeasurement mv => raised u 0xF031 = if mv = 1000 then raised s 0xF031 else decide (mv < 1000)
  | .oscillatorStopped => u.thermos.stopped = true
  | .startUp cycles checkOk keyOk =>
      u = startUp s (if s.power.phase = .held then s.power.cause else 2) cycles (s.power.phase != .held) checkOk keyOk
  | .metrologyValid => u.power.step8 = true
  | .metrologyValidTimeout _ => u.power.limitJudged = true ∧ raised u 0x0020 = true
  | .externalReset _ => u.power.entry = some (s.clock.ref, 3)
  | .watchdogExpiry _ => u.power.entry = some (s.clock.ref, 4)
  | .resetEntryEnd => u.power.phase = .held ∧ ∀ e, s.power.entry = some e → u.power.cause = e.2
  | .heartbeatLosesArbitration i => (pairAt u i).hbPending = false
  | .receiveError p heavy => (pathAt u p).rxErr = min 255 ((pathAt s p).rxErr + if heavy then 8 else 1)
  | .transceiverFaultCleared p => (pathAt u p).xcvr = 0
  | .currentLimitActs n on => (portAt u n).limitSince = (if on then some s.clock.tick else none)
  | .thermalRestart _ cycles checkOk keyOk => u = startUp s 6 cycles true checkOk keyOk
  | .read m | .write m | .readSnapshot m | .writeInitiate m | .segment m | .segmentAcknowledgement m | .abortTransfer m
  | .describe m | .unknownOp m | .publicationMapEnable m | .portModeWrite m | .faultReset m | .tripRelease m
  | .softwareTrigger m | .converterRun m | .injectChannel m | .rawMode m | .laneRun m | .zeroFlowCapture m | .sessionOpen m
  | .sessionClose m | .captureStart m | .meterEnable m | .counterEnable m | .loopModeOff m | .loopModeManual m
  | .loopModeAuto m | .loopModeHold m | .loopModeSafe m | .groupEnable m | .groupMemberWrite m | .repetitiveEnable m
  | .clearMemory m | .zoneEnable m | .zoneModeRequest m | .zoneBoostStart m | .zoneRequestEnd m | .zoneTripReset m
  | .traceArm m | .traceDisarm m | .traceManualTrigger m | .onDemandSeal m | .attestationChallenge m
  | .attestationStatementRead m | .updateRequest m | .updateBlock m | .updateCancel m | .activate m | .confirm m
  | .acknowledgeFallback m | .clearRemoteSources m | .mailboxSend m | .mailboxCancel m | .halt m | .haltRelease m
  | .testWrite m | .pageInspect m | .displayEnable m | .displayDisable m | .windowUpdate m | .acknowledgeDeadlineMiss m
  | .refusedHamperWriteRead m | .stateRequest m =>
    u = processMsg (received s m) m

end Sys2Proof.Machine
end

