-- ==== Sys2Proof/Certificates/Slice0/Obligations.lean ====
section
/-! DEFINITION. The statements for the provers. -/

open Sys2Proof Sys2Proof.Machine

/-- Step on a state whose queue holds c in front is exec of c on that state with the queue's rest. Step on an empty queue answers
the state itself. That the block idles then is the model's choice (log 1). -/
def Obligations.StepRunsFront : Prop :=
  (∀ (c : Instr) (r : List Instr) (s : State), s.pending = c :: r → step s = exec c { s with pending := r }) ∧
  (∀ s : State, s.pending = [] → step s = .next s)

/-- On every state every command answers a next state: none faults and none is refused. In that state the queue of the waiting
commands is as it was. That a command which is not due or not present changes nothing is the model's choice (log 1). -/
def Obligations.EveryCommandAnswers : Prop :=
  ∀ (c : Instr) (s : State), ∃ t, exec c s = .next t ∧ t.pending = s.pending

/-- The frame of all 195 commands. Safety.lean lists for every command the parts of the state that it may write. In the next state
every other part (of the 43 that the state is split into) is as it was. Commands that bring a message, and those that take
messages that wait, may do what those messages ask for; even they leave the group arbiters and the indicators alone. -/
def Obligations.CommandsTouchOnlyTheirParts : Prop :=
  ∀ (c : Instr) (s t : State), exec c s = .next t → ∀ p : Part, p ∉ touched c → p.same s t

/-- If a state is good and step answers a next state, that state is good. Good means: the bytes of the Hamper are in canonical
form; the table of dictionary entries is in canonical form; at most 8 snapshots are live (R52); no more spare pages are used than
the Hamper has (R407). -/
def Obligations.StepKeepsGoodStates : Prop :=
  ∀ s t : State, s.good → step s = .next t → t.good

/-- State.reset meets the invariant that every step keeps. -/
def Obligations.ResetIsGood : Prop :=
  State.reset.good

/-- After a step the number of audit entries ever written (R308) is at least what it was, and so is the number of blown security
counter cells (R315). This holds of every step, resets and power losses among them. -/
def Obligations.AuditAndCounterNeverGoBack : Prop :=
  ∀ s t : State, step s = .next t → s.audit.count ≤ t.audit.count ∧ s.kiln.counter ≤ t.kiln.counter

/-- In State.reset the device is Off and the core does not run; every dictionary entry reads its default; no condition is raised;
no transfer is open, no snapshot is live, nothing waits for processing and the service port has nothing to send; memory lists no
byte; the tick count and the reference counter are 0; metrology is not valid; the oscillator-stopped flag is set. The device
before any power is the model's choice of reset (log 25). -/
def Obligations.ResetLeaves : Prop :=
  coreRuns State.reset = false ∧ State.reset.power.phase = .off ∧
  (∀ i j, getBytes State.reset i j = dfltBytes i j) ∧ (∀ c, raised State.reset c = false) ∧
  State.reset.kdp.transfers = [] ∧ State.reset.kdp.snaps = [] ∧ State.reset.kdp.wait = [] ∧ State.reset.kdp.serviceQ = [] ∧
  State.reset.kdp.serviceWait = [] ∧ State.reset.stor.mem = [] ∧ State.reset.clock.tick = 0 ∧ State.reset.clock.ref = 0 ∧
  State.reset.power.metrologyValid = false ∧ State.reset.thermos.stopped = true ∧ State.reset.pending = []

/-- While the core runs and there is no reference fault, TICK completes: the clocks move on by one tick (tick count plus one,
reference counter at 24 000 times the new tick count), then the firmware, where it runs, does its work of a tick, then waiting
messages are taken. With halt set the RTC does not move. The clock part of a tick touches neither the power state nor a condition.
-/
def Obligations.TickAdvances : Prop :=
  ∀ (index cycles : Nat) (serviced : Bool) (s : State), coreRuns s = true → s.power.refFault = false →
    runs (.tick index cycles serviced) s (drainWait
      (if isUp s then tickFirmware (tickClock s cycles) index serviced else tickClock s cycles)) ∧
    (tickClock s cycles).clock.tick = s.clock.tick + 1 ∧ (tickClock s cycles).clock.ref = 24000 * (s.clock.tick + 1) ∧
    (s.clock.halt.isSome = true → (tickClock s cycles).thermos = s.thermos) ∧
    (tickClock s cycles).power = s.power ∧ (tickClock s cycles).conds = s.conds

/-- While the core runs, for a condition whose cause is absent and became so at least its clear time ago (10 s, 1 s for port
faults and the conditions whose chapters say so): CONDITION_CLEAR completes with the condition no longer raised and every other
condition raised or not as before. For a code outside the port faults (0x1000 to 0x1FFF) no entry changes; for a port fault only
the status and the fault code of that port may, and the code is that of the fault that now ranks first, or 1000. For a code whose cause is present, or has been absent for less, nothing changes. -/
def Obligations.ConditionsClear : Prop :=
  ∀ (code : Nat) (s : State), coreRuns s = true →
    (clearDue s code = true → code / 4096 ≠ 1 → ∃ u, runs (.conditionClear code) s u ∧ raised u code = false ∧ onlyConds [code] s u ∧
      u.ents = s.ents) ∧
    (∀ n t, n < 64 → 1 ≤ t → t ≤ 10 → code = faultCode t n → clearDue s code = true → s.entriesWf →
      ∃ u, runs (.conditionClear code) s u ∧ raised u code = false ∧ onlyConds [code] s u ∧
        onlyEntries [(0x2000 + n, 3), (0x2000 + n, 0x10)] s u ∧ holds u (0x2000 + n) 0x10
          (match faultOrder.find? (hasFault u n) with | some k => faultCode k n | none => 0x1000)) ∧
    ((∀ c ∈ s.conds, c.code = code → c.cause = true ∨ s.clock.tick < c.since + clearMs code) →
      exec (.conditionClear code) s = .next s)

/-- While the core runs with no warning in progress, at an instant t that is not before the reference counter and not after the
next tick: POWER_FAIL_WARNING completes. The warning is in progress from t; no page write is pending any more, and the bytes and
records of the Hamper are those after the write in progress, or unchanged where none was; the display's
queue is empty and the display island stopped; halt is released; metrology is not valid and every meter's period in progress is
marked invalid; condition 0xF001 is raised and no other condition changes; loops, trips, ports, converters and the bus are as they
were. Where the core does not run yet, in the steps of a start-up before it, POWER_FAIL_WARNING completes with the warning in
progress and nothing else changed. -/
def Obligations.WarningStopsWrites : Prop :=
  (∀ (t : Nat) (busy : Bool) (s : State), coreRuns s = true → s.power.warning = none → s.clock.ref ≤ t → dueRef s t = true →
    ∃ u, runs (.powerFailWarning t busy) s u ∧ u.power.warning = some t ∧ u.power.metrologyValid = false ∧
      (∀ m, m < 16 → (vAt u.meters m meterRest).invalid = true) ∧ u.clock.halt = none ∧ u.clock.ref = t ∧
      u.display.queue = [] ∧ u.display.stopped = true ∧ raised u 0xF001 = true ∧ u.stor.pend = [] ∧
      u.stor.mem = (hamperStop (advance s t) busy).stor.mem ∧ u.stor.recs = (hamperStop (advance s t) busy).stor.recs ∧
      (busy = false → u.stor.mem = s.stor.mem ∧ u.stor.recs = s.stor.recs ∧ onlyConds [0xF001] s u) ∧
      u.loops = s.loops ∧ u.ports = s.ports ∧ u.convs = s.convs ∧ u.bus.paths = s.bus.paths ∧
      u.bus.pairs = s.bus.pairs) ∧
  (∀ (t : Nat) (busy : Bool) (s : State), coreRuns s = false →
    runs (.powerFailWarning t busy) s { s with power := { s.power with warning := some (s.power.warning.getD s.clock.ref) } })

/-- While the core runs in a warning that began at w, at an instant t from the reference counter up to the next tick and at most
100 ms after w: there is a state v in which the warning is over, the brown-outs since reset and in the lifetime record are one
more, the last duration is t - w in microseconds, metrology becomes valid at the next whole second of device time where step 8 of
the start-up was done, and no other entry has changed; BROWN_OUT_END completes from v, with the display going on and a seal that
was held being committed, unless a reset entry is in progress. Where the core does not run yet the warning ends and nothing else
changes. -/
def Obligations.BrownOutCounts : Prop :=
  (∀ (t w : Nat) (s : State), coreRuns s = true → s.power.warning = some w → s.clock.ref ≤ t → dueRef s t = true →
    t ≤ w + 2400000 → s.entriesWf →
    ∃ v, v.power.warning = none ∧ v.clock.ref = t ∧
      v.power.validAt = (if s.power.step8 then some (devRef (advance s t) / refSec + 1) else none) ∧
      holds v 0x3000 0x0C (getN s 0x3000 0x0C + 1) ∧ holds v 0x2F10 0x04 (getN s 0x2F10 0x04 + 1) ∧ holds v 0x3000 0x0D ((t - w) / 24) ∧
      onlyEntries [(0x3000, 0x0C), (0x2F10, 0x04), (0x3000, 0x0D)] s v ∧ (∀ c, raised v c = raised s c) ∧
      v.stor = { s.stor with cut := none } ∧
      runs (.brownOutEnd t) s (if v.power.entry.isSome then v else commitHeld (displayResume v))) ∧
  (∀ (t w : Nat) (s : State), coreRuns s = false → s.power.warning = some w →
    runs (.brownOutEnd t) s { s with power := { s.power with warning := none } })

/-- POWER_DOWN_RESET during a warning, WARNING_TIMEOUT when 100 ms of warning have passed, and THERMAL_SHUTDOWN at 145 degrees or
more each complete from every state in which the core runs. In the next state the device is in Backup where VBAK holds retention
and Off where not; every entry reads its default, no condition is raised, and no transfer, snapshot, waiting message or queued
frame is left; the tick count and the reference counter are 0; the bytes and records of the Hamper, its remap table and its journal
are as the writes under way left them, so as they were where the loss cut none of them and no shutdown warning came with it; the
audit log and the security counter are as they were; pending page writes are gone. With retention the tamper inputs, the user
scratch and the stopped flag are kept; without it the stopped flag is set. -/
def Obligations.PowerDownKeepsStorage : Prop :=
  ∀ (c : Instr) (keep : Bool) (s : State), coreRuns s = true →
    ((c = .powerDownReset keep ∧ s.power.warning.isSome = true) ∨
     (c = .warningTimeout keep ∧ ∃ w, s.power.warning = some w ∧ dueRef s (w + 2400000) = true) ∨
     (∃ m : SupplyIn, c = .thermalShutdown m keep ∧ 145000 ≤ m.temp)) →
    ∃ u, exec c s = .next u ∧ u.power.phase = (if keep then .backup else .off) ∧ u.ents = [] ∧ u.conds = [] ∧
      u.kdp.transfers = [] ∧ u.kdp.snaps = [] ∧ u.kdp.wait = [] ∧ u.kdp.serviceQ = [] ∧ u.kdp.serviceWait = [] ∧ (∀ p, p < 4 → (pathAt u p).queue = []) ∧
      u.clock.tick = 0 ∧ u.clock.ref = 0 ∧ u.power.warning = none ∧ u.power.metrologyValid = false ∧
      (∃ x : State, ((∀ m, c ≠ .thermalShutdown m keep) → x = s) ∧
        ((∃ m, c = .thermalShutdown m keep) → x = warningBegins (freshFree s).2 s.clock.ref ((freshFree s).1.getLsbD 0)) ∧
        u.stor.mem = (applyCut x).stor.mem ∧ u.stor.recs = (applyCut x).stor.recs ∧ u.stor.remap = (applyCut x).stor.remap ∧
        u.stor.journal = (applyCut x).stor.journal ∧
        (x.stor.cut = none → u.stor.mem = x.stor.mem ∧ u.stor.recs = x.stor.recs ∧ u.stor.remap = x.stor.remap ∧
          u.stor.journal = x.stor.journal)) ∧
      u.stor.pend = [] ∧ u.audit = s.audit ∧ u.kiln.counter = s.kiln.counter ∧ u.kiln.seals = s.kiln.seals ∧
      (keep = true → u.thermos.tamper = s.thermos.tamper ∧ u.thermos.scratch = s.thermos.scratch ∧ u.thermos.stopped = s.thermos.stopped) ∧
      (keep = false → u.thermos.stopped = true) ∧ (u.power.thermal = true ↔ (s.power.thermal = true ∨ ∃ m, c = .thermalShutdown m keep))

/-- While the core runs with no reset entry in progress, EXTERNAL_RESET, WATCHDOG_EXPIRY at 2 000 ms (5 000 ms in recovery), and
ACTIVATION_RESET when it is due complete: a reset entry with cause 3, 4 or 5 is in progress from the present reference count, no page
write is pending, the display island is stopped, and with no page write in progress no condition changes and no entry but the row
counts of traces whose rows were pending. RESET_ENTRY_END, the end of the 400 µs that an entry takes, completes: the core is held in
reset with that cause, every entry reads its default, the tick count is 0, and the Hamper's bytes and records (but for a write that the
entry cut), the audit log, the tamper inputs and the user scratch are kept; the pixels stay only if the image's CRC is the journalled
one. -/
def Obligations.ResetEntries : Prop :=
  (∀ (c : Instr) (cause : Nat) (busy : Bool) (s : State), coreRuns s = true → s.power.entry = none →
    ((c = .externalReset busy ∧ cause = 3) ∨ (c = .watchdogExpiry busy ∧ cause = 4 ∧ (if s.power.phase = .recovery then 5000 else 2000) ≤ s.power.watchdog) ∨
     (c = .activationReset busy ∧ cause = 5 ∧ ∃ t, s.update.resetAt = some t ∧ t ≤ s.clock.tick)) →
    ∃ u, runs c s u ∧ u.power.entry = some (s.clock.ref, cause) ∧ u.display.stopped = true ∧ u.display.queue = [] ∧
      u.stor.pend = [] ∧
      (busy = false → u.stor.mem = s.stor.mem ∧ u.stor.recs = s.stor.recs ∧ u.conds = s.conds ∧
        onlyEntries ((List.range 8).map fun t => (0x2780 + t, 0x14)) s u)) ∧
  (∀ (t cause : Nat) (s : State), coreRuns s = true → s.power.entry = some (t, cause) →
    ∃ u, exec .resetEntryEnd s = .next u ∧ u.power.phase = .held ∧ u.power.cause = cause ∧ u.power.entry = none ∧ u.ents = [] ∧
      u.conds = [] ∧ u.kdp.transfers = [] ∧ u.kdp.snaps = [] ∧ u.clock.tick = 0 ∧ u.clock.ref = 0 ∧ u.stor.mem = (applyCut s).stor.mem ∧
      u.stor.recs = (applyCut s).stor.recs ∧ (s.stor.cut = none → u.stor.mem = s.stor.mem ∧ u.stor.recs = s.stor.recs) ∧
      u.stor.pend = [] ∧ u.audit = s.audit ∧ u.thermos.tamper = s.thermos.tamper ∧ u.thermos.scratch = s.thermos.scratch ∧
      u.display.pixels = (if imageCrc s = journalledCrc s then s.display.pixels else []))

/-- While the firmware runs, SUPPLY_WARNING, OVER_VOLTAGE, PORT_RAIL_LIMIT and DIE_OVER_TEMPERATURE complete: 3000.04 to 3000.06
and 3000.0B hold the binary32 values of the measurement, 3000.07 that of the load up to 3.0 W, and no entry but these and the supply
status changes. VHOLD above 60 V raises 0xF011, a port rail load above 3 W raises 0xF020, a hottest die above 125 degrees raises 0xF040,
and VHOLD below the threshold 3000.09 for 1 s raises 0xF010; where the cause is not met the condition stays as it was (it clears after
its time), and no other condition changes. BACKUP_MEASUREMENT, once a minute with a backup fitted, completes: 3001.02 holds the measured
voltage; 0xF031 is raised below 1.0 V and not raised above it, 0xF030 is raised below the threshold 3001.03 and not raised above it, and
at the limit each stays as it was. -/
def Obligations.SupplyMonitor : Prop :=
  (∀ (c : Instr) (m : SupplyIn) (s : State), isUp s = true → s.entriesWf →
    (c = .supplyWarning m ∨ c = .overVoltage m ∨ c = .portRailLimit m ∨ c = .dieOverTemperature m) →
    ∃ u, runs c s u ∧ holds u 0x3000 0x04 (f32 m.vin 1000).toNat ∧ holds u 0x3000 0x05 (f32 m.vhold 1000).toNat ∧
      holds u 0x3000 0x06 (f32 m.vport 1000).toNat ∧ holds u 0x3000 0x07 (f32 (min 3000 m.pport : Nat) 1000).toNat ∧
      holds u 0x3000 0x0B (f32 m.temp 1000).toNat ∧
      onlyEntries [(0x3000, 4), (0x3000, 5), (0x3000, 6), (0x3000, 7), (0x3000, 8), (0x3000, 0x0B)] s u ∧
      onlyConds [0xF010, 0xF011, 0xF020, 0xF040] s u ∧
      (raised u 0xF011 = true ↔ raised s 0xF011 = true ∨ 60000 < m.vhold) ∧
      (raised u 0xF020 = true ↔ raised s 0xF020 = true ∨ 3000 < m.pport) ∧
      (raised u 0xF040 = true ↔ raised s 0xF040 = true ∨ hotDie s m = true) ∧ (125000 < m.temp → raised u 0xF040 = true) ∧
      (∀ t, s.power.supplyLow = some t → t + 1000 ≤ s.clock.tick → flt (f32 m.vhold 1000) (getF s 0x3000 0x09) = true →
        raised u 0xF010 = true) ∧
      (∀ t, s.power.supplyLow = some t → s.clock.tick < t + 1000 → raised u 0xF010 = raised s 0xF010) ∧
      (flt (f32 m.vhold 1000) (getF s 0x3000 0x09) = true → u.power.supplyLow = some (s.power.supplyLow.getD s.clock.tick)) ∧
      (flt (f32 m.vhold 1000) (getF s 0x3000 0x09) = false → u.power.supplyLow = none ∧ raised u 0xF010 = raised s 0xF010)) ∧
  (∀ (mv : Nat) (s : State), isUp s = true → s.entriesWf → getN s 0x3001 0x01 ≠ 0 → s.clock.tick % 60000 = 0 →
    ∃ u, runs (.backupMeasurement mv) s u ∧ holds u 0x3001 0x02 (f32 mv 1000).toNat ∧
      onlyEntries [(0x3001, 2), (0x3001, 4)] s u ∧ onlyConds [0xF030, 0xF031] s u ∧
      raised u 0xF031 = (if mv = 1000 then raised s 0xF031 else decide (mv < 1000)) ∧
      raised u 0xF030 = (if flt (f32 mv 1000) (getF s 0x3001 0x03) then true
        else if flt (getF s 0x3001 0x03) (f32 mv 1000) then false else raised s 0xF030))

/-- In every phase but Off: THERMOS_SWITCH_TO_BACKUP, where main fed the domain, completes with the domain on backup and the
switch-over time stored as the last, and as the first unless one is held; THERMOS_SWITCH_TO_MAIN, where backup fed it, completes
with the domain on main; TAMPER_ACTIVATION on an enabled input that is armed completes with the input active, its last time the
RTC's, its first time kept or the RTC's, and its count one more up to 65 535; TAMPER_REARM on an active input completes with it
armed again. OSCILLATOR_STOPPED completes in every state with the flag set; in Backup the domain loses its values with it and the
device is Off. None of them changes an entry or a condition, and
while the core runs with no reference fault none moves the RTC. -/
def Obligations.ThermosDomain : Prop :=
  (∀ (cycles : Nat) (s : State), thermosLives s = true → s.thermos.onBackup = false →
    ∃ u, runs (.thermosSwitchToBackup cycles) s u ∧ u.thermos.onBackup = true ∧ u.thermos.lastSwitch = some (rtcMs (rtcRun s cycles)) ∧
      (∀ f, s.thermos.firstSwitch = some f → u.thermos.firstSwitch = some f) ∧
      (s.thermos.firstSwitch = none → u.thermos.firstSwitch = some (rtcMs (rtcRun s cycles), trustedNow s)) ∧
      u.ents = s.ents ∧ u.conds = s.conds ∧ (coreRuns s = true → s.power.refFault = false → u.thermos.secs = s.thermos.secs ∧ u.thermos.frac = s.thermos.frac)) ∧
  (∀ (cycles : Nat) (s : State), thermosLives s = true → s.thermos.onBackup = true →
    ∃ u, runs (.thermosSwitchToMain cycles) s u ∧ u.thermos.onBackup = false ∧ u.thermos.firstSwitch = s.thermos.firstSwitch ∧
      u.thermos.lastSwitch = s.thermos.lastSwitch ∧ u.ents = s.ents ∧ u.conds = s.conds ∧
      (coreRuns s = true → s.power.refFault = false → u.thermos.secs = s.thermos.secs ∧ u.thermos.frac = s.thermos.frac)) ∧
  (∀ (i cycles : Nat) (s : State), thermosLives s = true → i < 2 → (tamperAt s i).enable = true → (tamperAt s i).active = false →
    ∃ u, runs (.tamperActivation i cycles) s u ∧ (tamperAt u i).active = true ∧ (tamperAt u i).last = rtcMs (rtcRun s cycles) ∧
      (tamperAt u i).first = some ((tamperAt s i).first.getD (rtcMs (rtcRun s cycles))) ∧
      (tamperAt u i).count = min 65535 ((tamperAt s i).count + 1) ∧ (∀ j, j ≠ i → tamperAt u j = tamperAt s j) ∧
      u.ents = s.ents ∧ u.conds = s.conds) ∧
  (∀ (i : Nat) (s : State), thermosLives s = true → i < 2 → (tamperAt s i).active = true →
    ∃ u, runs (.tamperRearm i) s u ∧ tamperAt u i = { tamperAt s i with active := false } ∧ (∀ j, j ≠ i → tamperAt u j = tamperAt s j) ∧
      u.ents = s.ents ∧ u.conds = s.conds) ∧
  (∀ s : State, s.power.phase ≠ .backup → runs .oscillatorStopped s { s with thermos := { s.thermos with stopped := true } }) ∧
  (∀ s : State, s.power.phase = .backup → ∃ u, runs .oscillatorStopped s u ∧ u.power.phase = .off ∧ u.thermos.stopped = true ∧
    u.thermos = State.reset.thermos ∧ u.ents = s.ents ∧ u.conds = s.conds ∧ u.stor = s.stor)

/-- While the core does not run: START_UP, with no thermal restart owed, completes with the state that the start-up sequence
gives, with the cause latched by a reset entry, or cause 2 and a power cycle from Backup or Off; THERMAL_RESTART, owed and at 125
degrees or less, completes with the sequence's state for cause 6 and a power cycle. In the sequence the RTC first runs on by the
cycles since the last instant known; a set stopped flag or a check word that does not match the Thermos cells loses the Thermos values;
storage is recovered; a thermal restart raises 0xF041 and a check word that does not match 0xF050; a key store that fails its check, or a
certificate with another key than the device's, raises 0x9002; the slot of the boot selection starts, or with none the device enters
recovery, asserts FAULT_N and keeps the loss for the next start. That the core supply starts at 800 mV is the model's choice (log 25). -/
def Obligations.StartUpRuns : Prop :=
  (∀ (cycles : Nat) (checkOk keyOk : Bool) (s : State), coreRuns s = false → s.power.thermal = false →
    runs (.startUp cycles checkOk keyOk) s
      (startUp s (if s.power.phase = .held then s.power.cause else 2) cycles (s.power.phase != .held) checkOk keyOk)) ∧
  (∀ (temp : Int) (cycles : Nat) (checkOk keyOk : Bool) (s : State), coreRuns s = false → s.power.thermal = true → temp ≤ 125000 →
    runs (.thermalRestart temp cycles checkOk keyOk) s (startUp s 6 cycles true checkOk keyOk)) ∧
  (∀ (cause cycles : Nat) (cycle checkOk keyOk bad lost : Bool) (s : State),
    bad = (!checkOk || (rtcRun s cycles).thermos.check != thermosWord (rtcRun s cycles).thermos) →
    lost = ((rtcRun s cycles).thermos.stopped || bad) →
    ∃ v r w, v.power.coreMv = 800 ∧ v.ents = s.ents ∧ v.stor = s.stor ∧ v.thermos.stopped = false ∧
      (lost = true → v.thermos.secs = 0 ∧ v.clock.source = 0 ∧ v.clock.bound = none) ∧
      r = recordStart (recoverStorage v) cause bad ∧ (cause = 6 → raised r 0xF041 = true) ∧ (bad = true → raised r 0xF050 = true) ∧
      w.kiln.keyFault = !(keyOk && certKey r == getBytes r 0x2C00 0x01) ∧ (w.kiln.keyFault = true → raised w 0x9002 = true) ∧
      (∀ c, c ≠ 0x9002 → raised w c = raised r c) ∧ w.stor = r.stor ∧ w.ents = r.ents ∧
      ((∃ x n fb, bootSelect w = (x, some n, fb) ∧ startUp s cause cycles cycle checkOk keyOk =
          startWarned (startFirmware x cause n cycle lost fb)) ∨
       (∃ x fb, bootSelect w = (x, none, fb) ∧ (startUp s cause cycles cycle checkOk keyOk).power.phase = .recovery ∧
          (startUp s cause cycles cycle checkOk keyOk).power.faultN = true ∧
          (startUp s cause cycles cycle checkOk keyOk).thermos.stopped = lost ∧
          raised (startUp s cause cycles cycle checkOk keyOk) 0x9033 = true)))

/-- While the islands run and step 8 is open with every running converter's reference settled or out of tolerance: METROLOGY_VALID
completes with step 8 done; with the Hamper free metrology is valid, the cause of 0x0020 is gone, and where no interval was
running one runs from the present device time and every meter waits for its next boundary; during a warning or a reset entry
validity is as before. METROLOGY_VALID_TIMEOUT, 2 s after a start instant that lies 3 to 16 ms before tick 0 (the model's reading
of the durations of steps 1 and 2), with the limit not judged yet and bit 0 not set since the start-up, completes with 0x0020 raised and
no other condition and no entry changed. -/
def Obligations.MetrologyBecomesValid : Prop :=
  (∀ s : State, islandsRun s = true → s.power.step8 = false → referencesSettled s = true →
    ∃ u, runs .metrologyValid s u ∧ u.power.step8 = true ∧
      (hamperFree s = true → u.power.metrologyValid = true ∧ u.power.validAt = none ∧
        (s.interval.running = false → u.interval.running = true ∧
          ∀ m, m < 16 → (vAt u.meters m meterRest).start = none ∧ (vAt u.meters m meterRest).enabledAt = devTime s)) ∧
      (hamperFree s = false → u.power.metrologyValid = s.power.metrologyValid ∧ u.interval = s.interval ∧ u.meters = s.meters)) ∧
  (∀ (lead : Nat) (s : State), isUp s = true → s.power.limitJudged = false → 3 ≤ lead → lead ≤ 16 → 2000 ≤ s.clock.tick + lead →
    ∃ u, runs (.metrologyValidTimeout lead) s u ∧ raised u 0x0020 = true ∧ onlyConds [0x0020] s u ∧ u.ents = s.ents ∧
      u.power.limitJudged = true)

/-- While the core runs with no reference fault, REFERENCE_OSCILLATOR_FAULT completes: 0x0003 is raised and no other condition changes; metrology is not
valid; no converter has a frame, a slot or a delay in progress, no lane a measurement; no loop stays in mode 1 or 2; the ports are
as driving every output to its safe value leaves them; no path offers a frame; tick count and reference counter stand. During the
fault REFERENCE_RESTART completes: the fault is over, tick count and reference counter are as before, every enabled pair listens
for two lease times, and the loops are as they were. -/
def Obligations.ReferenceFault : Prop :=
  (∀ s : State, coreRuns s = true → s.power.refFault = false →
    ∃ u, runs .referenceOscillatorFault s u ∧ u.power.refFault = true ∧ u.power.metrologyValid = false ∧ raised u 0x0003 = true ∧
      onlyConds [0x0003] s u ∧ (∀ k, k < 8 → (convAt u k).frame = none ∧ (convAt u k).slot = none ∧ (convAt u k).delay = none) ∧
      (∀ k, k < 8 → (laneAt u k).meas = none) ∧ (∀ l, l < 96 → (loopAt u l).active ≠ 1 ∧ (loopAt u l).active ≠ 2) ∧
      u.ports = ((List.range 64).foldl faultSafe (invalidate s)).ports ∧ (∀ p, offer u p = none) ∧ u.clock = s.clock ∧ u.stor = s.stor) ∧
  (∀ (cycles : Nat) (s : State), isUp s = true → s.power.refFault = true →
    ∃ u, runs (.referenceRestart cycles) s u ∧ u.power.refFault = false ∧ u.clock.tick = s.clock.tick ∧ u.clock.ref = s.clock.ref ∧
      (∀ i, i < 2 → (pairAt s i).enabled = true → (pairAt u i).joinEnd = some (s.clock.tick + 2 * (pairAt s i).lease)) ∧
      u.loops = s.loops)

/-- While the firmware runs: CORE_SUPPLY_ADJUST completes with the core supply 10 mV higher where the mean of the speed index is
below 1.00, the supply below 0.90 V and the next step is due (10 µs after the last, or now, the later of the two), and 10 mV lower
where the mean is above 1.10, the supply above 0.60 V and the step is due (100 ms after the last, or now); the step's instant is
kept for the next; between the bounds nothing changes. HISTOGRAM_SAMPLE, in a new second, completes with one second more of
operating time in 2F10.01, its whole hours in 2F10.02 and no other entry changed but the three histograms and the failure times of
the paths. LIFETIME_FLUSH, 600 s of operating time after the last, completes as writing every lifetime entry to its record, and
the time of the flush is taken. DIE_TEMPERATURE_INJECT, a minute after the last with no bank's temperature fresh and room in the
inject queue of converter 0, completes with channel 10 injected there and no condition changed. -/
def Obligations.SpeedAndSupply : Prop :=
  (∀ (s : State) (sum n : Nat), speedMean s = (sum, n) → isUp s = true →
    (∀ t, sum < 1000 * n → s.power.coreMv < 900 → t = max s.clock.ref ((s.power.raiseAt.map (· + 240)).getD s.clock.ref) →
      dueRef s t = true → ∃ u, runs .coreSupplyAdjust s u ∧ u.power.coreMv = s.power.coreMv + 10 ∧ u.power.raiseAt = some t ∧
        u.ents = s.ents ∧ u.conds = s.conds) ∧
    (∀ t, 1100 * n < sum → 600 < s.power.coreMv → t = max s.clock.ref ((s.power.raiseAt.map (· + 2400000)).getD s.clock.ref) →
      dueRef s t = true → ∃ u, runs .coreSupplyAdjust s u ∧ u.power.coreMv = s.power.coreMv - 10 ∧ u.power.raiseAt = some t ∧
        u.ents = s.ents ∧ u.conds = s.conds) ∧
    (1000 * n ≤ sum → sum ≤ 1100 * n → exec .coreSupplyAdjust s = .next s)) ∧
  (∀ s : State, isUp s = true → s.entriesWf → s.health.lastSecond < s.clock.tick / 1000 →
    ∃ u, runs .histogramSample s u ∧ holds u 0x2F10 0x01 (getN s 0x2F10 0x01 + 1) ∧ holds u 0x2F10 0x02 ((getN s 0x2F10 0x01 + 1) / 3600) ∧
      u.health.lastSecond = s.clock.tick / 1000 ∧ u.conds = s.conds ∧
      onlyEntries [(0x2F10, 1), (0x2F10, 2), (0x2F08, 1), (0x2F08, 2), (0x2F08, 3), (0x2F14, 4), (0x2F15, 4), (0x2F16, 4), (0x2F17, 4)] s u) ∧
  (∀ (differs : Bool) (s : State), isUp s = true → hamperFree s = true → s.health.lastFlush + 600 ≤ getN s 0x2F10 0x01 →
    runs (.lifetimeFlush differs) s (flushLifetime (showDiffers s differs)) ∧
    (flushLifetime (showDiffers s differs)).health.lastFlush = getN s 0x2F10 0x01) ∧
  (∀ s : State, islandsRun s = true → freshBanks s = [] → s.health.dieInject + 60000 ≤ s.clock.tick → (convAt s 0).inject.length < 2 →
    ∃ v, v.health.dieInject = s.clock.tick ∧ v.ents = s.ents ∧ v.convs = s.convs ∧
      runs .dieTemperatureInject s (showConv (stageRequest v 0 true 10 s.clock.ref) 0))

/-- A replacement reason r that is not stored yet: the request stores it with the present device time, queues an event seal of
reason 5 (billing requests that wait for a place take one that is free) and raises 0xE010 + r; a reason already stored changes
nothing. While the firmware runs and the Hamper is free:
PATH_LOSS_TIMEOUT for a judged pair one of whose paths has failed for the loss time completes as judging reason 5 + i;
PATH_LOSS_CLEAR, with the reason stored and both paths good for the loss time, completes with 0xE015 + i no longer raised and no
other condition changed but those that page writes raise or clear; HEALTH_HOUR, in a new hour of operating time, completes with the criteria 0 to 4 judged in order on the
hour's indices, spare pages, error rate, drift and crystal deviation, and the hour taken. -/
def Obligations.HealthCriteria : Prop :=
  (∀ (r : Nat) (s : State), getBit s 0x2F00 0x02 r = true → replacement s r = s) ∧
  (∀ (r : Nat) (s : State), r < 7 → getBit s 0x2F00 0x02 r = false → raised (replacement s r) (0xE010 + r) = true ∧
    (replacement s r).kiln.queue = enterPlaces (contenders (queueEvent s.kiln.queue 5 (devTime s))) (queueEvent s.kiln.queue 5 (devTime s))) ∧
  (∀ (i : Nat) (s : State), isUp s = true → hamperFree s = true → i < 2 → pairJudged s i = true →
    (lostFor s (vAt s.health.failSince (2 * i) none) = true ∨ lostFor s (vAt s.health.failSince (2 * i + 1) none) = true) →
    runs (.pathLossTimeout i) s (if (getN s 0x2F01 0x08).testBit (5 + i) then replacement s (5 + i) else s)) ∧
  (∀ (i : Nat) (s : State), isUp s = true → hamperFree s = true → i < 2 → getBit s 0x2F00 0x02 (5 + i) = true →
    lostFor s (vAt s.health.passSince i none) = true →
    ∃ u, runs (.pathLossClear i) s u ∧ raised u (0xE015 + i) = false ∧ onlyConds ((0xE015 + i) :: storageConds) s u) ∧
  (∀ s : State, isUp s = true → hamperFree s = true → s.health.lastHour < getN s 0x2F10 0x01 / 3600 →
    ∃ v : State, v.conds = s.conds ∧ v.health.lastHour = getN s 0x2F10 0x01 / 3600 ∧
    runs .healthHour s (healthDay (judgeCriterion (judgeCriterion (judgeCriterion (judgeCriterion (judgeCriterion v
      0 (flt (getF v 0x2F00 0x06) (getF v 0x2F01 0x01)))
      1 (decide (sparesFree s * 100 < getN s 0x2F01 0x02 * 8192)))
      2 (dlt (toF64 (getF s 0x2F01 0x03)) (f64 (1000000000 * getN v 0x2F24 0x02 : Nat) (max (getN v 0x2F24 0x01) 10000000000))))
      3 (flt (getF s 0x2F01 0x04) (fabs (getF s 0x2901 0x06))))
      4 ((List.range 8).any fun k => driftStatus v k == 1))))

/-- For each of the 63 commands that bring a dictionary-protocol message: where the message is of the command's kind, is addressed
to the device and is no response, nothing waits, some code runs and there is a place for the answer, the command completes with
the message processed in the state that its reception leaves. Where the message is not of the command's kind, or no code runs,
nothing changes (the model's choice, log 1). -/
def Obligations.MessagesAreTaken : Prop :=
  ∀ (c : Instr) (m : KdpReq) (s : State), messageOf c = some m →
    (fits c s = true → takenNow s m = true → runs c s (processMsg (received s m) m)) ∧
    (fits c s = false → exec c s = .next s) ∧ (coreRuns s = false → exec c s = .next s)

/-- For each command that brings a write request: where the request passes the checks of R44, its pages are programmed and the
hardware reports no fault, the command completes. The audit entry of an A entry and the parameter-store copy of a P entry are
made, the entry takes the value, the unit does what the command's row says (Safety.lean lists it for every command: a session
opens, a mode is taken, a zone is boosted, a seal is requested and so on), and an expedited response with an empty payload is
sent. The mode of a port, a block of an update and a test write have statements of their own. -/
def Obligations.WriteRequestsTakeEffect : Prop :=
  ∀ (c : Instr) (m : KdpReq) (s x y : State) (r : Row), accepted c m s x r y →
    runs c s (okReply (rowEffect c (filed y (requesterOf x m) r m m.payload false)
      (setWritten (filed y (requesterOf x m) r m m.payload false) r m.index m.sub m.payload) (requesterOf x m)) m 0 [])

/-- For each command that brings a write request that is taken at once: a failed check of steps 1 to 10 completes with the abort
of its code; a page that cannot be programmed with 0x0802 and a fault of the hardware with 0x0801, in the state that programming
left. In that state the audit log, the seals and the seal queue are as they were, no entry has changed but those in which the storage
shows and counts page writes, and the stored value of the entry is the one that the writes issued before have left (where the copy in
use of its record lies in the slot of its sequence). A request whose requester has too many transfers or the tag of an open one is aborted with 0x0501 or 0x0702; in recovery an
index that is not served is aborted with 0x0101. Sending an abort writes nothing but the queues of the paths or of the service
port. -/
def Obligations.WriteRequestsAreRefused : Prop :=
  (∀ (c : Instr) (m : KdpReq) (s x : State), messageOf c = some m → fits c s = true → takenNow s m = true → m.op = 2 → x = received s m →
    (∀ code, transferAbort x (requesterOf x m) m.addr.tag = some code → runs c s (abortReply x m code)) ∧
    (transferAbort x (requesterOf x m) m.addr.tag = none → indexServed x m.index = false → runs c s (abortReply x m 0x0101)) ∧
    (mayProceed x m →
      (∀ code, judged x m = .error code → runs c s (abortReply x m code)) ∧
      (∀ r y z, judged x m = .ok r → z = marked (loadTape x (bitList m.badPage)) m →
        (programWrite z (requesterOf x m) r m m.payload = (false, y) → runs c s (abortReply y m 0x0802)) ∧
        (programWrite z (requesterOf x m) r m m.payload = (true, y) → m.hwFault = true → runs c s (abortReply y m 0x0801))))) ∧
  (∀ (z y d : State) (who : Requester) (r : Row) (m : KdpReq) (v : Bytes) (b : Bool), programWrite z who r m v = (b, y) →
    d = (if r.isA || r.isP then drainTo z 4 else z) →
    y.audit = z.audit ∧ y.kiln = z.kiln ∧ y.stor.journal = z.stor.journal ∧ onlyEntries storageEntries z y ∧ onlyConds storageConds z y ∧
    (∀ q, q = recFind d.stor.recs (keyOf m.index m.sub) → (q.use = 1 → q.seqInUse.toNat % 2 = 0) → (q.use = 2 → q.seqInUse.toNat % 2 = 1) →
      recValue y (keyOf m.index m.sub) = recValue d (keyOf m.index m.sub))) ∧
  (∀ (x : State) (m : KdpReq) (code : Nat) (p : Part), p ≠ .servicePort → p ≠ .paths → p.same x (abortReply x m code)) ∧
  (∀ (x : State) (who : Requester) (tag : Nat),
    ((transferOf x who tag).isSome = true → transferAbort x who tag = some 0x0702) ∧
    (transferOf x who tag = none → (4 ≤ (x.kdp.transfers.filter fun t => t.who == who).length ∨ 16 ≤ x.kdp.transfers.length) →
      transferAbort x who tag = some 0x0501))

/-- For every entry, value and requester: an index that is not implemented gives 0x0101; then a subindex that is not, 0x0102; then
an entry whose access allows no write, 0x0201; then an X entry without the expert flag, 0x0203; then a length the entry cannot
hold, 0x0301; then type, range and value; then an M entry outside a session of the requester, 0x0402; then, while the Hamper takes
no writes, an entry that needs one, 0x0401; then what the unit's state refuses; then an entry on which a segmented write is open,
0x0403, which an inject entry never answers; a code of step 10 (0x05..) comes after that. With none of them the row of the entry is the
answer. -/
def Obligations.ChecksGoInOrder : Prop :=
  ∀ (s : State) (who : Requester) (i j : Nat) (v : Bytes) (expert taken : Bool),
    (objAt i = none → checkWrite s who i j v expert taken = .error 0x0101) ∧
    (∀ o k, objAt i = some (o, k) →
      (findRow o.rows j = none → checkWrite s who i j v expert taken = .error 0x0102) ∧
      (∀ r, findRow o.rows j = some r →
        ((r.acc = .ro ∨ r.acc = .const) → checkWrite s who i j v expert taken = .error 0x0201) ∧
        (r.acc ≠ .ro → r.acc ≠ .const →
          (r.isX = true → expert = false → checkWrite s who i j v expert taken = .error 0x0203) ∧
          ((r.isX = true → expert = true) →
            (lengthFits r v.length = false → checkWrite s who i j v expert taken = .error 0x0301) ∧
            (lengthFits r v.length = true →
              (∀ e, typeAbort r v = some e → checkWrite s who i j v expert taken = .error e) ∧
              (∀ e, typeAbort r v = none → rangeAbort r v = some e → checkWrite s who i j v expert taken = .error e) ∧
              (∀ e, typeAbort r v = none → rangeAbort r v = none → valueAbort s i j v = some e →
                checkWrite s who i j v expert taken = .error e) ∧
              (typeAbort r v = none → rangeAbort r v = none → valueAbort s i j v = none →
                (r.isM = true → s.cal.owner ≠ some who → checkWrite s who i j v expert taken = .error 0x0402) ∧
                ((r.isM = true → s.cal.owner = some who) →
                  (hamperFree s = false → needsHamper i j r = true → checkWrite s who i j v expert taken = .error 0x0401) ∧
                  ((hamperFree s = true ∨ needsHamper i j r = false) →
                    (∀ e, stateAbort s who i j v = some e → (taken = false ∨ injectEntry i j = true) →
                      checkWrite s who i j v expert taken = .error e) ∧
                    (∀ e, stateAbort s who i j v = some e → taken = true → injectEntry i j = false →
                      checkWrite s who i j v expert taken = .error (if e / 256 = 5 then 0x0403 else e)) ∧
                    (stateAbort s who i j v = none → taken = true → injectEntry i j = false →
                      checkWrite s who i j v expert taken = .error 0x0403) ∧
                    (stateAbort s who i j v = none → (taken = false ∨ injectEntry i j = true) →
                      checkWrite s who i j v expert taken = .ok r)))))))))

/-- For each command that brings a read request that is taken at once: a value of at most 56 bytes (52 with a route extension)
completes with an expedited response that holds it; a longer one with the length and the CRC-32C and an open segmented read, or
with 8 segmented transfers open with the abort 0x0501; a refusal with the abort of its code. An index that is not implemented is refused
with 0x0101, and an entry that is in no snapshot group, is no page inspection and no seal and has no page behind it reads its value on
the wire and changes no entry. One whose pages prove uncorrectable is refused with 0x0802, but for a window of learning cells. A read of
2F00.0A leaves 0x0004 not raised and no other condition changed, and clears advisory bit 3. A read of 2E20.02 returns the bytes of the
selected page where it can be read. -/
def Obligations.ReadsAnswer : Prop :=
  (∀ (c : Instr) (m : KdpReq) (s x z : State), messageOf c = some m → fits c s = true → takenNow s m = true → m.op = 1 →
    x = received s m → mayProceed x m →
    (∀ v, kdpRead x (requesterOf x m) m.index m.sub m.ecc = (.ok v, z) → v.length ≤ (if m.addr.routed then 52 else 56) →
      runs c s (okReply z m 16 v)) ∧
    (∀ v, kdpRead x (requesterOf x m) m.index m.sub m.ecc = (.ok v, z) → (if m.addr.routed then 52 else 56) < v.length →
      (z.kdp.transfers.length < 8 → runs c s (openTransfer (okReply z m 0 (leBytes 4 v.length ++ leBytes 4 (crc32c v).toNat))
        (exchange z m (.reading v 0 0 (windowLimit m.payload))))) ∧
      (8 ≤ z.kdp.transfers.length → runs c s (abortReply x m 0x0501))) ∧
    (∀ code, kdpRead x (requesterOf x m) m.index m.sub m.ecc = (.error code, z) → runs c s (abortReply z m code))) ∧
  (∀ (s : State) (who : Requester) (i j ecc : Nat), groupMembersOf i j = [] →
    (objAt i = none → (kdpRead s who i j ecc).1 = .error 0x0101) ∧
    (¬(i = 0x2E20 ∧ j = 2) → ¬(i = 0x2F00 ∧ j = 0x0A) → readsSeal i j = false → pagesBehind (expireSnaps s) i j = [] →
      (kdpRead s who i j ecc).1 = readWire (expireSnaps s) who i j ∧ (kdpRead s who i j ecc).2.ents = s.ents ∧
      (kdpRead s who i j ecc).2.conds = s.conds) ∧
    (∀ x v, x = { expireSnaps s with used := s.used + 1 } → ¬(i = 0x2E20 ∧ j = 2) → readWire (expireSnaps s) who i j = .ok v →
      pagesBehind (expireSnaps s) i j ≠ [] →
      ((readRuns (pagesBehind (expireSnaps s) i j) (loadShows x ecc)).1 = false → (kdpRead s who i j ecc).1 = .ok v) ∧
      ((readRuns (pagesBehind (expireSnaps s) i j) (loadShows x ecc)).1 = true → ¬(0x2500 ≤ i ∧ i < 0x2560) →
        (kdpRead s who i j ecc).1 = .error 0x0802))) ∧
  (∀ (s z : State) (who : Requester) (ecc : Nat) (v : Bytes), kdpRead s who 0x2F00 0x0A ecc = (.ok v, z) → s.entriesWf →
    raised z 0x0004 = false ∧ onlyConds [0x0004] s z ∧ holds z 0x2F00 3 (putBit (getN s 0x2F00 3) 3 false) ∧
      onlyEntries [(0x2F00, 3)] s z) ∧
  (∀ (s : State) (who : Requester) (ecc : Nat), eccBad ecc = false →
    (kdpRead s who 0x2E20 2 ecc).1 = .ok (pageBytes (expireSnaps s) (getN s 0x2E20 1)))

/-- A readable first member freezes its group for the requester: the requester's live snapshot holds every member as read at that
instant. While it is live a read of another member returns the frozen value, and the read of the last member ends it with nothing
remembered. With no live snapshot a member other than the first is refused with 0x0702 after an eviction and with 0x0701 after an
expiry. SNAPSHOT_EXPIRY, with a snapshot of 250 ms or more, completes with exactly the younger ones live. At reset and after every
command at most 8 snapshots are live. With 8 live, a freeze by a requester that holds none of the group ends the one with the
earliest freeze instant, which is remembered as evicted, and no other. A read-snapshot of a first member returns all members in order and changes no snapshot; of another member it is refused
with 0x0303; its commands answer the value or the abort. -/
def Obligations.SnapshotGroups : Prop :=
  (∀ (s : State) (who : Requester) (i j ecc : Nat) (v : Bytes), groupMembersOf i j ≠ [] → groupKey (groupMembersOf i j) = keyOf i j →
    readWire (expireSnaps s) who i j = .ok v →
    (kdpRead s who i j ecc).1 = .ok v ∧
    (snapOf (kdpRead s who i j ecc).2 who (keyOf i j)) = some ⟨who, keyOf i j,
      (groupMembersOf i j).map (memberValue (expireSnaps s) who), s.clock.ref, s.clock.tick⟩ ∧
    ((expireSnaps s).kdp.snaps.length = 8 → snapOf (expireSnaps s) who (keyOf i j) = none → ∀ x,
      lowestBy (·.frozen) (expireSnaps s).kdp.snaps = some x → (⟨x.who, x.group, true⟩ : SnapEnd) ∈ (kdpRead s who i j ecc).2.kdp.ended ∧
        ((x.who, x.group) ≠ (who, keyOf i j)) ∧ (∀ y ∈ (kdpRead s who i j ecc).2.kdp.snaps, (y.who, y.group) ≠ (x.who, x.group)) ∧
        ∀ y ∈ (expireSnaps s).kdp.snaps, (y.who, y.group) ≠ (x.who, x.group) → y ∈ (kdpRead s who i j ecc).2.kdp.snaps) ∧
    ((expireSnaps s).kdp.snaps.length ≤ 8 → (kdpRead s who i j ecc).2.kdp.snaps.length ≤ 8)) ∧
  State.reset.kdp.snaps.length ≤ 8 ∧
  (∀ (c : Instr) (s t : State), s.kdp.snaps.length ≤ 8 → Sys2Proof.Machine.exec c s = .next t → t.kdp.snaps.length ≤ 8) ∧
  (∀ (s : State) (who : Requester) (i j ecc : Nat) (x : Snap), groupMembersOf i j ≠ [] → groupKey (groupMembersOf i j) ≠ keyOf i j →
    snapOf (expireSnaps s) who (groupKey (groupMembersOf i j)) = some x →
    (kdpRead s who i j ecc).1 = .ok (frozenValue x (groupMembersOf i j) (i, j)) ∧
    ((groupMembersOf i j).getLast? = some (i, j) → snapOf (kdpRead s who i j ecc).2 who (groupKey (groupMembersOf i j)) = none)) ∧
  (∀ (s : State) (who : Requester) (i j ecc : Nat) (e : SnapEnd), groupMembersOf i j ≠ [] → groupKey (groupMembersOf i j) ≠ keyOf i j →
    snapOf (expireSnaps s) who (groupKey (groupMembersOf i j)) = none →
    (expireSnaps s).kdp.ended.find? (fun e => e.who == who && e.group == groupKey (groupMembersOf i j)) = some e →
    (kdpRead s who i j ecc).1 = .error (if e.evicted then 0x0702 else 0x0701)) ∧
  (∀ s : State, coreRuns s = true → (∃ x ∈ s.kdp.snaps, x.tick + 250 ≤ s.clock.tick) →
    ∃ u, runs .snapshotExpiry s u ∧ u.kdp.snaps = s.kdp.snaps.filter (fun x => decide (s.clock.tick < x.tick + 250)) ∧ u.ents = s.ents) ∧
  (∀ (s : State) (who : Requester) (i j ecc : Nat) (v : Bytes), groupMembersOf i j ≠ [] → readWire (expireSnaps s) who i j = .ok v →
    (groupKey (groupMembersOf i j) ≠ keyOf i j → (kdpSnapshot s who i j ecc).1 = .error 0x0303) ∧
    (groupKey (groupMembersOf i j) = keyOf i j →
      (kdpSnapshot s who i j ecc).1 = .ok ((groupMembersOf i j).map (memberValue (expireSnaps s) who)).flatten) ∧
    (kdpSnapshot s who i j ecc).2.kdp.snaps = (expireSnaps s).kdp.snaps) ∧
  (∀ (m : KdpReq) (s x z : State), m.op = 3 → takenNow s m = true → x = received s m → mayProceed x m →
    (∀ v, kdpSnapshot x (requesterOf x m) m.index m.sub m.ecc = (.ok v, z) → runs (.readSnapshot m) s (valueReply x z m 16 v)) ∧
    (∀ code, kdpSnapshot x (requesterOf x m) m.index m.sub m.ecc = (.error code, z) → runs (.readSnapshot m) s (abortReply z m code)))

/-- A describe request that is taken at once completes with a 10-byte description of the entry: type code, access code,
attributes, a zero byte, the greatest length in four bytes and the snapshot group number in two; an index or subindex that is not
implemented is aborted with 0x0101 or 0x0102. A request with an OP that is not in the table completes with the abort 0x0303
whatever its index. -/
def Obligations.DescribeAndUnknown : Prop :=
  (∀ (m : KdpReq) (s x : State), m.op = 8 → takenNow s m = true → x = received s m → mayProceed x m →
    (objAt m.index = none → runs (.describe m) s (abortReply x m 0x0101)) ∧
    (∀ o k, objAt m.index = some (o, k) →
      (findRow o.rows m.sub = none → runs (.describe m) s (abortReply x m 0x0102)) ∧
      (∀ r, findRow o.rows m.sub = some r → runs (.describe m) s (okReply x m 0 ([byte r.ty.code, byte r.acc.code, byte r.attrs, 0]
        ++ leBytes 4 r.maxLen ++ leBytes 2 (groupNumberOf m.index m.sub)))))) ∧
  (∀ (m : KdpReq) (s x : State), (m.op = 0 ∨ (8 < m.op ∧ m.op ≠ 0x10)) → takenNow s m = true → x = received s m →
    transferAbort x (requesterOf x m) m.addr.tag = none → runs (.unknownOp m) s (abortReply x m 0x0303))

/-- A write initiate that is taken at once completes with the abort of the check that fails, or else with the window granted and a
segmented write open that expects segment 1. For an open segmented write, a segment message that is taken at once completes: out
of order, it is discarded, and the first such of each window is acknowledged at once with the last segment in order; in order and
not final, its payload is appended, and the segment that fills the window is acknowledged; in order and final, the transfer ends,
and the final acknowledgement carries 0x0601 for a wrong CRC (or for bytes that are not the total announced, the model's choice,
log 100), the code of the first check of R44 that fails, or 0 with the whole value written as a write request writes it. -/
def Obligations.SegmentedWrites : Prop :=
  (∀ (m : KdpReq) (s x : State), m.op = 4 → takenNow s m = true → x = received s m → mayProceed x m →
    (∀ code, initiateCode x (requesterOf x m) m = some code → runs (.writeInitiate m) s (abortReply x m code)) ∧
    (initiateCode x (requesterOf x m) m = none → runs (.writeInitiate m) s
      (openTransfer (okReply x m 0 [byte (getN x 0x1010 2)]) (exchange x m (.writing (fieldN m.payload 0 4)
        (BitVec.ofNat 32 (fieldN m.payload 4 4)) [] 1 (getN x 0x1010 2) 0 x.clock.tick none))))) ∧
  (∀ (c : Instr) (m : KdpReq) (s x : State) (t : Transfer) (total next window since last : Nat) (crc : BitVec 32) (got : Bytes)
    (gap : Option (Nat × Nat)), messageOf c = some m → fits c s = true → takenNow s m = true → m.op = 5 → x = received s m →
    transferOf x (requesterOf x m) m.addr.tag = some t → t.kind = .writing total crc got next window since last gap →
    (ahead m.seq next ≠ 0 → sameWindow gap (ahead m.seq next) = true → runs c s (updTransfer x t.who t.addr.tag fun z =>
      { rearm x z with kind := .writing total crc got next window 0 x.clock.tick (gap.map fun g => (ahead m.seq next, g.2)) })) ∧
    (ahead m.seq next = 0 → m.addr.flags.testBit 4 = false → since + 1 < window → runs c s (updTransfer x t.who t.addr.tag fun z =>
      { rearm x z with kind := .writing total crc (got ++ m.payload) (next + 1) window (since + 1) x.clock.tick none })) ∧
    (ahead m.seq next ≠ 0 → sameWindow gap (ahead m.seq next) = false →
      ∃ a, a = sendFor x t 6 0 ((next - 1) % 256) 4 [byte (getN x 0x1010 2)] ∧ runs c s (updTransfer a t.who t.addr.tag fun z =>
        { rearm a z with
          kind := .writing total crc got next (getN x 0x1010 2) 0 x.clock.tick (some (ahead m.seq next, if gap.isSome then getN x 0x1010 2 else window - since)) })) ∧
    (ahead m.seq next = 0 → m.addr.flags.testBit 4 = false → window ≤ since + 1 →
      ∃ a, a = sendFor x t 6 0 m.seq 4 [byte (getN x 0x1010 2)] ∧ runs c s (updTransfer a t.who t.addr.tag fun z =>
        { rearm a z with kind := .writing total crc (got ++ m.payload) (next + 1) (getN x 0x1010 2) 0 x.clock.tick none })) ∧
    (ahead m.seq next = 0 → m.addr.flags.testBit 4 = true → ∃ y v q, y = closeTransfer x t.who t.addr.tag ∧ v = got ++ m.payload ∧
      q = { m with index := t.index, sub := t.sub, addr := { m.addr with flags := t.addr.flags } } ∧
      (crc32c v ≠ crc ∨ v.length ≠ total → runs c s (finalAck y t m.seq 0x0601)) ∧
      (v.length = total → crc32c v = crc →
        (∀ code z, kdpWrite y t.who q v t.addr.expert true (entryTaken y t.index t.sub) = (code, z) →
          (code ≠ 0 ∨ isPortMode t.index t.sub = false) → runs c s (finalAck z t m.seq code)))))

/-- SEGMENT_ACKNOWLEDGEMENT for an open segmented read that is taken at once: one that names the last segment ends the transfer,
and where the entry is an attestation statement the requester gives it up (ATTESTATION_STATEMENT_READ); one before it sends the
segments of the next window; one beyond what was sent changes nothing. SEGMENT_WAIT_TIMEOUT, 20 ms after the last segment in order
with none acknowledged since, completes with one acknowledgement for the window. TRANSFER_TIMEOUT, at the deadline, completes with
the transfer and its queued bus frames gone and an abort-transfer message with 0x0701 sent, before waiting messages are taken.
ABORT_TRANSFER that is taken at once discards the transfer without an answer, and without such a transfer changes nothing more
than its reception. -/
def Obligations.TransfersEnd : Prop :=
  (∀ (c : Instr) (m : KdpReq) (s x : State) (t : Transfer) (v : Bytes) (acked sent limit n : Nat), messageOf c = some m → fits c s = true →
    takenNow s m = true → m.op = 6 → x = received s m → transferOf x (requesterOf x m) m.addr.tag = some t →
    t.kind = .reading v acked sent limit → n = acked + (m.seq + 256 - acked % 256) % 256 →
    (sent < n → runs c s x) ∧
    (n ≤ sent → segmentCount t v.length ≤ n → runs c s (if t.index = 0x2C10 ∧ t.sub = 3 then
      dropStatement (closeTransfer x t.who t.addr.tag) t.who else closeTransfer x t.who t.addr.tag)) ∧
    (n ≤ sent → n < segmentCount t v.length → ∃ a last, last = min (n + (if m.payload.isEmpty then limit else min limit (fieldN m.payload 0 1)))
        (segmentCount t v.length) ∧ a = sendSegments x t v (n + 1) last ∧
      runs c s (updTransfer a t.who t.addr.tag fun z => { rearm x z with kind := .reading v n (max sent last) limit }))) ∧
  (∀ (who : Requester) (tag : Nat) (s : State) (t : Transfer) (total next window since last : Nat) (crc : BitVec 32) (got : Bytes),
    coreRuns s = true → transferOf s who tag = some t → t.kind = .writing total crc got next window since last none → 0 < since →
    last + 20 ≤ s.clock.tick → runs (.segmentWaitTimeout who tag) s
      (updTransfer (sendFor s t 6 0 ((next - 1) % 256) 4 [byte (getN s 0x1010 2)]) who tag fun z =>
        { z with kind := .writing total crc got next (getN s 0x1010 2) 0 last none })) ∧
  (∀ (who : Requester) (tag : Nat) (s : State) (t : Transfer), coreRuns s = true → transferOf s who tag = some t →
    t.deadline ≤ s.clock.tick → transferOf (dropTransfer s who tag) who tag = none ∧
    (dropTransfer s who tag).kdp.transfers = s.kdp.transfers.filter (fun z => !isTransfer who tag z) ∧
    runs (.transferTimeout who tag) s (drainWait (sendFor (dropTransfer s who tag) t 7 0 0 4 [0x01, 0x07]))) ∧
  (∀ (m : KdpReq) (s x : State), m.op = 7 → takenNow s m = true → x = received s m →
    ((transferOf x (requesterOf x m) m.addr.tag).isSome = true → runs (.abortTransfer m) s (dropTransfer x (requesterOf x m) m.addr.tag)) ∧
    (transferOf x (requesterOf x m) m.addr.tag = none → runs (.abortTransfer m) s x))

/-- While some code runs, SERVICE_PORT_SELECTION completes. The oldest queued frame leaves where the host clocks as many bytes as
it has, and the frames that wait for a place fill the 16 places; then waiting messages are taken. A frame that the device sends is
never discarded: beyond 16 queued frames it waits for a place. With no start byte in the selection nothing more happens. A frame whose length and CRC
hold is received as the message it holds; any other is discarded: its instant is noted with those of the last second, and with 10
of them 0x0012 is raised and no other condition changes. -/
def Obligations.ServicePort : Prop :=
  (∀ (bytes : Bytes) (badPage ecc : Nat) (hwFault : Bool) (s a : State), coreRuns s = true → a = drainWait (serviceShift s bytes.length) →
    (fromStart bytes = [] → runs (.servicePortSelection bytes badPage hwFault ecc) s a) ∧
    (fromStart bytes ≠ [] → serviceFrameGood (fromStart bytes) = true →
      runs (.servicePortSelection bytes badPage hwFault ecc) s (receiveMsg a (serviceMsg (fromStart bytes) badPage hwFault ecc))) ∧
    (fromStart bytes ≠ [] → serviceFrameGood (fromStart bytes) = false →
      runs (.servicePortSelection bytes badPage hwFault ecc) s (serviceDiscard a))) ∧
  (∀ (s : State) (n : Nat) (f : Frame) (r : List Frame), s.kdp.serviceQ = f :: r →
    ((serviceBytes f).length ≤ n → (serviceShift s n).kdp.serviceQ = r ++ s.kdp.serviceWait.take (16 - r.length) ∧
      (serviceShift s n).kdp.serviceWait = s.kdp.serviceWait.drop (16 - r.length)) ∧
    (n < (serviceBytes f).length → serviceShift s n = s) ∧ (serviceShift s n).ents = s.ents) ∧
  (∀ (s : State) (f : Frame), s.kdp.serviceQ.length ≤ 16 → (pushService s f).kdp.serviceQ.length ≤ 16 ∧
    (pushService s f).kdp.serviceQ ++ (pushService s f).kdp.serviceWait = s.kdp.serviceQ ++ s.kdp.serviceWait ++ [f]) ∧
  (∀ s : State, onlyConds [0x0012] s (serviceDiscard s) ∧ (serviceDiscard s).ents = s.ents ∧
    (9 ≤ (s.kdp.discards.filter fun t => decide (s.clock.tick < t + 1000)).length → raised (serviceDiscard s) 0x0012 = true) ∧
    ((s.kdp.discards.filter fun t => decide (s.clock.tick < t + 1000)).length < 9 → raised (serviceDiscard s) 0x0012 = raised s 0x0012))

/-- A frame that map n sends, where it finds a place in the queue, waits there; it takes the present tick as the map's last transmission
and the change item's present value as the last one sent, and moves its tag count on. Where it finds none it is dropped and counted
in 1108+p.0C with 0xA090 + p raised, and nothing has been transmitted. Either way the deferral is over. A frame counts in 1200+n.0B when
its transmission completes. A trigger of a live map sends at once, or while the inhibit time runs is deferred and counted in 20; a map
that is not live ignores it. PUBLICATION_PERIOD_TRIGGER, when a further period has passed, completes as one trigger;
PUBLICATION_CHANGE_TRIGGER, with the change item beyond the threshold and no deferral, completes as one trigger; INHIBIT_TIME_END, with a
deferred trigger and the inhibit time over, completes as one transmission. After every command the condition events that it noted fire the
maps whose event mask has them, once, and are forgotten. -/
def Obligations.PublicationsFire : Prop :=
  (∀ (n p : Nat) (s : State), n < 64 → p = sendPath s 0 → p < 4 → s.entriesWf → (pubAt (pubSend s n) n).deferred = false ∧
    (pubPlace s 0 n = true → (pubAt (pubSend s n) n).lastTx = some s.clock.tick ∧
      (pubAt (pubSend s n) n).lastValue = (changeValue s n).map (·.2.2) ∧ (pubAt (pubSend s n) n).count = (pubTag s n + 1) % 256 ∧
      (pathAt (pubSend s n) p).queue.any (isPub n) = true ∧ (pubSend s n).ents = s.ents ∧ (pubSend s n).conds = s.conds) ∧
    (pubPlace s 0 n = false → (pubAt (pubSend s n) n).lastTx = (pubAt s n).lastTx ∧
      (pubAt (pubSend s n) n).lastValue = (pubAt s n).lastValue ∧ (pubAt (pubSend s n) n).count = (pubAt s n).count ∧
      (pubSend s n).bus = s.bus ∧ holds (pubSend s n) (0x1108 + p) 0x0C (getN s (0x1108 + p) 0x0C + 1) ∧
      onlyEntries [(0x1108 + p, 0x0C)] s (pubSend s n) ∧ raised (pubSend s n) (0xA090 + p) = true ∧
      onlyConds [0xA090 + p] s (pubSend s n))) ∧
  (∀ (n p sof delay : Nat) (f : Frame) (s : State), n < 64 → p < 4 → f.kind = .publication n → s.entriesWf →
    holds (frameDone s p (.inr f) sof delay) (0x1200 + n) 0x0B (getN s (0x1200 + n) 0x0B + 1)) ∧
  (∀ (n : Nat) (s : State), n < 64 → s.entriesWf →
    (pubLive s n = false → pubFire s n = s) ∧ (pubLive s n = true → inhibited s n = false → pubFire s n = pubSend s n) ∧
    (pubLive s n = true → inhibited s n = true → (pubAt (pubFire s n) n).deferred = true ∧
      holds (pubFire s n) (0x1200 + n) 0x20 (getN s (0x1200 + n) 0x20 + 1) ∧ (pubFire s n).bus = s.bus)) ∧
  (∀ (n : Nat) (s : State), triggers s n 0 = true → (pubAt s n).fired < periodsPassed s n →
    ∃ v, runs (.publicationPeriodTrigger n) s (pubFire v n) ∧ (pubAt v n).fired = periodsPassed s n ∧ v.ents = s.ents ∧ v.bus = s.bus) ∧
  (∀ (n : Nat) (s : State), triggers s n 1 = true → pubLive s n = true → (pubAt s n).deferred = false → changed s n = true →
    runs (.publicationChangeTrigger n) s (pubFire s n)) ∧
  (∀ (n : Nat) (s : State), n < 64 → pubLive s n = true → (pubAt s n).deferred = true → inhibited s n = false →
    runs (.inhibitTimeEnd n) s (pubSend s n)) ∧
  (∀ s : State, (flushEvents s).kdp.events = 0 ∧ (s.kdp.events = 0 → flushEvents s = s) ∧
    ((∀ n, n < 64 → eventHits s n = false) → (flushEvents s).ents = s.ents ∧ (flushEvents s).bus = s.bus))

/-- PUBLICATION_RECEIVED completes: the frame is received on its path; a duplicate, a short frame or one that is no publication
does no more; else every matching map takes it in ascending order, and a bridge passes it on. A map whose content version or
length differs goes to state 4 and raises 0x0011, 0x0010 stays as it was, and no other entry changes; one that agrees is in state 2, is
counted in 09, and the items of its list are written in order as writes of the device itself, a refused one counted in 0A. SUBSCRIPTION_TIMEOUT of an enabled map not in state 3 whose
last publication is its reception timeout or more away completes with the map in state 3 and 0x0010 raised. -/
def Obligations.SubscriptionsWrite : Prop :=
  (∀ (f : RxFrame) (badPage svc : Nat) (hwFault : Bool) (s x : State), svc = (if isService f 6 then 6 else 2) →
    (receiveFrame s f svc = (false, x) → runs (.publicationReceived f badPage hwFault) s x) ∧
    (receiveFrame s f svc = (true, x) →
      ((f.data.length < 8 + fieldN f.data 6 2 ∨ fieldN f.data 0 1 ≠ 0x10 ∨ fieldN f.data 1 1 &&& 0x16 ≠ 0) →
        runs (.publicationReceived f badPage hwFault) s x) ∧
      (¬(f.data.length < 8 + fieldN f.data 6 2 ∨ fieldN f.data 0 1 ≠ 0x10 ∨ fieldN f.data 1 1 &&& 0x16 ≠ 0) →
        ∀ seg, seg = (if svc = 6 then fieldN f.data 4 2 else (pairAt x (f.path / 2)).segment) →
        runs (.publicationReceived f badPage hwFault) s (forwardPublication ((List.range 64).foldl (fun a n =>
          if subTakes a n (f.path / 2) seg (idSrc f.id) (fieldN f.data 2 1) then
            subReceive badPage hwFault a n (fieldN f.data 3 1) ((f.data.drop 8).take (fieldN f.data 6 2)) else a) x) (f.path / 2) f seg)))) ∧
  (∀ (badPage version n total : Nat) (hwFault : Bool) (s : State) (v : Bytes), n < 64 → s.entriesWf →
    total = (mapItems s (0x1240 + n) 0x07).foldl (fun a it => a + it.2.2) 0 →
    ((version ≠ getN s (0x1240 + n) 5 ∨ v.length ≠ total) →
      holds (subReceive badPage hwFault s n version v) (0x1240 + n) 8 4 ∧ raised (subReceive badPage hwFault s n version v) 0x0011 = true ∧
      onlyConds [0x0011] s (subReceive badPage hwFault s n version v) ∧
      onlyEntries [(0x1240 + n, 8)] s (subReceive badPage hwFault s n version v)) ∧
    (version = getN s (0x1240 + n) 5 → v.length = total → ∀ x, x = writeItems badPage hwFault (0x1240 + n)
        (mapItems s (0x1240 + n) 0x07) v (updSub s n fun y => { y with last := s.clock.tick }) →
      holds (subReceive badPage hwFault s n version v) (0x1240 + n) 8 2 ∧
      holds (subReceive badPage hwFault s n version v) (0x1240 + n) 9 (getN x (0x1240 + n) 9 + 1) ∧
      onlyEntries [(0x1240 + n, 8), (0x1240 + n, 9)] x (subReceive badPage hwFault s n version v))) ∧
  (∀ (badPage b c : Nat) (hwFault : Bool) (it : Nat × Nat × Nat) (l : List (Nat × Nat × Nat)) (v : Bytes) (s y : State),
    kdpWrite s .device (itemReq it (v.take it.2.2) badPage hwFault) (v.take it.2.2) false false (entryTaken s it.1 it.2.1) = (c, y) →
    writeItems badPage hwFault b (it :: l) v s = writeItems badPage hwFault b l (v.drop it.2.2) (if c = 0 then y else addN y b 0x0A 1)) ∧
  (∀ (n : Nat) (s : State), isUp s = true → n < 64 → s.entriesWf → getB s (0x1240 + n) 1 = true → 0 < getN s (0x1240 + n) 6 →
    getN s (0x1240 + n) 8 ≠ 3 → (subAt s n).last + getN s (0x1240 + n) 6 ≤ s.clock.tick →
    ∃ u, runs (.subscriptionTimeout n) s u ∧ holds u (0x1240 + n) 8 3 ∧ raised u 0x0010 = true ∧ onlyConds [0x0010] s u ∧
      onlyEntries [(0x1240 + n, 8)] s u)

/-- An accepted write of a port's mode completes without an answer: the port waits 2 ms and meanwhile no message is taken.
PORT_MODE_ENABLE, 2 ms after, completes with the mode enabled and the response sent, before waiting messages are taken. An
accepted block of an update completes with the response, or with the abort the update gives. An accepted test write completes with
the response and its audit entry, or aborts with 0x0802 where the page does not read back. -/
def Obligations.SpecialWrites : Prop :=
  (∀ (c : Instr) (m : KdpReq) (s x y : State) (r : Row) (who : Requester), messageOf c = some m → fits c s = true → takenNow s m = true →
    m.op = 2 → x = received s m → mayProceed x m → judged x m = .ok r → who = requesterOf x m →
    programWrite (marked (loadTape x (bitList m.badPage)) m) who r m m.payload = (true, y) → m.hwFault = false →
    (isPortMode m.index m.sub = true → runs c s (commitWrite y who r m m.payload false) ∧
      (portAt (commitWrite y who r m m.payload false) (m.index - 0x2000)).modeAt.isSome = true ∧
      modePending (commitWrite y who r m m.payload false) = true) ∧
    (m.index = 0x2D10 → m.sub = 2 → (∀ z, writeBlock y m.payload = (none, z) → runs c s (okReply z m 0 [])) ∧
      (∀ code z, writeBlock y m.payload = (some code, z) → code ≠ 0 → runs c s (abortReply z m code))) ∧
    (m.index = 0x2E10 → m.sub = 1 →
      (∀ z, testWrite y m.payload = (true, z) →
        runs c s (okReply (placeAudit z who 1 m.index m.sub (auditFlags m false) m.payload) m 0 [])) ∧
      (∀ z, testWrite y m.payload = (false, z) → runs c s (abortReply z m 0x0802)))) ∧
  (∀ (n t : Nat) (m : KdpReq) (s a : State), isUp s = true → s.power.refFault = false → (portAt s n).modeAt = some t → t ≤ s.clock.tick →
    (portAt s n).modeReq = some m → a = judgePwmSources (modeEnable s n) →
    runs (.portModeEnable n) s (drainWait
      (if m.op = 5 then finalAck a (exchange a m (.reading [] 0 0 0)) m.seq 0 else okReply a m 0 [])))

/-- While the firmware runs and the controller may take the write (outside a warning and a reset entry any, in them only a journal
write): for the pending write of the lowest class, the oldest first, HAMPER_PAGE_WRITE completes and the write is no longer
pending. With the region's own writer and pages that read back right (the first from the operand, the rest from what is known of the
coming read-backs), byte k of the data is read at the target's address plus k and every other byte of memory reads as before; a record
(other than the page counts' own) holds the data and leaves memory as it was; so does a learning cell, and takes its two values; the remap
table stays. A writer that does not own the region stores nothing: memory and records are as they were, 0x0004 is raised, 2F00.0A holds
the writer and the address, and advisory bit 3 is set. Where the first page reads back otherwise and the rest do not, its data goes to the
next free spare page with 0xC021; with none free nothing is stored and 0xC031 is raised. -/
def Obligations.PageWritesLand : Prop :=
  ∀ (differs : Bool) (s : State) (p : PendWrite), isUp s = true → nextPend s = some p → (hamperFree s = true ∨ p.cls = 0) →
    s.stor.tape = [] →
    ∃ u, runs (.hamperPageWrite differs) s u ∧ u.stor.pend = s.stor.pend.erase p ∧
      (targetWriter p.target = p.writer → s.memoryWf → (differs = false ∨ sparesFree s ≠ 0) →
        (∀ a d, p.target = .bytes a d → (∀ k, k < d.length → memRead u.stor.mem (a + k) = d.getD k 0) ∧
          (∀ b, (b < a ∨ a + d.length ≤ b) → memRead u.stor.mem b = memRead s.stor.mem b)) ∧
        (∀ id d, p.target = .record id d → u.stor.mem = s.stor.mem ∧
          ((∀ r, r < 10 → id ≠ keyOf (0x2F18 + r) 1) → recValue u id = some d)) ∧
        (∀ l j m e, p.target = .cell l j m e → l < 96 → u.stor.mem = s.stor.mem ∧
          (repAt u l).cells = cellPut (repAt s l).cells j m e)) ∧
      (targetWriter p.target ≠ p.writer → s.entriesWf → u.stor.mem = s.stor.mem ∧ u.stor.recs = s.stor.recs ∧ raised u 0x0004 = true ∧
        onlyConds [0x0004] s u ∧ onlyEntries [(0x2F00, 0x0A), (0x2F00, 3)] s u ∧
        holds u 0x2F00 0x0A (writerNumber p.writer p.cls * 2 ^ 28 + targetAddr s p.target)) ∧
      (targetWriter p.target = p.writer → differs = false → u.stor.remap = s.stor.remap) ∧
      (targetWriter p.target = p.writer → differs = true → 0 < placedPages (resolve s p.target) → sparesFree s ≠ 0 →
        raised u 0xC021 = true ∧ u.stor.remap.table = s.stor.remap.table ++ [some (targetAddr s p.target / 128)]) ∧
      (targetWriter p.target = p.writer → differs = true → 0 < placedPages (resolve s p.target) → sparesFree s = 0 →
        raised u 0xC031 = true ∧ u.stor.mem = s.stor.mem ∧ u.stor.remap = s.stor.remap ∧
        ((∀ id d, p.target ≠ .record id d) → u.stor.recs = s.stor.recs))

/-- For every record and every data: after a whole write the copy in use has the data, a sequence one more (modulo 2^32) than that
of the copy in use before, and lies in slot 0 when the sequence is even and in slot 1 when it is odd, with the other slot as it
was; a write that is cut leaves the copy in use in force, where it lies in the slot of its sequence's parity, and puts a copy that
fails its check into the other slot. At power-up the valid copy of the newer sequence is taken, and with none valid the default.
-/
def Obligations.RecordsAlternate : Prop :=
  (∀ (r : Rec) (d : Bytes), (r.write d true).inUse = some ⟨r.seqInUse + 1, d, true⟩ ∧ (r.write d true).id = r.id ∧
    ((r.seqInUse + 1).toNat % 2 = 0 → (r.write d true).slot1 = r.slot1 ∧ (r.write d true).slot0 = some ⟨r.seqInUse + 1, d, true⟩) ∧
    ((r.seqInUse + 1).toNat % 2 = 1 → (r.write d true).slot0 = r.slot0 ∧ (r.write d true).slot1 = some ⟨r.seqInUse + 1, d, true⟩)) ∧
  (∀ (r : Rec) (d : Bytes), (r.use = 1 → r.seqInUse.toNat % 2 = 0) → (r.use = 2 → r.seqInUse.toNat % 2 = 1) →
    (r.write d false).inUse = r.inUse) ∧
  (∀ (r : Rec) (a b : Copy), copyValid r.slot0 = some a → copyValid r.slot1 = some b → a.seq ≠ b.seq →
    r.select.1.inUse = (if newer a.seq b.seq then r.slot0 else r.slot1)) ∧
  (∀ r : Rec, copyValid r.slot0 = none → copyValid r.slot1 = none → r.select.1.inUse = none)

/-- While the firmware runs, the Hamper takes all writes, none waits and pages read back right: SCRUB_PAGE rewrites the page whose rewrite
is due and leaves the scrub position as it is; a page that reads back otherwise is then remapped with 0xC021. With none due and a scrub
cycle open it reads a page, and the scrub position 2E00.04 is the next one, after the last page 0. A page that shows nothing leaves
memory, the remap table and the conditions as they were. An uncorrectable page is marked bad and raises 0xC020. A page that shows a
corrected error has its rewrite due, or is remapped with 0xC021 when it has shown two more within 30 days. A page inspection shows in
2E20.03 a corrected error, an uncorrectable page, a remapped page and a CRC mismatch in bits 0 to 3, and in 2E20.04 the page's physical
place. -/
def Obligations.ScrubAndInspection : Prop :=
  (∀ (ecc page : Nat) (differs : Bool) (s : State), isUp s = true → hamperFree s = true → s.stor.pend = [] → s.stor.tape = [] →
    s.stor.scrubDue = some page →
    ∃ u, runs (.scrubPage ecc differs) s u ∧ u.stor.scrubDue = none ∧ getBytes u 0x2E00 4 = getBytes s 0x2E00 4 ∧
      u.stor.mem = s.stor.mem ∧ (differs = false → u.stor.remap = s.stor.remap ∧ u.conds = s.conds) ∧
      (differs = true → sparesFree s ≠ 0 → u.stor.remap.table = s.stor.remap.table ++ [some page] ∧ raised u 0xC021 = true)) ∧
  (∀ (ecc page : Nat) (differs : Bool) (s : State), isUp s = true → hamperFree s = true → s.stor.pend = [] → s.stor.tape = [] →
    s.stor.scrubDue = none → scrubOpen s = true → s.entriesWf → page = getN s 0x2E00 4 →
    ∃ u, runs (.scrubPage ecc differs) s u ∧ holds u 0x2E00 4 ((page + 1) % 524288) ∧
      (ecc = 0 → page ≠ 524287 → u.stor.mem = s.stor.mem ∧ u.stor.remap = s.stor.remap ∧ u.stor.recs = s.stor.recs ∧
        u.stor.bad = s.stor.bad ∧ u.conds = s.conds) ∧
      (eccBad ecc = true → page ≠ 524287 → raised u 0xC020 = true ∧ u.stor.bad.contains page = true) ∧
      (∀ hits, hits = ((s.stor.scrubHits.filter fun h => decide (devTime s < h.2 + 2592000000)).filter fun h => h.1 == page).length →
        ecc = 1 → (hits < 2 → page ≠ 524287 → u.stor.scrubDue = some page) ∧
          (2 ≤ hits → differs = false → sparesFree s ≠ 0 →
            u.stor.remap.table = s.stor.remap.table ++ [some page] ∧ raised u 0xC021 = true))) ∧
  (∀ (s : State) (ecc : Nat), s.entriesWf → getN s 0x2E20 1 < 524288 →
    holds (inspectPage s (getN s 0x2E20 1) ecc) 0x2E20 3 (bitVal (ecc.testBit 0) 0 + bitVal (eccBad ecc) 1 +
      bitVal (spareOf s.stor.remap.table (getN s 0x2E20 1)).isSome 2 + bitVal (ecc.testBit 3) 3) ∧
    holds (inspectPage s (getN s 0x2E20 1) ecc) 0x2E20 4 (physicalPage s (getN s 0x2E20 1)))

/-- On a port whose mode is enabled. DIGITAL_FILTER_CHANGE of a digital port while the islands run, to a level that differs from
the one shown or as the first, and lies at least the filter time after the change before it, completes with the level in 2000+n.0A
and the reference counter not before the edge; nearer to that change it changes nothing; the first
filtered level is counted as no edge, a later one whose direction the edge selection takes adds one to 2000+n.0B; on a trip input
the local source of its channel then follows. GATE_WINDOW_END at a whole multiple of the gate time starts a new window; the first
only starts one. STALL_TIMEOUT of a tachometer without an edge for the stall timeout raises the stall fault and no other
condition. PRESENCE_WINDOW_END clears the presence state once the window has passed. SHUNT_OVERLOAD in mode 2 opens the shunt for
1 000 ticks and raises the overload fault; SHUNT_RECLOSE when that time is over closes it. That the first filtered state is no
edge is the model's choice (log 13). -/
def Obligations.PortInputs : Prop :=
  (∀ (n edge : Nat) (level : Bool) (s : State), islandsRun s = true → n < 64 → isDigital (portMode s n) = true →
    (portAt s n).modeAt = none → dueRef s edge = true → ((portAt s n).known = true → getN s (0x2000 + n) 0x0A ≠ level.toNat) →
    s.entriesWf →
    (edge < (portAt s n).changed + filterPeriods s n → exec (.digitalFilterChange n level edge) s = .next s) ∧
    ((portAt s n).changed + filterPeriods s n ≤ edge → ∃ v, runs (.digitalFilterChange n level edge) s
        (if portMode s n = 5 ∧ getN s (0x2040 + n) 0x18 < 64 then localChange s v (getN s (0x2040 + n) 0x18) n else v) ∧
      holds v (0x2000 + n) 0x0A level.toNat ∧ edge ≤ v.clock.ref ∧ (portAt v n).known = true ∧ (portAt v n).changed = edge ∧
      onlyEntries [(0x2000 + n, 0x0A), (0x2000 + n, 0x0B), (0x2000 + n, 0x0C)] s v ∧
      ((portAt s n).known = true → edgeCounts (getN s (0x2040 + n) 3) level = true →
        holds v (0x2000 + n) 0x0B (getN s (0x2000 + n) 0x0B + 1)) ∧
      (((portAt s n).known = false ∨ edgeCounts (getN s (0x2040 + n) 3) level = false) →
        getBytes v (0x2000 + n) 0x0B = getBytes s (0x2000 + n) 0x0B))) ∧
  (∀ (n : Nat) (s : State), islandsRun s = true → n < 64 → (portMode s n = 6 ∨ portMode s n = 7 ∨ portMode s n = 15) →
    (portAt s n).modeAt = none → s.clock.tick % getN s (0x2040 + n) 0x0B = 0 → (portAt s n).window ≠ some s.clock.tick →
    ∃ u, runs (.gateWindowEnd n) s u ∧ (portAt u n).window = some s.clock.tick ∧ (portAt u n).accepted = 0 ∧ (portAt u n).countSel = 0 ∧
      u.conds = s.conds ∧ ((portAt s n).window = none → u.ents = s.ents) ∧
      ((portAt s n).window.isSome = true → u.ents = (windowResult s n (getN s (0x2040 + n) 0x0B)).ents)) ∧
  (∀ (n : Nat) (s : State), islandsRun s = true → n < 64 → portMode s n = 15 → (portAt s n).modeAt = none →
    (portAt s n).lastEdgeTick + getN s (0x2040 + n) 0x0D ≤ s.clock.tick →
    ∃ u, runs (.stallTimeout n) s u ∧ raised u (faultCode 7 n) = true ∧ onlyConds [faultCode 7 n] s u ∧ u.ports = s.ports) ∧
  (∀ (n : Nat) (s : State), isUp s = true → n < 64 → portMode s n = 8 → getB s (0x2000 + n) 0x0A = true →
    (portAt s n).pulses.foldl max 0 + getN s (0x2040 + n) 0x12 ≤ s.clock.tick → s.entriesWf →
    ∃ u, runs (.presenceWindowEnd n) s u ∧ holds u (0x2000 + n) 0x0A 0 ∧ onlyEntries [(0x2000 + n, 0x0A)] s u ∧ u.conds = s.conds) ∧
  (∀ (n : Nat) (s : State), isUp s = true → n < 64 → portMode s n = 2 → (portAt s n).shuntTill = none → (portAt s n).modeAt = none →
    ∃ u, runs (.shuntOverload n) s u ∧ (portAt u n).shuntTill = some (s.clock.tick + 1000) ∧ raised u (faultCode 3 n) = true ∧
      onlyConds [faultCode 3 n] s u) ∧
  (∀ (n t : Nat) (s : State), isUp s = true → n < 64 → (portAt s n).shuntTill = some t → t ≤ s.clock.tick →
    ∃ u, runs (.shuntReclose n) s u ∧ (portAt u n).shuntTill = none ∧ u.ents = s.ents ∧ ∀ c, raised u c = raised s c)

/-- PWM_PERIOD_BOUNDARY of an enabled PWM or switch port at its boundary, with no event of the period still to be taken, completes
with the next boundary later, without dithering by the nominal period; a duty staged for an instant not after the boundary is applied and
the safe bit clears, unless the port is tripped; otherwise the duty and every entry stay. No other entry and no condition changes. CURRENT_LIMIT_ACTS of a voltage output completes with
status bit 9 following and the limit's start noted or forgotten; OUTPUT_OVERLOAD_TIMEOUT, 10 ms later, raises the overload fault.
SWITCH_OVERCURRENT of a switch that is on completes with the overload fault raised: outside a retry it retries after 1 000 ticks,
in a retry the count 2040+n.20 goes up, and at the tenth the latched-off fault is raised and no retry is due. SWITCH_RETRY when it
is due begins the retry's second; SWITCH_RETRY_SUCCESS after that second sets the count to 0 and clears the overload fault (log
15). DRIVER_OVER_TEMPERATURE of an output, or of a line of an actuator pair, raises its fault, and DRIVER_RESTART, 1 s after
cooling, clears it (at the restart: the model's choice, log 104). PORT_FAULT_CLEAR clears a fault
whose cause has been absent for 1 s. ACTUATOR_RUN_END at the end of a run completes: after homing the estimate is 0 and bit 13
clear, after a run to an end it is that end. -/
def Obligations.PortOutputs : Prop :=
  (∀ (n : Nat) (s : State), islandsRun s = true → n < 64 → (portMode s n = 12 ∨ portMode s n = 13) → (portAt s n).modeAt = none →
    dueRef s (portAt s n).pwmAt = true → pwmEventOpen s n = false → s.entriesWf →
    ∃ u, runs (.pwmPeriodBoundary n) s u ∧ (portAt s n).pwmAt < (portAt u n).pwmAt ∧ (portAt s n).pwmAt ≤ u.clock.ref ∧
      (portAt u n).pwmStart = (portAt s n).pwmAt ∧ (portAt u n).toldStart = false ∧
      (getN s (0x2040 + n) 0x13 = 0 → (portAt u n).pwmAt = (portAt s n).pwmAt + nominalPeriod s n) ∧
      ((portAt s n).tripped = false → (portAt s n).dutyFrom ≤ (portAt s n).pwmAt → ∀ v, (portAt s n).dutyStaged = some v →
        (portAt u n).out = v ∧ (portAt u n).dutyStaged = none ∧ holds u (0x2000 + n) 3 (putBit (getN s (0x2000 + n) 3) 12 false)) ∧
      (((portAt s n).tripped = true ∨ (portAt s n).pwmAt < (portAt s n).dutyFrom ∨ (portAt s n).dutyStaged = none) →
        (portAt u n).out = (portAt s n).out ∧ (portAt u n).dutyStaged = (portAt s n).dutyStaged ∧ u.ents = s.ents) ∧
      (∀ k, k ≠ n → portAt u k = portAt s k) ∧ onlyEntries [(0x2000 + n, 3)] s u ∧ u.conds = s.conds) ∧
  (∀ (n : Nat) (on : Bool) (s : State), isUp s = true → n < 64 → portMode s n = 11 → (portAt s n).limitSince.isSome ≠ on → s.entriesWf →
    ∃ u, runs (.currentLimitActs n on) s u ∧ holds u (0x2000 + n) 3 (putBit (getN s (0x2000 + n) 3) 9 on) ∧
      (portAt u n).limitSince = (if on then some s.clock.tick else none) ∧ onlyEntries [(0x2000 + n, 3)] s u ∧
      ∀ c, raised u c = raised s c) ∧
  (∀ (c : Instr) (n t k : Nat) (s : State), isUp s = true → n < 64 →
    ((c = .outputOverloadTimeout n ∧ k = 3 ∧ portMode s n = 11 ∧ (portAt s n).limitSince = some t ∧ t + 10 ≤ s.clock.tick) ∨
     (c = .switchOvercurrent n ∧ k = 3 ∧ portMode s n = 13 ∧ (portAt s n).retryAt = none ∧ hasFault s n 8 = false ∧
       (portAt s n).hot = false) ∨
     (c = .driverOverTemperature n ∧ k = 5 ∧ (isOutput (portMode s n) = true ∨ (actuatorOf s n).isSome = true) ∧
       (portAt s n).hot = false)) →
    ∃ u, runs c s u ∧ raised u (faultCode k n) = true ∧ onlyConds [faultCode k n, faultCode 8 n] s u) ∧
  (∀ (n : Nat) (s : State), isUp s = true → n < 64 → portMode s n = 13 → (portAt s n).retryAt = none → hasFault s n 8 = false →
    (portAt s n).hot = false → s.entriesWf → ∃ u, runs (.switchOvercurrent n) s u ∧ (portAt u n).retryRun = none ∧
      ((portAt s n).retryRun = none → (portAt u n).retryAt = some (s.clock.tick + 1000) ∧ raised u (faultCode 8 n) = false) ∧
      ((portAt s n).retryRun.isSome = true → getN s (0x2040 + n) 0x20 < 9 → (portAt u n).retryAt = some (s.clock.tick + 1000) ∧
        raised u (faultCode 8 n) = false ∧ holds u (0x2040 + n) 0x20 (getN s (0x2040 + n) 0x20 + 1)) ∧
      ((portAt s n).retryRun.isSome = true → 9 ≤ getN s (0x2040 + n) 0x20 → (portAt u n).retryAt = none ∧
        raised u (faultCode 8 n) = true ∧ holds u (0x2040 + n) 0x20 10)) ∧
  (∀ (n t : Nat) (s : State), isUp s = true → n < 64 → portMode s n = 13 → (portAt s n).retryAt = some t → t ≤ s.clock.tick →
    ∃ u, runs (.switchRetry n) s u ∧ (portAt u n).retryAt = none ∧ (portAt u n).retryRun = some s.clock.tick ∧ u.ents = s.ents ∧
      u.conds = s.conds) ∧
  (∀ (c : Instr) (n t k : Nat) (s : State), isUp s = true → n < 64 → s.entriesWf →
    ((c = .switchRetrySuccess n ∧ k = 3 ∧ portMode s n = 13 ∧ (portAt s n).hot = false ∧ (portAt s n).retryRun = some t ∧
       t + 1000 ≤ s.clock.tick) ∨
     (c = .driverRestart n t ∧ k = 5 ∧ (portAt s n).hot = true ∧ t + 1000 ≤ s.clock.tick) ∨
     (c = .portFaultClear n k ∧ 1 ≤ k ∧ k ≤ 8 ∧ ∃ x ∈ s.conds, x.code = faultCode k n ∧ x.cause = false ∧ x.since + 1000 ≤ s.clock.tick)) →
    ∃ u, runs c s u ∧ raised u (faultCode k n) = false ∧ onlyConds [faultCode k n] s u ∧
      onlyEntries [(0x2000 + n, 2), (0x2000 + n, 3), (0x2000 + n, 0x10), (0x2040 + n, 0x20), (0x2000 + (n - 1), 2),
        (0x2000 + (n - 1), 3)] s u ∧
      (actuatorOf s n = none → onlyEntries [(0x2000 + n, 3), (0x2000 + n, 0x10), (0x2040 + n, 0x20)] s u) ∧
      (c = .switchRetrySuccess n → holds u (0x2040 + n) 0x20 0 ∧ (portAt u n).retryRun = none) ∧
      (c = .driverRestart n t → (portAt u n).hot = false)) ∧
  (∀ (n t : Nat) (s : State), islandsRun s = true → n < 64 → portMode s n = 14 → t ≤ s.clock.tick →
    ((portAt s n).line = .homing t → ∃ v, (portAt v n).estimate = some 0 ∧ (portAt v n).line = .still ∧
      runs (.actuatorRunEnd n) s (startMove (showEstimate v n) n)) ∧
    ((portAt s n).line = .opening t → (portAt s n).target = 100000 → ∃ v, (portAt v n).estimate = some 100000 ∧
      (portAt v n).line = .still ∧ v.ents = s.ents ∧ runs (.actuatorRunEnd n) s (startMove (showEstimate v n) n)) ∧
    ((portAt s n).line = .closing t → (portAt s n).target = 0 → ∃ v, (portAt v n).estimate = some 0 ∧ (portAt v n).line = .still ∧
      v.ents = s.ents ∧ runs (.actuatorRunEnd n) s (startMove (showEstimate v n) n)) ∧
    ((portAt s n).line = .dead t → ∃ v, (portAt v n).line = .still ∧ v.ents = s.ents ∧ runs (.actuatorRunEnd n) s (startMove v n)))

/-- While the islands run. A timer trigger due now of a converter k outside any set, and the d-th PWM event it names (one reference period after the event), complete: an
idle running converter with a channel to convert is in its delay until the trigger plus 2108+k.01; one in its delay or in a frame
keeps delay, frame and slot, counts the missed trigger in 2100+k.0C and raises 0x2010 + k and no other condition; one not running,
or with no channel, keeps them and nothing is counted. An event before the d-th only counts, and one that came before Run was set is not counted. A set's timer trigger counts in
2110+i.09, and every idle running member with a channel starts its own delay from the same instant; converters outside the set
stay as they are. TRIGGER_DELAY_END starts the first slot of the frame, or leaves it waiting, displaced, when a conversion runs.
-/
def Obligations.TriggersStartDelays : Prop :=
  (∀ k s, islandsRun s = true → s.entriesWf → k < 8 → 4 ≤ convSet s k →
    getN s (0x2108 + k) 0x02 = 1 → timerFires s (getN s (0x2108 + k) 0x03) (getN s (0x2108 + k) 0x04) = true →
    (convAt s k).lastTimer ≠ some s.clock.tick →
    ∃ u, runs (.converterTimerTrigger false k) s u ∧ triggeredConv k (refMs * s.clock.tick) s u ∧ onlyConds [0x2010 + k] s u ∧
      (∀ j, j ≠ k → convAt u j = convAt s j)) ∧
  (∀ n ev e t k s, islandsRun s = true → s.entriesWf → n < 64 → k < 8 → (portMode s n = 12 ∨ portMode s n = 13) →
    pwmEvent s n ev = some e → t = e + 1 → dueRef s t = true → 4 ≤ convSet s k → convRun s k = true → getN s (0x2108 + k) 0x02 = 2 → getN s (0x2108 + k) 0x05 = n →
    getN s (0x2108 + k) 0x06 = ev →
    ∃ u, runs (.pwmEventTrigger n ev t) s u ∧ pwmEvent u n ev = none ∧
      (e ≤ (convAt s k).pwmFrom → convAt u k = convAt s k) ∧
      ((convAt s k).pwmFrom < e → (convAt s k).pwmCount + 1 < getN s (0x2108 + k) 0x07 →
        convAt u k = { convAt s k with pwmCount := (convAt s k).pwmCount + 1 }) ∧
      ((convAt s k).pwmFrom < e → getN s (0x2108 + k) 0x07 ≤ (convAt s k).pwmCount + 1 →
        (convAt u k).pwmCount = 0 ∧ triggeredConv k t s u)) ∧
  (∀ i s, islandsRun s = true → s.entriesWf → i < 4 → getN s (0x2110 + i) 0x01 = 1 →
    timerFires s (getN s (0x2110 + i) 0x02) (getN s (0x2110 + i) 0x03) = true →
    (vAt s.syncs i syncRest).lastTimer ≠ some s.clock.tick →
    ∃ u, runs (.converterTimerTrigger true i) s u ∧ holds u (0x2110 + i) 0x09 (getN s (0x2110 + i) 0x09 + 1) ∧
      (∀ k, k < 8 → convSet s k = i → triggeredConv k (refMs * s.clock.tick) s u) ∧
      (∀ k, k < 8 → convSet s k ≠ i → convAt u k = convAt s k)) ∧
  (∀ k t s, islandsRun s = true → k < 8 → (convAt s k).delay = some t → dueRef s t = true →
    ∃ u, runs (.triggerDelayEnd k) s u ∧ (convAt u k).delay = none ∧
      ((convAt s k).slot = none → ∀ ch r, frameChannels s k = ch :: r →
        (convAt u k).slot = some ⟨.scan, ch, t, t + slotPeriods (getN s (0x2100 + k) 0x06)⟩ ∧
        (convAt u k).frame = some ⟨ch, t, false, true⟩) ∧
      ((convAt s k).slot.isSome = true → (convAt u k).slot = (convAt s k).slot ∧
        (convAt u k).frame = some ⟨0, t, true, false⟩))

/-- While the islands run, when the slot of converter k has ended, with an input of any size and a reference above zero: SLOT_END
completes, the result 2100+k.03 is floor(2^23 x Vin / Vref + 0.5), Vref being 1.250 V for channels 8 to 11, the internal reference
and a port without excitation under ratiometric selection and else what stands at the reference selected, clamped to -8 388 608 to 8 388 607, and bit 6 of the flags
2100+k.04, the over-range flag, is set exactly where the code was outside that range. -/
def Obligations.ResultCodes : Prop :=
  ∀ (k : Nat) (vin : Int) (vref : Nat) (sl : Slot) (s : State), islandsRun s = true → s.entriesWf → k < 8 →
    0 < referenceUsed s k sl.channel vref → (convAt s k).slot = some sl → dueRef s sl.fin = true →
    let code : Int := ((2 : Rat) ^ 23 * vin / referenceUsed s k sl.channel vref + 1 / 2).floor
    (referenceUsed s k sl.channel vref =
      (if 8 ≤ sl.channel ∨ getN s (0x2100 + k) 8 = 0 ∨ (sl.channel < 8 ∧ getN s (0x2100 + k) 8 = 2 ∧
        portMode s (8 * k + sl.channel) ≠ 3 ∧ portMode s (8 * k + sl.channel) ≠ 4) then 1250000000 else vref)) ∧
    ∃ u, runs (.slotEnd k vin vref) s u ∧
      getI u (0x2100 + k) 0x03 = max (-8388608) (min 8388607 code) ∧
      (getN u (0x2100 + k) 0x04).testBit 6 = decide (code < -8388608 ∨ 8388607 < code)

/-- While the islands run, when the slot sl of converter k has ended: the flags hold new, overrun where the last result was not
taken, injected and calibration by the slot's kind, and the channel; the timestamp is the counter at the slot's end. An overrun
counts in 2100+k.0D and, outside raw mode, raises 0x2020 + k. With channels above it left and no request waiting, the next
channel's slot starts at once; after the last, 2100+k.0B counts the frame and 2100+k.0E is its duration. METROLOGY_TAKES_RESULT of a new result
outside raw mode clears both flags and no other; for the die channel it takes the code and writes nothing else, and an injected
result changes only the port's status and terminal values. In raw mode, or with no new result, it does nothing. -/
def Obligations.SlotEndWrites : Prop :=
  (∀ k vin vref sl s, islandsRun s = true → s.entriesWf → k < 8 → 0 < referenceUsed s k sl.channel vref →
    (convAt s k).slot = some sl → sl.channel < 12 → dueRef s sl.fin = true →
    ∃ u, runs (.slotEnd k vin vref) s u ∧
      (getN u (0x2100 + k) 0x04).testBit 0 = true ∧
      (getN u (0x2100 + k) 0x04).testBit 1 = (getN s (0x2100 + k) 0x04).testBit 0 ∧
      (getN u (0x2100 + k) 0x04).testBit 3 = (sl.kind == .injected) ∧
      (getN u (0x2100 + k) 0x04).testBit 7 = (sl.kind == .calibration) ∧ getN u (0x2100 + k) 0x04 / 256 = sl.channel ∧
      holds u (0x2100 + k) 0x05 sl.fin ∧
      ((getN s (0x2100 + k) 0x04).testBit 0 = true → holds u (0x2100 + k) 0x0D (getN s (0x2100 + k) 0x0D + 1) ∧
        (getB s (0x2108 + k) 0x0C = false → raised u (0x2020 + k) = true)) ∧
      (∀ f ch, sl.kind = .scan → (convAt s k).frame = some f → (convAt s k).inject = [] → (convAt s k).calib = [] →
        (frameChannels s k).find? (fun c => decide (f.next + 1 ≤ c)) = some ch →
        (convAt u k).slot = some ⟨.scan, ch, sl.fin, sl.fin + slotPeriods (getN s (0x2100 + k) 0x06)⟩ ∧
        getBytes u (0x2100 + k) 0x0B = getBytes s (0x2100 + k) 0x0B) ∧
      (∀ f, sl.kind = .scan → (convAt s k).frame = some f → f.begun = true →
        (frameChannels s k).find? (fun c => decide (f.next + 1 ≤ c)) = none →
        holds u (0x2100 + k) 0x0B (getN s (0x2100 + k) 0x0B + 1) ∧ holds u (0x2100 + k) 0x0E (sl.fin - f.start))) ∧
  (∀ k compliance s, isUp s = true → s.entriesWf → k < 8 → (getN s (0x2100 + k) 0x04).testBit 0 = true →
    getB s (0x2108 + k) 0x0C = false →
    ∃ u, runs (.metrologyTakesResult k compliance) s u ∧
      ((getN s (0x2100 + k) 0x04).testBit 7 = false → holds u (0x2100 + k) 0x04 (getN s (0x2100 + k) 0x04 / 4 * 4)) ∧
      ((getN s (0x2100 + k) 0x04).testBit 7 = false → getN s (0x2100 + k) 0x04 / 256 % 16 = 10 →
        (convAt u k).dieCode = some (getI s (0x2100 + k) 0x03) ∧ onlyEntries [(0x2100 + k, 0x04)] s u ∧ onlyConds [] s u) ∧
      (∀ ch, (getN s (0x2100 + k) 0x04).testBit 7 = false → getN s (0x2100 + k) 0x04 / 256 % 16 = ch → ch < 8 →
        (getN s (0x2100 + k) 0x04).testBit 3 = true →
        onlyEntries [(0x2100 + k, 0x04), (0x2000 + (8 * k + ch), 0x03), (0x2040 + (8 * k + ch), 0x1E),
          (0x2040 + (8 * k + ch), 0x1F)] s u ∧ onlyConds [] s u)) ∧
  (∀ k compliance s, (getN s (0x2100 + k) 0x04).testBit 0 = false ∨ getB s (0x2108 + k) 0x0C = true →
    exec (.metrologyTakesResult k compliance) s = .next s)

/-- While the islands run. The monitor judges the reference of converter k in use, a ratiometric one during the slots of a port
with excitation. Out of the tolerance of R136 the settling flag 2100+k.09 clears and 0x2030 + k is raised, and no other entry or
condition changes. The end of the finding only starts the 2 ms. SETTLING_COMPLETE,
due 2 ms after the later of the write and the end of the finding, sets the flag and clears 0x2030 + k; while the monitor finds the
reference out of tolerance, or with the flag set already, it does nothing. -/
def Obligations.ReferenceSettling : Prop :=
  (∀ k uv change s, islandsRun s = true → s.entriesWf → k < 8 → monitorJudges s k = true →
    inTolerance (getN s (0x2100 + k) 8) uv change = false →
    ∃ u, runs (.referenceOutOfTolerance k ⟨uv, change⟩) s u ∧ settled u k = false ∧ (convAt u k).outOfTol = true ∧
      raised u (0x2030 + k) = true ∧ onlyEntries [(0x2100 + k, 0x09)] s u ∧ onlyConds [0x2030 + k] s u ∧
      (∀ j, j ≠ k → convAt u j = convAt s j)) ∧
  (∀ k uv change s, islandsRun s = true → k < 8 → monitorJudges s k = true →
    inTolerance (getN s (0x2100 + k) 8) uv change = true → (convAt s k).outOfTol = true →
    ∃ u, runs (.referenceOutOfTolerance k ⟨uv, change⟩) s u ∧ u.ents = s.ents ∧ u.conds = s.conds ∧
      convAt u k = { convAt s k with outOfTol := false, settleFrom := s.clock.ref }) ∧
  (∀ k s, islandsRun s = true → s.entriesWf → k < 8 → (convAt s k).outOfTol = false → settled s k = false →
    dueRef s ((convAt s k).settleFrom + 48000) = true →
    ∃ u, runs (.settlingComplete k) s u ∧ settled u k = true ∧ raised u (0x2030 + k) = false ∧
      onlyEntries [(0x2100 + k, 0x09)] s u ∧ onlyConds [0x2030 + k] s u ∧ u.convs = s.convs) ∧
  (∀ k s, (convAt s k).outOfTol = true ∨ settled s k = true → exec (.settlingComplete k) s = .next s)

/-- While the islands run, at a tick that is a whole number of periods after Run: LANE_MEASUREMENT_START begins a measurement with
no shot, or, where the last result has not been taken, skips it: 2120+k.0C counts and 0x3050 + k is raised. LANE_SHOT counts one
shot (in mode 2 its charge starts half an interval later); in mode 1 the stop events are crossings after the first echo, before
the window end and within 4.0 ms, and none without an echo above the threshold in the window; a shot whose calibration pair fails,
or with too few of them, adds no time, and a good one adds its time to the upstream list where an even number of shots went
before, else to the downstream list. LANE_MEASUREMENT_END hands the measurement over and counts it in 2120+k.0D. LANE_RESULT_TAKEN
in mode 1 takes it: flow, velocity and speed of sound are NaN unless enough echoes came, the spreads are within the limit and the
speed of sound is plausible, bits 0, 3, 4 and 5 of 2120+k.0A say so, and 0x3040 + k is raised where the calibration pair failed.
Other lanes are untouched by the first three. -/
def Obligations.LaneMeasurements : Prop :=
  (∀ k s, islandsRun s = true → s.entriesWf → k < 8 → laneRun s k = true → (laneAt s k).meas = none →
    (laneAt s k).lastStart ≠ some s.clock.tick → (laneAt s k).runTick ≤ s.clock.tick →
    (s.clock.tick - (laneAt s k).runTick) % max 1 (getN s (0x2120 + k) 0x03) = 0 →
    ∃ u, runs (.laneMeasurementStart k) s u ∧ (∀ j, j ≠ k → laneAt u j = laneAt s j) ∧
      ((laneAt s k).handed = none → (laneAt u k).meas = some (measRest (24000 * s.clock.tick)) ∧
        getBytes u (0x2120 + k) 0x0C = getBytes s (0x2120 + k) 0x0C ∧ onlyConds [0x3060 + k] s u) ∧
      ((laneAt s k).handed.isSome = true → (laneAt u k).meas = none ∧ (laneAt u k).handed = (laneAt s k).handed ∧
        (laneAt u k).skipped = true ∧ holds u (0x2120 + k) 0x0C (getN s (0x2120 + k) 0x0C + 1) ∧ raised u (0x3050 + k) = true ∧
        onlyConds [0x3050 + k, 0x3060 + k] s u)) ∧
  (∀ k i m s, islandsRun s = true → k < 8 → (laneAt s k).meas = some m → m.shots < shotTotal s k →
    dueRef s (m.start + m.shots * shotInterval s k + (if laneMode s k = 1 then 0 else shotInterval s k / 2)) = true →
    ∃ u n, runs (.laneShot k i) s u ∧ (laneAt u k).meas = some n ∧ n.shots = m.shots + 1 ∧ n.start = m.start ∧
      n.calFault = (m.calFault || !pairGood i) ∧ (∀ j, j ≠ k → laneAt u j = laneAt s j) ∧
      (laneMode s k = 1 → u.ents = s.ents ∧ u.conds = s.conds ∧
        let hits := stopHits s k i
        (∀ x ∈ hits, x ∈ i.hits ∧ hitTime i x < getN s (0x2128 + k) 0x0A ∧ hitTime i x ≤ 4000000000) ∧
        (firstEcho s k i = none → hits = []) ∧
        ((pairGood i = false ∨ hits.length < max 1 (getN s (0x2128 + k) 0x0C)) → n.up = m.up ∧ n.down = m.down) ∧
        (pairGood i = true → max 1 (getN s (0x2128 + k) 0x0C) ≤ hits.length →
          let x := shotTime { i with hits := hits } (max 1 (getN s (0x2128 + k) 0x0C)) (getN s (0x2128 + k) 0x06)
          (m.shots % 2 = 0 → n.up = m.up ++ [x] ∧ n.down = m.down) ∧ (m.shots % 2 = 1 → n.up = m.up ∧ n.down = m.down ++ [x])))) ∧
  (∀ k m s, islandsRun s = true → s.entriesWf → k < 8 → (laneAt s k).meas = some m → shotTotal s k ≤ m.shots →
    ∃ u, runs (.laneMeasurementEnd k) s u ∧ (laneAt u k).meas = none ∧ (laneAt u k).handed = some m ∧
      holds u (0x2120 + k) 0x0D (getN s (0x2120 + k) 0x0D + 1) ∧ onlyEntries [(0x2120 + k, 0x0D)] s u ∧ u.conds = s.conds ∧
      (∀ j, j ≠ k → laneAt u j = laneAt s j)) ∧
  (∀ k m s, isUp s = true → s.entriesWf → k < 8 → (laneAt s k).handed = some m →
    ∃ u, runs (.laneResultTaken k) s u ∧ (laneAt u k).handed = none ∧ (laneAt u k).skipped = false ∧
      (m.calFault = true → raised u (0x3040 + k) = true) ∧
      (laneMode s k ≠ 2 → let f := flowCalc s k m
        (f.echo && f.spread && f.sound) = false →
          getF u (0x2120 + k) 0x04 = nan32 ∧ getF u (0x2120 + k) 0x05 = nan32 ∧ getF u (0x2120 + k) 0x06 = nan32) ∧
      (laneMode s k ≠ 2 → let f := flowCalc s k m
        (getN u (0x2120 + k) 0x0A).testBit 0 = (f.echo && f.spread && f.sound) ∧ (getN u (0x2120 + k) 0x0A).testBit 3 = !f.echo ∧
        (getN u (0x2120 + k) 0x0A).testBit 4 = !f.spread ∧ (getN u (0x2120 + k) 0x0A).testBit 5 = !f.sound))

/-- CAL_N_CHANGE completes with the level of the pin and nothing else. While the firmware runs, with no power-fail warning or
reset entry and no port mode write still to be answered, a session opened at least 30 minutes ago: SESSION_TIMEOUT completes with no owner, no capture, 0x4001 clear and
0x4002 raised, 2180.04 and 2180.06 at 0 and the reason 2 in 2180.0A. Where no coefficient differs from its opening value the
metrology epoch 2180.08 stays; else it is one more. The closing is followed by one audit entry of kind 3. A younger session stays
open. -/
def Obligations.CalibrationSession : Prop :=
  (∀ on s, isUp s = true →
    ∃ u, runs (.calNChange on) s u ∧ u.cal = { s.cal with calN := on } ∧ u.ents = s.ents ∧ u.conds = s.conds ∧ u.meters = s.meters) ∧
  (∀ s, isUp s = true → hamperFree s = true → modePending s = false → s.cal.owner.isSome = true →
    s.cal.openedTick + 1800000 ≤ s.clock.tick → s.entriesWf →
    ∃ v, v.cal.owner = none ∧ v.cal.capture = none ∧ raised v 0x4001 = false ∧ holds v 0x2180 0x04 0 ∧ holds v 0x2180 0x06 0 ∧
      holds v 0x2180 0x0A 2 ∧ holds v 0x2180 0x0B (devTime s) ∧
      ((∀ e ∈ s.cal.opening, e.1 / 256 ≠ 0x2181) → changedKeys s = [] → getBytes v 0x2180 0x08 = getBytes s 0x2180 0x08) ∧
      ((∀ e ∈ s.cal.opening, e.1 / 256 ≠ 0x2181) → changedKeys s ≠ [] → holds v 0x2180 0x08 (getN s 0x2180 0x08 + 1)) ∧ v.audit = s.audit ∧
      runs .sessionTimeout s (raiseHeld (appendAudit v .device 3 0x2180 0x01 0 [2]) 0x4002) ∧
      raised (raiseHeld (appendAudit v .device 3 0x2180 0x01 0 [2]) 0x4002) 0x4002 = true ∧
      (appendAudit v .device 3 0x2180 0x01 0 [2]).audit.count = s.audit.count + 1) ∧
  (∀ s, s.clock.tick < s.cal.openedTick + 1800000 → exec .sessionTimeout s = .next s)

/-- With the metering engine running, at a boundary b later than the start of the running period of an enabled meter m whose
results up to b are taken (that it waits for them is the model's reading, log 57): METERING_PERIOD_END completes with the next
period starting at b and the other meters' totals as they were. In a faulted period no energy total changes, the thermal power
reads NaN and, without a step of time, the error time grows by Tm for each period from its start to b. In a sound one error time
stays, and where the difference is at least the threshold and the direction allows heating, the heating register of the interval's
tariff grows by the whole millijoules of energy and remainder, and no other energy total changes; likewise cooling below minus the
threshold. Between, no energy total changes. The volume total grows by the whole millilitres of volume and remainder unless
metrology was invalid, a session open or the flow faulted. -/
def Obligations.MeteringPeriods : Prop :=
  ∀ (m b t0 : Nat) (s : State), meterRuns s = true → s.entriesWf → m < 16 → getB s (0x2200 + m) 0x01 = true →
    (meterAt s m).start = some t0 → boundary s t0 (periodMs s m) = some b → resultsTaken s m b = true →
    let c := periodCalc s m b
    let t := getN s 0x2240 0x05 % 4
    let d := dsub c.sup c.ret
    let th := toF64 (getF s (0x2210 + m) 0x09)
    ∃ u, runs (.meteringPeriodEnd m) s u ∧ (meterAt u m).start = some b ∧
      (∀ j r, j < 16 → j ≠ m → r < 8 → getBytes u (0x2200 + j) (0x30 + r) = getBytes s (0x2200 + j) (0x30 + r)) ∧
      (c.faulted = true → (∀ r, r < 8 → getN u (0x2200 + m) (0x30 + r) = getN s (0x2200 + m) (0x30 + r)) ∧
        getF u (0x2200 + m) 0x07 = nan32 ∧
        ((meterAt s m).stepped = false → holds u (0x2200 + m) 0x0B (getN s (0x2200 + m) 0x0B + (b - t0) / 1000)) ∧
        ((meterAt s m).stepped = false → b = t0 + periodMs s m → 1 ≤ getN s (0x2210 + m) 0x08 →
          holds u (0x2200 + m) 0x0B (getN s (0x2200 + m) 0x0B + getN s (0x2210 + m) 0x08))) ∧
      (c.faulted = false → getN u (0x2200 + m) 0x0B = getN s (0x2200 + m) 0x0B) ∧
      (c.faulted = false → dle th d = true → (getN s (0x2200 + m) 0x02 = 0 ∨ getN s (0x2200 + m) 0x02 = 2) →
        holds u (0x2200 + m) (0x30 + t) (getN s (0x2200 + m) (0x30 + t) +
          (dfloor (dadd (dmul c.energy (f64 1000)) (vAt (meterAt s m).rest t 0))).toNat) ∧
        ∀ r, r < 8 → r ≠ t → getN u (0x2200 + m) (0x30 + r) = getN s (0x2200 + m) (0x30 + r)) ∧
      (c.faulted = false → dle th d = false → dle d (dneg th) = true →
        (getN s (0x2200 + m) 0x02 = 1 ∨ getN s (0x2200 + m) 0x02 = 2) →
        holds u (0x2200 + m) (0x34 + t) (getN s (0x2200 + m) (0x34 + t) +
          (dfloor (dadd (dmul (dneg c.energy) (f64 1000)) (vAt (meterAt s m).rest (4 + t) 0))).toNat) ∧
        ∀ r, r < 8 → r ≠ 4 + t → getN u (0x2200 + m) (0x30 + r) = getN s (0x2200 + m) (0x30 + r)) ∧
      (c.faulted = false → dle th d = false → dle d (dneg th) = false →
        ∀ r, r < 8 → getN u (0x2200 + m) (0x30 + r) = getN s (0x2200 + m) (0x30 + r)) ∧
      ((c.invalid || c.session || c.flowFault) = true → getN u (0x2200 + m) 0x0C = getN s (0x2200 + m) 0x0C) ∧
      ((c.invalid || c.session || c.flowFault) = false → holds u (0x2200 + m) 0x0C (getN s (0x2200 + m) 0x0C +
        (dfloor (dadd (dmul c.volume (f64 1000000)) (meterAt s m).volRest)).toNat))

/-- With the metering engine running. PULSE_COUNTER_SECOND of an enabled counter q, once in a second, adds the edges of its port
since the last reading, modulo 2^32, to the total 2220+q.05 and to 2220+q.07. INTERVAL_END at the boundary b of the interval, when
the periods and seconds that end there have ended and the minute's schedule is evaluated (that it waits for them is the model's
reading, log 57), the waiting page writes are all of records, cells and rows, no read-back is known to differ and at most 40 seal
requests are held, stores one record at the place of the next sequence, 512 bytes that begin with 0x31494A54 and end with the
CRC-32C of the first 508, and nothing else in memory changes; 2243.02 is one more, the interval starts at b with the length now
set, and every meter's error time, slot flags and every counter's edges of the interval are 0. At a billing date passed since the
last boundary the 128 energy totals are copied to 2242.10 on and counted in 2242.02; otherwise the copies stay. -/
def Obligations.PulsesAndIntervals : Prop :=
  (∀ q s, meterRuns s = true → s.entriesWf → q < 32 → getB s (0x2220 + q) 0x01 = true →
    (vAt s.counters q counterRest).readSecond ≠ devTime s / 1000 →
    let e := getN s (0x2000 + getN s (0x2220 + q) 0x02) 0x0B
    let d := (e + 2 ^ 32 - (vAt s.counters q counterRest).lastCount) % 2 ^ 32
    ∃ u, runs (.pulseCounterSecond q) s u ∧ holds u (0x2220 + q) 0x05 (getN s (0x2220 + q) 0x05 + d) ∧
      holds u (0x2220 + q) 0x07 (getN s (0x2220 + q) 0x07 + d) ∧ vAt u.counters q counterRest = ⟨e, devTime s / 1000⟩ ∧
      ∀ j, j < 32 → j ≠ q → getBytes u (0x2220 + j) 0x05 = getBytes s (0x2220 + j) 0x05) ∧
  (∀ b s, meterRuns s = true → s.entriesWf → (chainHead s).length = 32 →
    boundary s (getN s 0x2243 0x01) (60000 * max 1 s.interval.length) = some b → periodsEnded s b = true →
    minuteSettled s = true → (∀ p ∈ s.stor.pend, ∀ a d, p.target ≠ .bytes a d) → s.stor.tape = [] → s.kiln.queue.length ≤ 40 →
    ∃ u r, runs .intervalEnd s u ∧ u.stor.mem = memWrites s.stor.mem (recordAddr (recordCount s)) r ∧ r.length = 512 ∧
      r.take 4 = leBytes 4 0x31494A54 ∧ r.drop 508 = leBytes 4 (crc32c (r.take 508)).toNat ∧
      holds u 0x2243 0x02 (recordCount s + 1) ∧ holds u 0x2243 0x01 b ∧ u.interval.length = getN s 0x2240 0x01 ∧
      (∀ m, m < 16 → (meterAt u m).errTime = 0 ∧ (meterAt u m).slotFlags = 0) ∧ (∀ q, q < 32 → holds u (0x2220 + q) 0x07 0) ∧
      (∀ d, lastBilling s (localDate s b) = some d → lastDate s < d → holds u 0x2242 0x02 (getN s 0x2242 0x02 + 1) ∧
        holds u 0x2242 0x01 b ∧
        ∀ i, i < 128 → getBytes u 0x2242 (0x10 + i) = getBytes s (0x2200 + i / 8) (0x30 + i % 8)) ∧
      ((∀ d, lastBilling s (localDate s b) = some d → d ≤ lastDate s) →
        ∀ i, i < 128 → getBytes u 0x2242 (0x10 + i) = getBytes s 0x2242 (0x10 + i)))

/-- While the islands run, for a loop not in Off. LOOP_SAMPLE_INSTANT at a tick of its period and phase latches setpoint source,
manual output and tick, and changes no entry and no condition. LOOP_RELEASE Tr ms later, with no output due, consumes the latch:
in Manual or Auto it releases the job computed from it, and, where no page read shows an error, of the entries only those of an
enabled repetitive controller and the read counts of its learning memory may change; a stale measurement in fresh mode releases
none, is counted in 2300+l.12 and raises 0x6300 + l; in Hold, Safe or suspended it releases none. LOOP_JOB_END of the first job in
the engine's order commits: the output is staged, 2300+l.11 counts and the fault conditions clear; after an input fault it raises
0x6100 + l, after an arithmetic fault 0x6400 + l, and keeps the loop's variables. LOOP_OUTPUT_INSTANT of a loop outside every
group applies the staged output, within 0 to 10 V, at its voltage port and shows it in 2300+l.06; a tripped port keeps its output,
which is shown; a job not ended is missed. HIGH_WATER_FLUSH does the waiting page writes of classes 0 to 4, stores 2500+l.0D, and
2500+l.0E with it. -/
def Obligations.LoopsRun : Prop :=
  (∀ l s, islandsRun s = true → l < 96 → loopMode s l ≠ 0 → (loopAt s l).lastSample ≠ some s.clock.tick →
    ((s.clock.tick : Int) - getN s (0x2400 + l) 0x02) % (loopTs s l : Nat) = 0 →
    ∃ u c, runs (.loopSampleInstant l) s u ∧ (loopAt u l).latch = some c ∧ c.ts = s.clock.tick ∧ c.v = sourceValue s l ∧
      c.man = getF s (0x2300 + l) 0x08 ∧ (∀ j, j ≠ l → loopAt u j = loopAt s j) ∧ u.ents = s.ents ∧ u.conds = s.conds) ∧
  (∀ l c s, islandsRun s = true → s.entriesWf → l < 96 → loopMode s l ≠ 0 → (loopAt s l).latch = some c →
    c.ts + getN s (0x2400 + l) 0x03 ≤ s.clock.tick → (∀ t, (loopAt s l).outAt = some t → s.clock.tick < t) →
    let x := loopAt (enterMode s l) l
    let stale := getN s (0x2400 + l) 0x05 = 1 ∧ isFresh s l c.ts = false
    ∃ u, runs (.loopRelease l) s u ∧ (loopAt u l).latch = none ∧ (loopAt u l).active = x.active ∧
      (suspended s l = true ∨ (x.active ≠ 1 ∧ x.active ≠ 2) → (loopAt u l).job = (loopAt s l).job ∧ u.ents = s.ents ∧ u.conds = s.conds) ∧
      (suspended s l = false → (x.active = 1 ∨ x.active = 2) → ¬ stale → (∃ j, (loopAt u l).job = some j ∧ j.ts = c.ts ∧
        j.auto = (x.active == 2)) ∧ (s.stor.shows = 0 → onlyConds [0x6600 + l] s u ∧
        onlyEntries [(0x2500 + l, 0x0A), (0x2500 + l, 0x0B), (0x2500 + l, 0x0D), (0x2F1B, 2), (0x2F1B, 3)] s u) ∧ (getB s (0x2500 + l) 0x01 = false → u.ents = s.ents ∧ u.conds = s.conds)) ∧
      (suspended s l = false → (x.active = 1 ∨ x.active = 2) → stale → (loopAt u l).job = none ∧ (loopAt u l).staged = none ∧
        holds u (0x2300 + l) 0x12 (getN s (0x2300 + l) 0x12 + 1) ∧ raised u (0x6300 + l) = true ∧ u.power.deadlineMiss = true)) ∧
  (∀ l j s, isUp s = true → s.entriesWf → l < 96 → (loopAt s l).job = some j → jobFirst s l j = true →
    ∃ u, runs (.loopJobEnd l) s u ∧ (loopAt u l).job = none ∧
      (j.fault = 0 → j.bits.testBit 16 = false → (loopAt u l).staged = some j.staged ∧ (loopAt u l).vars = j.vars ∧
        (loopAt u l).tlast = some j.ts ∧ holds u (0x2300 + l) 0x11 (getN s (0x2300 + l) 0x11 + 1) ∧
        raised u (0x6100 + l) = false ∧ raised u (0x6400 + l) = false) ∧
      (j.fault = 1 → (loopAt u l).vars = (loopAt s l).vars ∧ raised u (0x6100 + l) = true ∧ (loopAt u l).staged = some j.staged) ∧
      (2 ≤ j.fault → (loopAt u l).vars = (loopAt s l).vars ∧ raised u (0x6400 + l) = true ∧ (loopAt u l).staged = some j.staged)) ∧
  (∀ l n t s, islandsRun s = true → s.entriesWf → l < 96 → (loopAt s l).active ≠ 0 → (loopAt s l).outAt = some t → t ≤ s.clock.tick →
    groupOf s l = none → getN s (0x2300 + l) 0x0E = n → n < 64 → portMode s n = 11 →
    ∃ u, runs (.loopOutputInstant l) s u ∧ (loopAt u l).outAt = none ∧ (loopAt u l).staged = none ∧ (loopAt u l).job = none ∧
      (∀ k, k ≠ n → portAt u k = portAt s k) ∧
      (∀ v, (loopAt s l).job = none → (loopAt s l).staged = some v → (portAt s n).tripped = false →
        (portAt u n).out = fclamp v (f32 0) (f32 10) ∧ getF u (0x2300 + l) 0x06 = fclamp v (f32 0) (f32 10) ∧ u.conds = s.conds) ∧
      (∀ v, (loopAt s l).job = none → (loopAt s l).staged = some v → (portAt s n).tripped = true →
        portAt u n = portAt s n ∧ getF u (0x2300 + l) 0x06 = (portAt s n).out ∧ u.conds = s.conds) ∧
      ((loopAt s l).job.isSome = true → holds u (0x2300 + l) 0x12 (getN s (0x2300 + l) 0x12 + 1) ∧ raised u (0x6300 + l) = true)) ∧
  (∀ l s, isUp s = true → hamperFree s = true → l < 96 → getB s (0x2500 + l) 0x01 = true →
    (recValue s (keyOf (0x2500 + l) 0x0D)).getD (leBytes 8 0) ≠ getBytes s (0x2500 + l) 0x0D → s.stor.tape = [] →
    (∀ p ∈ s.stor.pend, p.cls = 4 → p.writer ≠ .loop) →
    ∃ u, runs (.highWaterFlush l) s u ∧ recValue u (keyOf (0x2500 + l) 0x0D) = some (getBytes s (0x2500 + l) 0x0D) ∧
      u.loops = s.loops ∧ (∀ p ∈ u.stor.pend, p ∈ s.stor.pend ∧ 4 < p.cls) ∧
      (s.stor.pend = [] → u.stor.mem = s.stor.mem ∧ onlyConds [0xC020] s u ∧
        recValue u (keyOf (0x2500 + l) 0x0E) = some (leBytes (entSize (0x2500 + l) 0x0E) (getN s (0x2500 + l) 0x0E))))

/-- For every state. A job whose measurement or setpoint reads NaN is an input fault and keeps the variables. A completed job in
Auto that is no resumption and no hand-over, with gain-table mode 0, Ti above 0 and no competition, has error sigma (w - y),
integral clamp(I + K dt / Ti e) and u = P + I + D + bias + r, in binary32 and in that order; its computed output is u clamped to the
output limits, and where no ramp runs it stages that clamped to the range of the port. Every completed job in Auto with no ramp stages a value from 0 to
the range's end. Among the candidates of a competition group the winner is one of them and none is lower. -/
def Obligations.LoopLaw : Prop :=
  (∀ s l c auto, inputFault s l (loopInput s l c.reg) c.v = true →
    (computeJob s l c auto).fault = 1 ∧ (computeJob s l c auto).vars = (loopAt s l).vars) ∧
  (∀ s l c t0, (computeJob s l c true).fault = 0 → (loopAt s l).resume = 0 → (loopAt s l).tlast = some t0 →
    (loopAt s l).tableChanged = false → (loopAt s l).repChanged = false → getN s (0x2400 + l) 0x11 = 0 →
    flt (f32 0) (lf s l 0x07) = true → loses s l true = false →
    let j := computeJob s l c true
    let x := loopAt s l
    let y := loopInput s l c.reg
    let dt := f32 (c.ts - t0 : Nat) 1000
    let w := (setpoint s l c.v dt false).2.2.1
    let sigma := if getN s (0x2300 + l) 0x0F = 0 then f32 1 else f32 (-1)
    let e := fmul sigma (fsub w y)
    let k := fmul (lf s l 0x06) (f32 1)
    let p := fmul k (fmul sigma (fsub (fmul (lf s l 0x0A) w) y))
    let i := fclamp (fadd x.vars.i (fmul (fdiv (fmul k dt) (lf s l 0x07)) e)) (iLow s l) (iHigh s l)
    let u := fadd (fadd (fadd (fadd p i) (derivative s l k y dt sigma false)) (lf s l 0x0B)) (repTerm s l c.lam true).1
    j.vars.w = w ∧ j.vars.e = e ∧ j.vars.p = p ∧ j.vars.i = i ∧
      j.vars.u = fclamp u (lf s l 0x0C) (lf s l 0x0D) ∧ j.vars.yprev = y ∧
      (x.ramp = false → j.staged = clampPort s (loopPort s l) (fclamp u (lf s l 0x0C) (lf s l 0x0D)))) ∧
  (∀ s l c, (computeJob s l c true).fault = 0 → (computeJob s l c true).ramp = false →
    fle (f32 0) (computeJob s l c true).staged = true ∧
      fle (computeJob s l c true).staged (outHigh (portMode s (loopPort s l))) = true) ∧
  (∀ cs w b, lowest cs w = some b → b ∈ cs ∧ ∀ c ∈ cs, flt c.2 b.2 = false)

/-- While the firmware runs, at a second not evaluated yet, ZONE_EVALUATION of an enabled zone completes with a mode in 2800+z.04
and a reason in 2800+z.05. While its trip is latched the mode is 2820+z.1C with reason 1; else in a boost it is 5 with reason 3;
else with a request not expired it is the request with reason 2; else with no program, no optimum start and no presence action it
is the default mode with reason 6. The heating and cooling setpoints shown are those of that mode, -1e30 and 1e30 in Off, and bits
0, 2, 3 and 5 of the status are set for enabled, requested, boosted and tripped. A zone that is not enabled, or evaluated in this
second, does nothing. -/
def Obligations.ZoneModes : Prop :=
  (∀ z s, isUp s = true → s.entriesWf → z < 32 → zoneOn s z = true → (zoneAt s z).lastSecond ≠ some (devTime s / 1000) →
    ∃ u m why, runs (.zoneEvaluation z) s u ∧ holds u (0x2800 + z) 0x04 m ∧ holds u (0x2800 + z) 0x05 why ∧
      getF u (0x2800 + z) 0x08 = (if m = 0 then fneg offValue else getF s (0x2820 + z) (0x02 + m)) ∧
      getF u (0x2800 + z) 0x09 = (if m = 0 then offValue else getF s (0x2820 + z) (0x07 + m)) ∧
      (zoneTripped s z = true → m = getN s (0x2820 + z) 0x1C ∧ why = 1) ∧
      (zoneTripped s z = false → (zoneAt s z).boostEnd.isSome = true → m = 5 ∧ why = 3) ∧
      (zoneTripped s z = false → (zoneAt s z).boostEnd = none → requestExpired s z = false → getN s (0x2800 + z) 0x02 ≠ 255 →
        m = getN s (0x2800 + z) 0x02 ∧ why = 2) ∧
      (zoneTripped s z = false → (zoneAt s z).boostEnd = none → getN s (0x2800 + z) 0x02 = 255 → 63 < getN s (0x2820 + z) 0x01 →
        getB s (0x2820 + z) 0x16 = false → getN s (0x2820 + z) 0x14 = 0 → m = getN s (0x2820 + z) 0x02 ∧ why = 6) ∧
      (getN u (0x2800 + z) 0x0A).testBit 0 = true ∧ (getN u (0x2800 + z) 0x0A).testBit 3 = (zoneAt s z).boostEnd.isSome ∧
      (getN u (0x2800 + z) 0x0A).testBit 5 = zoneTripped s z ∧
      (requestExpired s z = false → (getN u (0x2800 + z) 0x0A).testBit 2 = (getN s (0x2800 + z) 0x02 != 255))) ∧
  (∀ z s, zoneOn s z = false ∨ (zoneAt s z).lastSecond = some (devTime s / 1000) → exec (.zoneEvaluation z) s = .next s)

/-- While the firmware runs. PRESENCE_SAMPLE of an enabled zone, at a tick that is a multiple of 100 not sampled yet, completes:
raw presence is the register's where the zone takes it and its subscription is alive, or that of any named port without a fault,
the instant of its change is kept, and a faulty port raises 0x7040 + z. OCCUPIED_SET, once raw presence has held for 2820+z.12 ms,
sets 2800+z.06 and status bit 1; OCCUPIED_CLEAR, once absent for 2820+z.13 ms, clears both; no other entry changes. REQUEST_EXPIRY
at the expiry sets the request to none, which is a write of the device in the audit log, and the expiry to 0, and clears status
bit 2. BOOST_END at the boost's end ends it and clears status bit 3. Before these times nothing happens. -/
def Obligations.ZonePresence : Prop :=
  (∀ z s, isUp s = true → s.entriesWf → z < 32 → zoneOn s z = true → s.clock.tick % 100 = 0 →
    (zoneAt s z).lastSample ≠ some s.clock.tick →
    let ps := presencePorts s z
    ∃ u, runs (.presenceSample z) s u ∧ (zoneAt u z).lastSample = some s.clock.tick ∧
      (zoneAt u z).raw = ((getB s (0x2820 + z) 0x11 && getB s (0x2800 + z) 0x0B && !subTimedOut s (0x2800 + z) 0x0B) ||
        ps.any fun n => !portFaulty s n && getN s (0x2000 + n) 0x0A == 1) ∧
      ((zoneAt u z).raw ≠ (zoneAt s z).raw → (zoneAt u z).rawSince = s.clock.tick) ∧
      (∀ n ∈ ps, portFaulty s n = true → raised u (0x7040 + z) = true) ∧ onlyEntries [(0x2800 + z, 0x0A)] s u ∧
      onlyConds [0x7040 + z] s u ∧ (∀ j, j ≠ z → zoneAt u j = zoneAt s j)) ∧
  (∀ z s, isUp s = true → s.entriesWf → z < 32 → zoneOn s z = true → (zoneAt s z).raw = true → getB s (0x2800 + z) 0x06 = false →
    (zoneAt s z).rawSince + getN s (0x2820 + z) 0x12 ≤ s.clock.tick →
    ∃ u, runs (.occupiedSet z) s u ∧ holds u (0x2800 + z) 0x06 1 ∧ holds u (0x2800 + z) 0x0A (putBit (getN s (0x2800 + z) 0x0A) 1 true) ∧
      onlyEntries [(0x2800 + z, 0x06), (0x2800 + z, 0x0A)] s u ∧ u.conds = s.conds) ∧
  (∀ z s, isUp s = true → s.entriesWf → z < 32 → zoneOn s z = true → (zoneAt s z).raw = false → getB s (0x2800 + z) 0x06 = true →
    (zoneAt s z).rawSince + getN s (0x2820 + z) 0x13 ≤ s.clock.tick →
    ∃ u, runs (.occupiedClear z) s u ∧ holds u (0x2800 + z) 0x06 0 ∧ holds u (0x2800 + z) 0x0A (putBit (getN s (0x2800 + z) 0x0A) 1 false) ∧
      onlyEntries [(0x2800 + z, 0x06), (0x2800 + z, 0x0A)] s u ∧ u.conds = s.conds) ∧
  (∀ z s, isUp s = true → s.entriesWf → z < 32 → requestExpired s z = true →
    ∃ u, runs (.requestExpiry z) s u ∧ holds u (0x2800 + z) 0x02 255 ∧ holds u (0x2800 + z) 0x10 0 ∧
      holds u (0x2800 + z) 0x0A (putBit (getN s (0x2800 + z) 0x0A) 2 false) ∧
      (∀ i j, i < 0x2C00 → (i, j) ∉ [(0x2800 + z, 0x02), (0x2800 + z, 0x0A), (0x2800 + z, 0x10)] → getBytes u i j = getBytes s i j) ∧
      (hamperFree s = true → getN s (0x2800 + z) 0x02 ≠ 255 → u.audit.count = s.audit.count + 1) ∧
      onlyConds (0x9020 :: storageConds) s u ∧ u.zones = s.zones) ∧
  (∀ z t s, isUp s = true → s.entriesWf → z < 32 → (zoneAt s z).boostEnd = some t → t ≤ s.clock.tick →
    ∃ u, runs (.boostEnd z) s u ∧ zoneAt u z = { zoneAt s z with boostEnd := none } ∧
      holds u (0x2800 + z) 0x0A (putBit (getN s (0x2800 + z) 0x0A) 3 false) ∧ onlyEntries [(0x2800 + z, 0x0A)] s u ∧
      u.conds = s.conds) ∧
  (∀ z s, requestExpired s z = false → exec (.requestExpiry z) s = .next s) ∧
  (∀ z t s, (zoneAt s z).boostEnd = some t → s.clock.tick < t → exec (.boostEnd z) s = .next s)

/-- While the Kiln may sign and no request is busy, SIGNING_START takes, of the requests that hold a place of the queue, the first
that ranks lowest (an interrupted one, then event, billing, daily, attestation, on demand): it is signing with the header of that
instant and 2B20.03 shows its kind.
Where no read-back is known to differ and at most 40 requests are held, SIGNING_COMPLETE with a good signature outside a warning commits a seal to be stored: the 8 192 bytes of its slot hold header,
signature and CRC, no other byte of memory changes, the next sequence is one more, the request leaves the queue and 0x8001 is
raised with 0x8040, 0x8030 and 0x9020 clear, and kept billing requests take the places that are free; during a warning it is held and nothing is stored; an attestation becomes the
statement of its requester and nothing is stored. A bad signature counts in 2B20.09: the first is signed again at once, or
waits where the TRNG is halted; the second waits with 0x8040 raised. SIGNING_RETRY 60 s later signs it again. -/
def Obligations.SealsAreSigned : Prop :=
  (∀ i s, canSign s = true → s.entriesWf → busyPlace s.kiln.queue = none → nextRequest s.kiln.queue = some i →
    i < s.kiln.queue.length ∧ (requestAt s.kiln.queue i).placed = true ∧
    (∀ j, j < s.kiln.queue.length → (requestAt s.kiln.queue j).placed = true →
      (requestAt s.kiln.queue i).rank ≤ (requestAt s.kiln.queue j).rank ∧
      (j < i → (requestAt s.kiln.queue i).rank < (requestAt s.kiln.queue j).rank)) ∧
    ∃ u, runs .signingStart s u ∧ (requestAt u.kiln.queue i).phase = .signing 1 ∧
      (requestAt u.kiln.queue i).header = sealHeader s (requestAt s.kiln.queue i) ∧
      (requestAt u.kiln.queue i).started = s.clock.tick ∧ holds u 0x2B20 0x03 (requestAt s.kiln.queue i).kind ∧
      u.stor = s.stor ∧ u.conds = s.conds) ∧
  (∀ i n s, isUp s = true → s.power.entry = none → s.entriesWf → busyPlace s.kiln.queue = some i →
    (requestAt s.kiln.queue i).phase = .signing n → (∀ p ∈ s.stor.pend, ∀ a d, p.target ≠ .bytes a d) → s.stor.tape = [] →
    s.kiln.queue.length ≤ 40 → (requestAt s.kiln.queue i).header.length = 256 → (requestAt s.kiln.queue i).sig.length = 7856 →
    let r := requestAt s.kiln.queue i
    let rest := s.kiln.queue.eraseIdx i
    let slot := nextSlot s (r.kind == 1)
    (r.kind ≠ 4 → s.power.warning = none → slot < 768 → ∃ u, runs (.signingComplete true) s u ∧
      u.stor.mem = memWrites s.stor.mem (sealAddr slot) (slotImage r.header r.sig) ∧
      u.kiln.queue = enterPlaces (contenders rest) rest ∧
      holds u 0x2B10 0x01 (getN s 0x2B10 0x01 + 1) ∧ holds u 0x2B20 0x06 (s.clock.tick - r.started) ∧
      (∃ m ∈ u.kiln.seals, m.slot = slot ∧ m.seq = getN s 0x2B10 0x01 ∧ m.header = r.header ∧ m.digest = sha256 r.header) ∧
      raised u 0x8001 = true ∧ raised u 0x8040 = false ∧ raised u 0x8030 = false ∧ raised u 0x9020 = false) ∧
    (r.kind ≠ 4 → s.power.warning.isSome = true → ∃ u, runs (.signingComplete true) s u ∧
      (requestAt u.kiln.queue i).phase = .held ∧ u.stor = s.stor ∧ u.conds = s.conds) ∧
    (r.kind = 4 → ∃ u, runs (.signingComplete true) s u ∧ u.stor.mem = s.stor.mem ∧
      u.kiln.queue = enterPlaces (contenders rest) rest ∧
      ⟨r.who, r.header ++ r.sig, s.clock.tick⟩ ∈ u.kiln.statements ∧ getBytes u 0x2B10 0x01 = getBytes s 0x2B10 0x01) ∧
    (n = 1 → s.kiln.trngHalted = none → ∃ u, runs (.signingComplete false) s u ∧ (requestAt u.kiln.queue i).phase = .signing 2 ∧
      (requestAt u.kiln.queue i).header = r.header ∧ holds u 0x2B20 0x09 (getN s 0x2B20 0x09 + 1) ∧ u.conds = s.conds) ∧
    (n = 1 → s.kiln.trngHalted.isSome = true → ∃ u, runs (.signingComplete false) s u ∧
      (requestAt u.kiln.queue i).phase = .failedOnce ∧ holds u 0x2B20 0x09 (getN s 0x2B20 0x09 + 1) ∧ u.conds = s.conds) ∧
    (n ≠ 1 → ∃ u, runs (.signingComplete false) s u ∧ (requestAt u.kiln.queue i).phase = .retry s.clock.tick ∧
      holds u 0x2B20 0x09 (getN s 0x2B20 0x09 + 1) ∧ raised u 0x8040 = true ∧ onlyConds [0x8040] s u)) ∧
  (∀ i t s, canSign s = true → busyPlace s.kiln.queue = some i → (requestAt s.kiln.queue i).phase = .retry t → t + 60000 ≤ s.clock.tick →
    ∃ u, runs .signingRetry s u ∧ (requestAt u.kiln.queue i).phase = .signing 1 ∧
      (requestAt u.kiln.queue i).header = sealHeader s (requestAt s.kiln.queue i) ∧ u.ents = s.ents ∧ u.conds = s.conds)

/-- An audit entry is 64 bytes, numbered by its ordinal, ends with the head before it, stands at the place of its ordinal, and its
digest is the new head; in a power-fail warning or a reset entry none is written (the model's reading, log 75). TRNG_HEALTH_FAILURE raises 0x9001 and no signing starts; TRNG_RETEST 60 s later resumes it where the tests
pass and 0x9001 stays for its clear time. STATEMENT_EXPIRY 60 s after a statement became ready gives it up. TAMPER_LOG with
activations held for an input adds them to 2C30.06 + i and to 2C30.0A, shows the last time in 2C30.08 + i, writes one audit entry,
sets the tamper mark and raises 0x9010, and holds none any more. CONFIRMATION_TIMEOUT under the automatic policy, with a trial
image running for its time, confirms it: state 4, the security counter not below the image's version, no fallback, 0x9031 clear.
-/
def Obligations.TrustEvents : Prop :=
  (∀ (s : State) (who : Requester) (kind index sub flags : Nat) (v : Bytes), s.audit.head.length = 32 → hamperFree s = true →
    let b := auditBytes s who kind index sub flags v
    let u := appendAudit s who kind index sub flags v
    b.length = 64 ∧ b.take 4 = leBytes 4 s.audit.count ∧ b.drop 32 = s.audit.head ∧ u.audit.count = s.audit.count + 1 ∧
      u.audit.head = sha256 b ∧ (s.stor.tape = [] → (∀ p ∈ s.stor.pend, ∀ a d, p.target ≠ .bytes a d) →
        u.stor.mem = memWrites s.stor.mem (auditAddr s.audit.count) b)) ∧
  (∀ (s : State) (who : Requester) (kind index sub flags : Nat) (v : Bytes), hamperFree s = false →
    appendAudit s who kind index sub flags v = s) ∧
  (∀ s, isUp s = true → ∃ u, runs .trngHealthFailure s u ∧ u.kiln.trngHalted = some s.clock.tick ∧ raised u 0x9001 = true ∧
    canSign u = false ∧ exec .signingStart u = .next u ∧ u.ents = s.ents ∧ onlyConds [0x9001] s u) ∧
  (∀ t pass s, isUp s = true → s.kiln.trngHalted = some t → t + 60000 ≤ s.clock.tick →
    ∃ u, runs (.trngRetest pass) s u ∧ u.kiln.trngHalted = (if pass then none else some s.clock.tick) ∧ u.ents = s.ents ∧
      onlyConds [] s u) ∧
  (∀ st s, isUp s = true → st ∈ s.kiln.statements → st.ready + 60000 ≤ s.clock.tick →
    ∃ u, runs (.statementExpiry st.who) s u ∧ (∀ x ∈ u.kiln.statements, x.who ≠ st.who) ∧
      (∀ x ∈ s.kiln.statements, x.who ≠ st.who → x ∈ u.kiln.statements) ∧ u.ents = s.ents ∧ u.conds = s.conds) ∧
  (∀ i s, isUp s = true → hamperFree s = true → i < 2 → 0 < (tamperAt s i).count → s.entriesWf →
    ∃ u, runs (.tamperLog i) s u ∧ (tamperAt u i).count = 0 ∧ (tamperAt u i).first = none ∧
      holds u 0x2C30 (0x06 + i) (getN s 0x2C30 (0x06 + i) + (tamperAt s i).count) ∧ holds u 0x2C30 (0x08 + i) (tamperAt s i).last ∧
      holds u 0x2C30 0x0A (getN s 0x2C30 0x0A + (tamperAt s i).count) ∧ u.audit.count = s.audit.count + 1 ∧
      u.power.tamperMark = true ∧ raised u 0x9010 = true) ∧
  (∀ s, isUp s = true → hamperFree s = true → s.power.runningSlot < 2 → (slotInfo s s.power.runningSlot).state = 3 →
    getN s 0x2D20 0x02 = 0 → s.update.runSince + 1000 * getN s 0x2D20 0x05 ≤ s.clock.tick →
    (∀ p ∈ s.stor.pend, ∀ n d, p.target ≠ .record (recSlot n) d) → s.stor.tape = [] →
    ∃ u, runs .confirmationTimeout s u ∧ (slotInfo u s.power.runningSlot).state = 4 ∧
      u.kiln.counter = max s.kiln.counter (slotInfo s s.power.runningSlot).security ∧ u.power.fallback = false ∧
      raised u 0x9031 = false ∧ s.audit.count < u.audit.count)

/-- A TRANSMISSION_ERROR of a path with something to send, or with a frame in transmission that left its queue, adds 8 to its transmit error counter (nothing for a missing
acknowledgement while error-passive), counts in 1108+p.08 and 2F14+p.01, raises 0xA050 + p at 3 bit errors in a row and 0xA030 + p
at 16 missing acknowledgements, and above 255 makes the path bus-off with 0xA010 + p. BUS_OFF_RECOVERY starts the counters at 0
(counters of ISO 11898-1: log 45). A transceiver fault raises 0xA040 + p; its end keeps it for its clear time. ERROR_PASSIVE_LIMIT
raises 0xA020 + p after the pair's limit, QUIET_PATH 0xA060 + p. RECEIVE_ERROR counts; a remote frame counts as received and makes
the path heard. FRAME_COMPLETED of the frame offered at the start of frame, with nothing waiting, counts in
1108+p.06, lowers the counter by one, and takes the trip frame it sent off its queue; with transmitter delay compensation and a
measured delay above 1 587.5 ns it ends as a bit error instead. -/
def Obligations.PathErrors : Prop :=
  (∀ p e s, ((offer s p).isSome = true ∨ (txOpen s p = true ∧ (pathAt s p).left ≠ [])) → s.entriesWf →
    let x := pathAt s p
    let tx := if e = .ack ∧ errorPassive x = true then x.txErr else x.txErr + 8
    ∃ u, runs (.transmissionError p e) s u ∧ (pathAt u p).txErr = min 256 tx ∧
      (pathAt u p).echoErrors = (if e = .bit then x.echoErrors + 1 else 0) ∧
      (pathAt u p).ackErrors = (if e = .ack then min 16 (x.ackErrors + 1) else 0) ∧
      holds u (0x1108 + p) 0x08 (getN s (0x1108 + p) 0x08 + 1) ∧ holds u (0x2F14 + p) 0x01 (getN s (0x2F14 + p) 0x01 + 1) ∧
      (e = .bit → 2 ≤ x.echoErrors → raised u (0xA050 + p) = true) ∧
      (e = .ack → 15 ≤ x.ackErrors → raised u (0xA030 + p) = true ∧ (pathAt u p).lonely = true) ∧
      (255 < tx → (pathAt u p).busOff = true ∧ raised u (0xA010 + p) = true ∧
        holds u (0x1108 + p) 0x09 (getN s (0x1108 + p) 0x09 + 1)) ∧
      (tx ≤ 255 → (pathAt u p).busOff = x.busOff)) ∧
  (∀ p s, islandsRun s = true → p < 4 → (pathAt s p).busOff = true →
    ∃ u, runs (.busOffRecovery p) s u ∧ (pathAt u p).busOff = false ∧ (pathAt u p).txErr = 0 ∧ (pathAt u p).rxErr = 0 ∧
      (∀ t ∈ (pathAt u p).trips, t ∈ (pathAt s p).trips) ∧ onlyConds [0xA070, 0xA071] s u) ∧
  (∀ p bits s, islandsRun s = true → pathPowered s p = true → p < 4 → 0 < bits → bits < 16 →
    ∃ u, runs (.transceiverFault p bits) s u ∧ (pathAt u p).xcvr = bits ∧ raised u (0xA040 + p) = true ∧
      onlyConds [0xA040 + p, 0xA070, 0xA071] s u) ∧
  (∀ p s, islandsRun s = true → p < 4 → (pathAt s p).xcvr ≠ 0 →
    ∃ u, runs (.transceiverFaultCleared p) s u ∧ (pathAt u p).xcvr = 0 ∧ onlyConds [0xA070, 0xA071] s u) ∧
  (∀ p t s, islandsRun s = true → p < 4 → (pathAt s p).passiveSince = some t → t + (pairAt s (p / 2)).passiveLimit < s.clock.tick →
    (pathAt s p).passiveTooLong = false →
    ∃ u, runs (.errorPassiveLimit p) s u ∧ (pathAt u p).passiveTooLong = true ∧ raised u (0xA020 + p) = true ∧
      onlyConds [0xA020 + p, 0xA070, 0xA071] s u) ∧
  (∀ p s, islandsRun s = true → pathPowered s p = true → p < 4 → (pathAt s p).quiet = false → quietNow s p = true →
    ∃ u, runs (.quietPath p) s u ∧ (pathAt u p).quiet = true ∧ raised u (0xA060 + p) = true ∧
      onlyConds [0xA060 + p, 0xA070, 0xA071] s u) ∧
  (∀ p heavy s, rxOpen s p = true → s.entriesWf →
    ∃ u, runs (.receiveError p heavy) s u ∧ (pathAt u p).rxErr = min 255 ((pathAt s p).rxErr + if heavy then 8 else 1) ∧
      holds u (0x1108 + p) 0x08 (getN s (0x1108 + p) 0x08 + 1) ∧ onlyConds [0xA070, 0xA071] s u) ∧
  (∀ p s, rxOpen s p = true → s.entriesWf →
    ∃ u, runs (.remoteFrameReceived p) s u ∧ (pathAt u p).lastHeard = s.clock.tick ∧ (pathAt u p).quiet = false ∧
      (pathAt u p).lonely = false ∧ ((pathAt s p).rxErr ≤ 127 → (pathAt u p).rxErr = (pathAt s p).rxErr - 1) ∧
      holds u (0x1108 + p) 0x07 (getN s (0x1108 + p) 0x07 + 1) ∧ u.kdp.wait = s.kdp.wait ∧ onlyConds [0xA070, 0xA071] s u) ∧
  (∀ p o sof delay s, offerAt s p sof = some o → s.kdp.wait = [] → s.entriesWf → compensates s p o = true → 3175 < 2 * delay →
    ∃ u, runs (.frameCompleted p sof delay) s u ∧ holds u (0x1108 + p) 0x0D (min 65535 delay) ∧
      holds u (0x1108 + p) 0x08 (getN s (0x1108 + p) 0x08 + 1) ∧ getBytes u (0x1108 + p) 0x06 = getBytes s (0x1108 + p) 0x06 ∧
      (pathAt u p).echoErrors = (pathAt s p).echoErrors + 1) ∧
  (∀ p o sof delay s, offerAt s p sof = some o → s.kdp.wait = [] → s.entriesWf → ¬ (compensates s p o = true ∧ 3175 < 2 * delay) →
    ∃ u, runs (.frameCompleted p sof delay) s u ∧ holds u (0x1108 + p) 0x06 (getN s (0x1108 + p) 0x06 + 1) ∧
      (pathAt u p).txErr = (pathAt s p).txErr - 1 ∧ (pathAt u p).ackErrors = 0 ∧
      (∀ t, o = .inl t → (pathAt u p).trips = (pathAt s p).trips.erase t) ∧
      (∀ f, o = .inr f → (pathAt u p).trips = (pathAt s p).trips))

/-- While the islands run, for an enabled pair. LEASE_EXPIRY moves the Basket to the other path where that passes self-test, with
cause 1 and 0xA070 + i where the holder fails self-diagnosis and cause 2 where not, its queue going along in order, a frame in
transmission first, but for raw frames addressed by path; where the other path does not pass, the holder keeps it for another lease. HEARTBEAT_DUE at a quarter of the
lease without renewal queues one heartbeat on the holder. HEARTBEAT_LOSES_ARBITRATION withdraws it and renews the lease. PAIR_JOIN
after the listening time gives the Basket to the preferred path if it passes self-test, or if neither path does and the path mask
has it, else to the other. -/
def Obligations.BasketMoves : Prop :=
  (∀ i h s, islandsRun s = true → i < 2 → (pairAt s i).enabled = true → (pairAt s i).holder = some h → h < 2 →
    (pairAt s i).expiry ≤ s.clock.tick → s.entriesWf →
    ∃ u, runs (.leaseExpiry i) s u ∧
      (passes s (pathOf i (1 - h)) = true → (pairAt u i).holder = some (1 - h) ∧
        (pairAt u i).expiry = s.clock.tick + (pairAt s i).lease ∧ (pathAt u (pathOf i h)).queue = [] ∧
        (∃ cut : Option Frame, let rest := (pathAt s (pathOf i h)).queue.filter (fun f => !rawByPath f)
          (∀ f, cut = some f → f ∈ rest) ∧ (pathAt u (pathOf i (1 - h))).queue = (pathAt s (pathOf i (1 - h))).queue ++
            (cut.toList ++ cut.elim rest rest.erase).map (fun f => { f with queued := s.clock.ref })) ∧
        holds u (0x1104 + i) 0x06 (getN s (0x1104 + i) 0x06 + 1) ∧
        holds u (0x1104 + i) 0x07 (if pathFails s (pathOf i h) then 1 else 2) ∧
        (pathFails s (pathOf i h) = true → raised u (0xA070 + i) = true) ∧ onlyConds [0xA070 + i] s u) ∧
      (passes s (pathOf i (1 - h)) = false → (pairAt u i).holder = some h ∧
        (pairAt u i).expiry = s.clock.tick + (pairAt s i).lease ∧ (pathAt u (pathOf i h)).queue = (pathAt s (pathOf i h)).queue ∧
        u.ents = s.ents ∧ u.conds = s.conds)) ∧
  (∀ i s, islandsRun s = true → i < 2 → heartbeatDue s i = true → s.clock.tick < (pairAt s i).expiry → sendPath s i < 4 →
    ∃ u, runs (.heartbeatDue i) s u ∧ (pairAt u i).hbPending = true ∧ (pairAt u i).hbCount = ((pairAt s i).hbCount + 1) % 256 ∧
      (pathAt u (sendPath s i)).queue = (pathAt s (sendPath s i)).queue ++ [{ heartbeat s i with queued := s.clock.ref }] ∧
      (heartbeat s i).kind = .heartbeat ∧
      u.ents = s.ents ∧ u.conds = s.conds) ∧
  (∀ i s, islandsRun s = true → i < 2 → (pairAt s i).enabled = true → (pairAt s i).holder.isSome = true →
    (pairAt s i).hbPending = true → sendPath s i < 4 →
    ∃ u, runs (.heartbeatLosesArbitration i) s u ∧ (pairAt u i).hbPending = false ∧ (pairAt u i).holder = (pairAt s i).holder ∧
      (pairAt u i).expiry = s.clock.tick + getN s (0x1104 + i) 0x01 ∧
      (∀ f ∈ (pathAt u (sendPath s i)).queue, f.kind ≠ .heartbeat) ∧ u.ents = s.ents ∧ u.conds = s.conds) ∧
  (∀ i t s, islandsRun s = true → i < 2 → (pairAt s i).enabled = true → (pairAt s i).joinEnd = some t → t ≤ s.clock.tick →
    (pairAt s i).preferred < 2 → pathFails s (2 * i) = false → pathFails s (2 * i + 1) = false →
    ∃ u, runs (.pairJoin i) s u ∧ (pairAt u i).joinEnd = none ∧ (pairAt u i).holder = some
      (if passes s (pathOf i (pairAt s i).preferred) || (!passes s (pathOf i (1 - (pairAt s i).preferred)) &&
        (pairAt s i).mask.testBit (pairAt s i).preferred) then (pairAt s i).preferred else 1 - (pairAt s i).preferred))

/-- A trip frame that reception accepts: one whose origin and channel last brought the same tag is dropped and counted in 1110.05;
else, with the channel in the receive mask and fewer than 256 sources asserting, the remote source of that origin and channel has
its state and tag. A routed KDP frame for another segment, whole and with the routed flag, that the bridge forwards leaves with
service 0x5 and the same data at the end of the other pair's queue and is counted in 1300.06 or .07, or in 1300.08 where the queue
is full. A frame that no service handles is written into every raw mailbox that takes it: identifier, data, time and count.
TRIP_REFRESH, when due, starts its time anew and sends a channel that a sending local source asserts again with its tag on every
path of an enabled pair. -/
def Obligations.FramesReceived : Prop :=
  (∀ f s, (receiveFrame s f 0).1 = true → s.entriesWf → 8 ≤ f.data.length → fieldN f.data 0 1 ≤ 63 →
    let c := fieldN f.data 0 1
    let on := fieldN f.data 1 1 == 1
    let node := fieldN f.data 2 1
    let seg := fieldN f.data 4 2
    ∃ u, runs (.tripFrameReceived f) s u ∧
      ((∃ r, remoteOf s seg node c = some r ∧ r.tag = idTag f.id) →
        holds u 0x1110 0x05 (getN s 0x1110 0x05 + 1) ∧ u.bus.remotes = s.bus.remotes ∧ u.ports = s.ports) ∧
      ((∀ r, remoteOf s seg node c = some r → r.tag ≠ idTag f.id) → (getN s 0x1110 0x01).testBit c = true →
        (s.bus.remotes.filter (·.asserted)).length < 256 →
        ∃ r, remoteOf u seg node c = some r ∧ r.tag = idTag f.id ∧ r.asserted = on) ∧
      ((∀ r, remoteOf s seg node c = some r → r.tag ≠ idTag f.id) → (getN s 0x1110 0x01).testBit c = false →
        u.bus.remotes = s.bus.remotes ∧ u.ports = s.ports)) ∧
  (∀ f j s s1, receiveFrame s f (if isService f 5 then 5 else 1) = (true, s1) → s.entriesWf → 12 ≤ f.data.length →
    8 + fieldN f.data 6 2 ≤ f.data.length → 4 ≤ fieldN f.data 6 2 → (fieldN f.data 1 1).testBit 3 = true →
    fieldN f.data 8 2 ≠ (pairAt s (f.path / 2)).segment → forwardTo s (f.path / 2) (fieldN f.data 8 2) = some j →
    sendPath s1 j < 4 →
    (freePlaces s1 j ≠ 0 → ∃ u fr, runs (.kdpForward f) s u ∧ fr.data = f.data ∧ idService fr.id = 5 ∧ idTag fr.id = idTag f.id ∧
      (pathAt u (sendPath s1 j)).queue = (pathAt s1 (sendPath s1 j)).queue ++ [fr] ∧
      holds u 0x1300 (if j = 1 then 0x06 else 0x07) (getN s 0x1300 (if j = 1 then 0x06 else 0x07) + 1)) ∧
    (freePlaces s1 j = 0 → ∃ u, runs (.kdpForward f) s u ∧ holds u 0x1300 0x08 (getN s 0x1300 0x08 + 1) ∧
      u.bus.paths = s1.bus.paths)) ∧
  (∀ f s, rxOpen s f.path = true → s.entriesWf → isService f 4 = false →
    (f.ext && f.fd && serviceClass (idService f.id) (idClass f.id)) = false →
    ∃ u, runs (.rawFrameReceived f) s u ∧ (pathAt u f.path).lastHeard = s.clock.tick ∧
      ∀ k, k < 16 → if mailTakes s k f then
          holds u (0x1400 + k) 0x06 (f.id % 2 ^ 29 + bitVal f.ext 29 + bitVal f.fd 30 + bitVal f.brs 31) ∧
          getBytes u (0x1400 + k) 0x08 = f.data ∧ holds u (0x1400 + k) 0x0A f.sof ∧
          holds u (0x1400 + k) 0x0B (getN s (0x1400 + k) 0x0B + 1)
        else getBytes u (0x1400 + k) 0x08 = getBytes s (0x1400 + k) 0x08 ∧
          getBytes u (0x1400 + k) 0x0B = getBytes s (0x1400 + k) 0x0B) ∧
  (∀ s, islandsRun s = true → s.bus.refreshAt + getN s 0x1110 0x02 ≤ s.clock.tick →
    ∃ u, runs .tripRefresh s u ∧ u.bus.refreshAt = s.clock.tick ∧ u.bus.localTags = s.bus.localTags ∧ u.ents = s.ents ∧
      u.conds = s.conds ∧
      (∀ c tag i h, s.bus.localTags = [(c, tag)] → sentAsserted s c = true → i < 2 → h < 2 → (pairAt s i).enabled = true → (pairAt s i).silent = false →
        (pairAt s i).mask.testBit h = true →
        ∃ t ∈ (pathAt u (2 * i + h)).trips, t.channel = c ∧ t.tag = tag ∧ t.src = (pairAt s i).nodeId))

/-- RTC_WINDOW of more than 0 reference periods, when due: the measured deviation stands in 2901.04, beyond 200 ppm 0xB020 is
raised and the drift table is as before; in trim mode a trim from -64 to 63 is in force. HALT_TIMEOUT 10 s after halt was set
releases it and raises 0xB007: device time goes on from its value where none was written; with a value at most 1 000 ms away the
source is 1 and the difference is slewed; further away it is a step, counted in 2900.0C with an audit entry. SCHEDULE_MINUTE gives
every program's output for the new local minute, NaN without one. DAYLIGHT_SAVING_CHANGE puts the new offset in force. USER_ALARM
when due raises 0xB010 + a, sets status 1 and the time; kind 0 clears its enable, other kinds keep it and note their date. -/
def Obligations.TimeKeeping : Prop :=
  (∀ periods s, isUp s = true → hamperFree s = true → 0 < periods → s.clock.rtcWindowAt + 32000 ≤ s.clock.tick → s.entriesWf →
    ∃ u, runs (.rtcWindow periods) s u ∧ u.clock.rtcWindowAt = s.clock.tick ∧
      getF u 0x2901 0x04 = f32 (((768000000 : Int) - periods) * 1000000) periods ∧
      (200 * periods < (((768000000 : Int) - periods) * 1000000).natAbs → raised u 0xB020 = true ∧
        getBytes u 0x2901 0x07 = getBytes s 0x2901 0x07) ∧
      (getN s 0x2901 0x01 = 1 → u.clock.trimmed = true ∧ -64 ≤ u.thermos.trim ∧ u.thermos.trim ≤ 63)) ∧
  (∀ t r0 c0 s, isUp s = true → hamperFree s = true → s.clock.halt = some (t, r0, c0) → t ≤ s.clock.tick → s.entriesWf →
    ∃ u, runs .haltTimeout s u ∧ u.clock.halt = none ∧ raised u 0xB007 = true ∧
      (s.clock.setValue = none → devRef s < 2 ^ 32 * 24000000 → devRef u = devRef s ∧ u.audit = s.audit) ∧
      (∀ v, s.clock.setValue = some v → ((v * 24000 : Nat) - (devRef s : Int)).natAbs ≤ 24000000 →
        u.clock.source = 1 ∧ u.clock.slew = 64 * ((v * 24000 : Nat) - (devRef s : Int)) ∧
        getBytes u 0x2900 0x0C = getBytes s 0x2900 0x0C ∧ u.audit = s.audit) ∧
      (∀ v, s.clock.setValue = some v → 24000000 < ((v * 24000 : Nat) - (devRef s : Int)).natAbs →
        u.clock.source = 1 ∧ u.clock.slew = 0 ∧ holds u 0x2900 0x0C (getN s 0x2900 0x0C + 1) ∧ raised u 0xB002 = true ∧
        s.audit.count < u.audit.count)) ∧
  (∀ s, isUp s = true → s.clock.lastMinute ≠ nowMinute s → s.entriesWf →
    ∃ u, runs .scheduleMinute s u ∧ u.clock.lastMinute = nowMinute s ∧
      (∀ p, p < 64 → getF u (0x2880 + p) 0x02 = (programOutput s p).getD nan32) ∧ u.conds = s.conds ∧ u.zones = s.zones) ∧
  (∀ s, isUp s = true → offsetAt s (devTime s) ≠ s.clock.localOffset → s.entriesWf →
    ∃ u, runs .daylightSavingChange s u ∧ u.clock.localOffset = offsetAt s (devTime s) ∧
      holds u 0x2902 0x06 (bitVal (dstActive s (devTime s)) 0) ∧ u.thermos = s.thermos ∧ u.conds = s.conds) ∧
  (∀ a s, isUp s = true → hamperFree s = true → a < 8 → alarmDue s a = true → s.entriesWf →
    ∃ u, runs (.userAlarm a) s u ∧ raised u (0xB010 + a) = true ∧ holds u (0x2904 + a) 0x06 1 ∧ holds u (0x2904 + a) 0x07 (devTime s) ∧
      (getN s (0x2904 + a) 0x02 = 0 → getB u (0x2904 + a) 0x01 = false ∧ (alarmAt u a).due = none) ∧
      (getN s (0x2904 + a) 0x02 ≠ 0 → getBytes u (0x2904 + a) 0x01 = getBytes s (0x2904 + a) 0x01 ∧ (alarmAt u a).lastDate.isSome = true) ∧
      (∀ b, b ≠ a → alarmAt u b = alarmAt s b))

/-- A master whose time is trusted and that knows no better one sends, at a new multiple of its period, a reference frame of
service 0x3 and class 1 on the holder; without trust it sends nothing. Within 100 ms after it completed a device that still is such a
master sends a follow-up with its tag, its quality and stratum and its start-of-frame time in milliseconds; one that is none sends
nothing. A master that receives a reference of a better master falls silent with 0xB005; a
follower keeps the source, tag and time stamp of its first copy. A follow-up that completes no acceptable pair is counted in 2910.0B with
0xB006 and changes no time; an accepted one within the step limit and 1 000 ms is counted in 2910.0A, makes the source 2 and is
slewed. HOLDOVER after 4 announced periods shows state 3 with 0xB004. MASTER_RESUME after 4 own periods forgets the better master,
and clears 0xB005 where the other pair knows none. -/
def Obligations.NetworkTime : Prop :=
  (∀ i s, islandsRun s = true → i < 2 → masterOn s i = true → timeTrusted s = true → vAt s.net.better i none = none →
    (pairAt s i).holder.isSome = true → devTime s / ownPeriod s ≠ vAt s.net.lastSent i 0 → 0 < freePlaces s i → sendPath s i < 4 →
    (pairAt s i).nodeId < 128 →
    ∃ u fr, runs (.timeReferenceSend i) s u ∧ (pathAt u (sendPath s i)).queue = (pathAt s (sendPath s i)).queue ++ [fr] ∧
      idService fr.id = 3 ∧ idClass fr.id = 1 ∧ idSrc fr.id = (pairAt s i).nodeId ∧ fr.data.length = 8 ∧
      vAt u.net.sendTag i 0 = (vAt s.net.sendTag i 0 + 1) % 256 ∧ u.ents = s.ents ∧ u.conds = s.conds) ∧
  (∀ i s, timeTrusted s = false → exec (.timeReferenceSend i) s = .next s) ∧
  (∀ i s, (masterOn s i = false ∨ timeTrusted s = false ∨ vAt s.net.better i none ≠ none) → exec (.timeFollowUpSend i) s = .next s) ∧
  (∀ i tag t quality stratum done s, islandsRun s = true → i < 2 → vAt s.net.owed i none = some (tag, t, quality, stratum, done) →
    masterOn s i = true → timeTrusted s = true → vAt s.net.better i none = none → s.clock.ref ≤ done + 2400000 →
    (pairAt s i).holder.isSome = true → 0 < freePlaces s i → sendPath s i < 4 →
    ∃ u fr, runs (.timeFollowUpSend i) s u ∧ vAt u.net.owed i none = none ∧
      (pathAt u (sendPath s i)).queue = (pathAt s (sendPath s i)).queue ++ [fr] ∧ idTag fr.id = tag % 256 ∧
      fr.data.drop 8 = leBytes 8 (t.toNat / 24000) ∧ fieldN fr.data 1 1 = quality % 256 ∧ fieldN fr.data 2 1 = stratum % 256 ∧ u.ents = s.ents ∧ u.conds = s.conds) ∧
  (∀ f s, (receiveFrame s f 3).1 = true → 8 ≤ f.data.length → fieldN f.data 0 1 = 0 →
    ∃ u, runs (.timeReferenceReceived f) s u ∧
      (masterOn s (f.path / 2) = true → betterMaster s (f.path / 2) (fieldN f.data 2 1) (idSrc f.id) = true →
        vAt u.net.better (f.path / 2) none = some s.clock.tick ∧ raised u 0xB005 = true) ∧
      (masterOn s (f.path / 2) = false → f.path / 2 = 0 → getN s 0x2910 0x01 = 1 → s.net.lastTag ≠ some (idSrc f.id, idTag f.id) →
        s.net.halves.any (fun x => x.src == idSrc f.id && x.tag == idTag f.id) = false →
        ∃ h ∈ u.net.halves, h.src = idSrc f.id ∧ h.tag = idTag f.id ∧ h.stratum = fieldN f.data 2 1 ∧
          h.stamp = (devRef s : Int) - ((s.clock.ref : Int) - f.sof) ∧ h.sof = f.sof)) ∧
  (∀ f h s, (receiveFrame s f 3).1 = true → s.entriesWf → 16 ≤ f.data.length → fieldN f.data 0 1 = 1 → f.path / 2 = 0 →
    getN s 0x2910 0x01 = 1 → (s.net.halves.find? fun x => x.src == idSrc f.id) = some h →
    let ns : Int := (fieldN f.data 8 8 * 1000000 + fieldN f.data 4 4 : Nat) - (h.stamp * 125).fdiv 3
    let d := roundAway (ns * 3) 125
    ∃ u, runs (.timeFollowUpReceived f) s u ∧ (∀ x ∈ u.net.halves, x.src ≠ idSrc f.id) ∧
      ((h.tag ≠ idTag f.id ∨ h.quality.testBit 3 = false ∨ 15 ≤ h.stratum ∨ h.sof + 12000000 < max s.clock.ref f.sof) →
        holds u 0x2910 0x0B (getN s 0x2910 0x0B + 1) ∧ raised u 0xB006 = true ∧ u.clock = s.clock) ∧
      (h.tag = idTag f.id → h.quality.testBit 3 = true → h.stratum < 15 → max s.clock.ref f.sof ≤ h.sof + 12000000 →
        (getN s 0x2910 0x03 = 0 ∨ getN s 0x2910 0x03 = idSrc f.id) → d.natAbs ≤ getN s 0x2910 0x06 * 24000 → d.natAbs ≤ 24000000 →
        holds u 0x2910 0x0A (getN s 0x2910 0x0A + 1) ∧ holds u 0x2910 0x0C (idSrc f.id) ∧ u.clock.source = 2 ∧ u.clock.slew = 64 * d)) ∧
  (∀ t s, isUp s = true → getN s 0x2910 0x01 = 1 → getN s 0x2910 0x08 = 2 → s.net.lastPair = some t → s.entriesWf →
    t + 4 * s.net.period ≤ s.clock.tick →
    ∃ u, runs .holdover s u ∧ holds u 0x2910 0x08 3 ∧ raised u 0xB004 = true ∧ onlyEntries [(0x2910, 0x08)] s u ∧
      onlyConds [0xB004] s u ∧ u.clock.source = (if s.clock.source = 0 then 0 else 3)) ∧
  (∀ i t s, isUp s = true → i < 2 → vAt s.net.better i none = some t → t + 4 * ownPeriod s ≤ s.clock.tick →
    ∃ u, runs (.masterResume i) s u ∧ vAt u.net.better i none = none ∧ onlyConds [0xB005] s u ∧
      (vAt s.net.better (1 - i) none = none → raised u 0xB005 = false))

/-- While the display runs, at a frame boundary with nothing to mend: every rectangle that has run its frames is counted in
2A00.12, and the next boundary comes one frame period 2A00.04 later, within 2 % of it where Spread is set; without the journal record no
rectangle starts, and the ledger and storage are as before; with it and an empty queue every other rectangle has begun one more frame, and
with pages that read back right the journal record holds their entries and the CRC, unless none runs and none was journalled. A single
finished rectangle leaves every one of its pixels known at
its to-level. METROLOGY_PAGE_CHANGE at the page time queues the next page of the mask where the window has none waiting and the
queue has a place. IMAGE_CHECK after 60 s with no rectangle running shows the CRC of the image; a wrong one, or a ledger not zero,
makes every pixel unknown and every user window's content lost, empties the ledger and raises 0xD010, and 2A00.10 shows it. -/
def Obligations.DisplayFrames : Prop :=
  (∀ committed s, displayRuns s = true → s.entriesWf → s.display.mending = false → dueRef s s.display.frameAt = true →
    ∃ u, runs (.displayFrameBoundary committed) s u ∧
      holds u 0x2A00 0x12 (getN s 0x2A00 0x12 + (s.display.rects.filter fun r => decide (r.total ≤ r.begun)).length) ∧
      (getB s 0x2A00 0x06 = false → u.display.frameAt = max s.display.frameAt s.clock.ref + getN s 0x2A00 0x04) ∧
      (getB s 0x2A00 0x06 = true →
        max s.display.frameAt s.clock.ref + (getN s 0x2A00 0x04 - getN s 0x2A00 0x04 / 50) ≤ u.display.frameAt ∧
        u.display.frameAt ≤ max s.display.frameAt s.clock.ref + (getN s 0x2A00 0x04 + getN s 0x2A00 0x04 / 50)) ∧
      (committed = false → u.display.ledger = s.display.ledger ∧ u.stor = s.stor ∧
        u.display.rects = s.display.rects.filter fun r => decide (r.begun < r.total)) ∧
      (committed = true → s.display.queue = [] →
        u.display.rects = (s.display.rects.filter fun r => decide (r.begun < r.total)).map (fun r => { r with begun := r.begun + 1 }) ∧
        (s.stor.tape = [] → (u.display.rects ≠ [] ∨ journalRects s ≠ []) → recValue u recDisplay = some (displayRecord u))) ∧
      (∀ r, committed = false → s.display.rects = [r] → r.total ≤ r.begun → mapWf s.display.pixels = true →
        (rectPixels s r.x r.y r.w r.h).Nodup →
        ∀ e ∈ (rectPixels s r.x r.y r.w r.h).zip r.pairs, knownPixel u.display e.1 = true ∧
          levelOf u.display e.1 = e.2 / 8 % 4)) ∧
  (∀ b s, isUp s = true → displayOn s = true → windowOn s 8 = true → s.display.pageAt ≤ s.clock.tick →
    nextPage s s.display.page = some b → (∀ r ∈ s.display.queue, r.window ≠ 8) → s.display.queue.length < 16 →
    ∃ u q, runs .metrologyPageChange s u ∧ (getN s 0x2A18 0x06).testBit b = true ∧ u.display.queue = s.display.queue ++ [q] ∧
      q.window = 8 ∧ q.page = b ∧ (q.x, q.y, q.w, q.h) = windowRect s 8 ∧ u.display.page = b ∧
      u.display.pageAt = s.clock.tick + 1000 * getN s 0x2A18 0x07 ∧ u.ents = s.ents ∧ u.conds = s.conds) ∧
  (∀ corrupt s, displayRuns s = true → s.entriesWf → s.display.mending = false → s.display.rects = [] →
    s.display.checkAt + 60000 ≤ s.clock.tick →
    ∃ u, runs (.imageCheck corrupt) s u ∧ u.display.checkAt = s.clock.tick ∧
      (corrupt = false → s.display.ledger = [] → holds u 0x2A00 0x0F (imageCrc s) ∧ u.display.pixels = s.display.pixels ∧
        u.conds = s.conds ∧ onlyEntries [(0x2A00, 0x0F)] s u) ∧
      ((corrupt = true ∨ s.display.ledger ≠ []) → raised u 0xD010 = true ∧ onlyConds [0xD010] s u ∧ u.display.ledger = [] ∧
        u.display.mismatch = true ∧ u.display.lost = 255 ∧ holds u 0x2A00 0x10 (bitVal (imageKnown u) 0) ∧
        ∀ p, knownPixel u.display p = false))

/-- RAIL_FAULT of an enabled display empties the queue, keeps the running rectangles and the storage and raises 0xD020 and nothing else.
RAIL_RECOVERY ends the fault: rectangles that were running are mended and 0xD020 stays until then; with none, and nothing being
mended, 0xD020 clears. INDICATOR_STEP at its time goes to the next step, or at the end of the cycle to step 0 of the pattern now
set, or of the replacement pattern of an advisory (5 in 16 steps of 125 ms), and 2A41+i.05 shows the pattern's bit of that step.
INDICATOR_FAULT of an indicator that is on shows open or short with 0xD040 + i; the end of the fault shows none and the condition
clears later. Other indicators are untouched. -/
def Obligations.RailsAndIndicators : Prop :=
  (∀ s, islandsRun s = true → displayOn s = true → s.display.railFault = false →
    ∃ u, runs .railFault s u ∧ u.display.railFault = true ∧ u.display.queue = [] ∧ u.display.rects = s.display.rects ∧
      u.stor = s.stor ∧ raised u 0xD020 = true ∧ u.ents = s.ents ∧ onlyConds [0xD020] s u ∧
      u.indicators = s.indicators) ∧
  (∀ s, islandsRun s = true → s.display.railFault = true →
    ∃ u, runs .railRecovery s u ∧ u.display.railFault = false ∧ u.display.rects = s.display.rects ∧ u.ents = s.ents ∧
      (s.display.rects ≠ [] → u.display.mending = true ∧ u.conds = s.conds) ∧
      (s.display.rects = [] → s.display.mending = false → u.display.mending = false ∧ raised u 0xD020 = false ∧
        onlyConds [0xD020] s u)) ∧
  (∀ i s, islandsRun s = true → s.entriesWf → i < 4 → (indicatorAt s i).nextAt ≤ s.clock.tick →
    let x := indicatorAt s i
    ∃ u, runs (.indicatorStep i) s u ∧ (∀ j, j ≠ i → indicatorAt u j = indicatorAt s j) ∧
      (x.step + 1 < x.length → (indicatorAt u i).step = x.step + 1 ∧ (indicatorAt u i).pattern = x.pattern ∧
        (indicatorAt u i).nextAt = s.clock.tick + x.stepTime ∧ holds u (0x2A41 + i) 0x05 (bitVal (x.pattern.testBit (x.step + 1)) 0)) ∧
      (x.length ≤ x.step + 1 → (indicatorAt u i).step = 0 ∧
        (replacementOn s i = true → (indicatorAt u i).pattern = 5 ∧ (indicatorAt u i).stepTime = 125 ∧ (indicatorAt u i).length = 16 ∧
          (indicatorAt u i).nextAt = s.clock.tick + 125 ∧ holds u (0x2A41 + i) 0x05 1) ∧
        (replacementOn s i = false → (indicatorAt u i).pattern = getN s (0x2A41 + i) 0x02 ∧
          (indicatorAt u i).nextAt = s.clock.tick + getN s (0x2A41 + i) 0x03 ∧
          (indicatorAt u i).length = getN s (0x2A41 + i) 0x04 ∧
          holds u (0x2A41 + i) 0x05 (bitVal ((getN s (0x2A41 + i) 0x02).testBit 0) 0))) ∧
      onlyEntries [(0x2A41 + i, 0x05), (0x2A41 + i, 0x07)] s u ∧ u.conds = s.conds) ∧
  (∀ i kind s, islandsRun s = true → s.entriesWf → i < 4 → kind = 1 ∨ kind = 2 → getB s (0x2A41 + i) 0x05 = true →
    ∃ u, runs (.indicatorFault i kind) s u ∧ holds u (0x2A41 + i) 0x06 kind ∧ raised u (0xD040 + i) = true ∧
      onlyEntries [(0x2A41 + i, 0x06)] s u ∧ onlyConds [0xD040 + i] s u) ∧
  (∀ i s, islandsRun s = true → s.entriesWf → i < 4 →
    ∃ u, runs (.indicatorFault i 0) s u ∧ holds u (0x2A41 + i) 0x06 0 ∧ onlyEntries [(0x2A41 + i, 0x06)] s u ∧ onlyConds [] s u ∧
      u.indicators = s.indicators)

/-- Each of the 195 commands completes: in every state, and for all operands, in which the command is due, it answers the next state
and has its effect there. Safety.lean lists, constructor by constructor, when a command is due and its effect. -/
def Obligations.EveryCommandCompletes : Prop :=
  ∀ (c : Instr) (s : State), due c s →
    ∃ t u, Sys2Proof.Machine.exec c s = .next t ∧ t = flushEvents u ∧ effect c s u
end

