-- ==== Sys2Proof/Laws/Tables.lean ====
section
/-! SUPPORT. Sparse tables and Hamper bytes: reading after writing, and that every operation keeps the canonical form (R33, R404). -/

namespace Sys2Proof.Machine

/-! ## Order -/

theorem mapWf_tail {α : Type} {a : Nat × α} {l : List (Nat × α)} (h : mapWf (a :: l) = true) : mapWf l = true := by
  cases l with
  | nil => rfl
  | cons b r => simp only [mapWf, Bool.and_eq_true] at h; exact h.2

/-- Every key of a canonical list is above the head's. -/
theorem mapWf_above {α : Type} {a : Nat × α} {l : List (Nat × α)} (h : mapWf (a :: l) = true) : ∀ x ∈ l, a.1 < x.1 := by
  induction l generalizing a with
  | nil => intro x hx; cases hx
  | cons b r ih =>
    simp only [mapWf, Bool.and_eq_true, decide_eq_true_eq] at h
    intro x hx
    cases hx with
    | head => exact h.1
    | tail _ hx => exact Nat.lt_trans h.1 (ih h.2 x hx)

/-- A head below every key of a canonical list extends it. -/
theorem mapWf_cons {α : Type} {a : Nat × α} {l : List (Nat × α)} (hl : mapWf l = true) (ha : ∀ x ∈ l, a.1 < x.1) :
    mapWf (a :: l) = true := by
  cases l with
  | nil => rfl
  | cons b r => simp only [mapWf, Bool.and_eq_true, decide_eq_true_eq]; exact ⟨ha b (List.mem_cons_self ..), hl⟩

theorem mapDel_subset {α : Type} (l : List (Nat × α)) (i : Nat) : ∀ x ∈ mapDel l i, x ∈ l := by
  induction l with
  | nil => intro x hx; exact hx
  | cons a r ih =>
    intro x hx
    unfold mapDel at hx
    split at hx
    · exact List.mem_cons_of_mem _ hx
    · cases hx with
      | head => exact List.mem_cons_self ..
      | tail _ h => exact List.mem_cons_of_mem _ (ih x h)

theorem mapSet_mem {α : Type} (l : List (Nat × α)) (i : Nat) (v : α) : ∀ x ∈ mapSet l i v, x = (i, v) ∨ x ∈ l := by
  induction l with
  | nil => intro x hx; cases hx with | head => exact .inl rfl | tail _ h => cases h
  | cons a r ih =>
    intro x hx
    unfold mapSet at hx
    split at hx
    · cases hx with
      | head => exact .inl rfl
      | tail _ h => exact .inr h
    · split at hx
      · cases hx with
        | head => exact .inl rfl
        | tail _ h => exact .inr (List.mem_cons_of_mem _ h)
      · cases hx with
        | head => exact .inr (List.mem_cons_self ..)
        | tail _ h => cases ih x h with
          | inl h => exact .inl h
          | inr h => exact .inr (List.mem_cons_of_mem _ h)

/-- Removing a key keeps the canonical form. -/
theorem mapDel_wf {α : Type} (l : List (Nat × α)) (i : Nat) (h : mapWf l = true) : mapWf (mapDel l i) = true := by
  induction l with
  | nil => rfl
  | cons a r ih =>
    unfold mapDel
    split
    · exact mapWf_tail h
    · exact mapWf_cons (ih (mapWf_tail h)) fun x hx => mapWf_above h x (mapDel_subset r i x hx)

/-- Setting a key keeps the canonical form. -/
theorem mapSet_wf {α : Type} (l : List (Nat × α)) (i : Nat) (v : α) (h : mapWf l = true) : mapWf (mapSet l i v) = true := by
  induction l with
  | nil => rfl
  | cons a r ih =>
    unfold mapSet
    split
    · rename_i hi
      exact mapWf_cons h fun x hx => by
        cases hx with
        | head => exact hi
        | tail _ hx => exact Nat.lt_trans hi (mapWf_above h x hx)
    · split
      · rename_i hi
        exact mapWf_cons (mapWf_tail h) fun x hx => by
          have := mapWf_above h x hx
          simp only [hi]; exact this
      · rename_i h1 h2
        exact mapWf_cons (ih (mapWf_tail h)) fun x hx => by
          cases mapSet_mem r i v x hx with
          | inl e => subst e; simp only at *; omega
          | inr e => exact mapWf_above h x e

/-! ## Reading after writing -/

theorem mapGet_none {α : Type} (l : List (Nat × α)) (i : Nat) (h : ∀ x ∈ l, i < x.1) : mapGet l i = none := by
  induction l with
  | nil => rfl
  | cons a r ih =>
    have := h a (List.mem_cons_self ..)
    unfold mapGet
    rw [if_neg (by omega)]
    exact ih fun x hx => h x (List.mem_cons_of_mem _ hx)

/-- The key set reads as its value. -/
@[simp] theorem mapGet_set {α : Type} (l : List (Nat × α)) (i : Nat) (v : α) : mapGet (mapSet l i v) i = some v := by
  induction l with
  | nil => simp [mapSet, mapGet]
  | cons a r ih =>
    unfold mapSet
    split
    · simp [mapGet]
    · split
      · simp [mapGet]
      · rename_i h1 h2
        simp only [mapGet]
        rw [if_neg (fun e => h2 e.symm)]
        exact ih

/-- Another key is left as it is. -/
theorem mapGet_set_ne {α : Type} (l : List (Nat × α)) {i j : Nat} (v : α) (hij : i ≠ j) : mapGet (mapSet l i v) j = mapGet l j := by
  induction l with
  | nil => simp [mapSet, mapGet, hij]
  | cons a r ih =>
    unfold mapSet
    split
    · simp [mapGet, hij]
    · split
      · rename_i h; simp [mapGet, hij, ← h]
      · simp only [mapGet]; split
        · rfl
        · exact ih

/-- The key removed reads as nothing. -/
theorem mapGet_del {α : Type} (l : List (Nat × α)) (i : Nat) (h : mapWf l = true) : mapGet (mapDel l i) i = none := by
  induction l with
  | nil => rfl
  | cons a r ih =>
    unfold mapDel
    split
    · rename_i e; exact mapGet_none r i fun x hx => by have := mapWf_above h x hx; omega
    · rename_i e
      simp only [mapGet, e, if_false]
      exact ih (mapWf_tail h)

/-- Removing a key leaves every other as it is. -/
theorem mapGet_del_ne {α : Type} (l : List (Nat × α)) {i j : Nat} (hij : i ≠ j) : mapGet (mapDel l i) j = mapGet l j := by
  induction l with
  | nil => rfl
  | cons a r ih =>
    unfold mapDel
    split
    · rename_i e; simp [mapGet, e, hij]
    · simp only [mapGet]; split
      · rfl
      · exact ih

/-! ## Hamper bytes -/

theorem memWrite_wf (m : List Host.Cell) (a : Nat) (b : Byte) (h : Memory.wf m = true) : Memory.wf (memWrite m a b) = true := by
  simp only [Memory.wf, memNoBlank, Bool.and_eq_true, List.all_eq_true, decide_eq_true_eq] at h ⊢
  unfold memWrite
  split
  · exact ⟨mapDel_wf m a h.1, fun x hx => h.2 x (mapDel_subset m a x hx)⟩
  · rename_i hb
    refine ⟨mapSet_wf m a b h.1, fun x hx => ?_⟩
    cases mapSet_mem m a b x hx with
    | inl e => subst e; exact hb
    | inr e => exact h.2 x e

/-- Writing bytes keeps the memory's canonical form. -/
theorem memWrites_wf (m : List Host.Cell) (a : Nat) (bs : Bytes) (h : Memory.wf m = true) : Memory.wf (memWrites m a bs) = true := by
  induction bs generalizing m a with
  | nil => exact h
  | cons b r ih => exact ih _ _ (memWrite_wf m a b h)

/-- The byte written reads back, in a memory of canonical form. -/
theorem memRead_write (m : List Host.Cell) (a : Nat) (b : Byte) (h : Memory.wf m = true) : memRead (memWrite m a b) a = b := by
  simp only [Memory.wf, Bool.and_eq_true] at h
  unfold memRead memWrite
  split
  · rename_i hb; rw [mapGet_del m a h.1]; exact hb.symm
  · rw [mapGet_set]; rfl

/-- A write leaves every other byte. -/
theorem memRead_write_ne (m : List Host.Cell) {a c : Nat} (b : Byte) (hac : a ≠ c) : memRead (memWrite m a b) c = memRead m c := by
  unfold memRead memWrite
  split
  · rw [mapGet_del_ne m hac]
  · rw [mapGet_set_ne m b hac]

/-- Writing bytes leaves every byte outside them. -/
theorem memRead_writes_out (m : List Host.Cell) (a : Nat) (bs : Bytes) (c : Nat) (h : c < a ∨ a + bs.length ≤ c) :
    memRead (memWrites m a bs) c = memRead m c := by
  induction bs generalizing m a with
  | nil => rfl
  | cons b r ih =>
    simp only [List.length_cons] at h
    unfold memWrites
    rw [ih _ _ (by omega), memRead_write_ne _ _ (by omega)]

/-- Bytes written read back, each at its place. -/
theorem memRead_writes_in (m : List Host.Cell) (a : Nat) (bs : Bytes) (i : Nat) (hi : i < bs.length) (h : Memory.wf m = true) :
    memRead (memWrites m a bs) (a + i) = bs[i] := by
  induction bs generalizing m a i with
  | nil => cases hi
  | cons b r ih =>
    unfold memWrites
    cases i with
    | zero => rw [memRead_writes_out _ _ _ _ (by omega)]; exact memRead_write m a b h
    | succ j =>
      have := ih (memWrite m a b) (a + 1) j (by simpa using hi) (memWrite_wf m a b h)
      rw [show a + (j + 1) = a + 1 + j by omega, this]
      rfl

end Sys2Proof.Machine
end

