-- ==== Sys2Proof/Laws/Parts.lean ====
section
/-! SUPPORT. What a function of the model may touch: the parts of the state, and `Law T s t`: from s to t only the parts of the mask T
may change, and what every command keeps is kept. Bit i of a mask is part i of `erase`. -/

namespace Sys2Proof.Machine

/-- The state with every part of the mask put at its reset value; equal erasures agree on every other part. -/
def erase (T : Nat) (s : State) : State :=
  { pending := s.pending,
    power := bif T.testBit 0 then State.reset.power else s.power,
    clock := bif T.testBit 1 then State.reset.clock else s.clock,
    thermos := bif T.testBit 2 then State.reset.thermos else s.thermos,
    ents := bif T.testBit 3 then State.reset.ents else s.ents,
    stor := {
      mem := bif T.testBit 4 then State.reset.stor.mem else s.stor.mem,
      recs := bif T.testBit 5 then State.reset.stor.recs else s.stor.recs,
      journal := bif T.testBit 6 then State.reset.stor.journal else s.stor.journal,
      pend := bif T.testBit 7 then State.reset.stor.pend else s.stor.pend,
      remap := bif T.testBit 8 then State.reset.stor.remap else s.stor.remap,
      bad := bif T.testBit 8 then State.reset.stor.bad else s.stor.bad,
      scrubHits := bif T.testBit 8 then State.reset.stor.scrubHits else s.stor.scrubHits,
      scrubStart := bif T.testBit 8 then State.reset.stor.scrubStart else s.stor.scrubStart,
      scrubHours := bif T.testBit 8 then State.reset.stor.scrubHours else s.stor.scrubHours,
      scrubDue := bif T.testBit 8 then State.reset.stor.scrubDue else s.stor.scrubDue,
      tape := bif T.testBit 8 then State.reset.stor.tape else s.stor.tape,
      shows := bif T.testBit 8 then State.reset.stor.shows else s.stor.shows,
      update := bif T.testBit 8 then State.reset.stor.update else s.stor.update,
      cut := bif T.testBit 8 then State.reset.stor.cut else s.stor.cut,
      marks := bif T.testBit 8 then State.reset.stor.marks else s.stor.marks },
    conds := bif T.testBit 9 then State.reset.conds else s.conds,
    kdp := {
      snaps := bif T.testBit 10 then State.reset.kdp.snaps else s.kdp.snaps,
      ended := bif T.testBit 10 then State.reset.kdp.ended else s.kdp.ended,
      transfers := bif T.testBit 11 then State.reset.kdp.transfers else s.kdp.transfers,
      wait := bif T.testBit 12 then State.reset.kdp.wait else s.kdp.wait,
      serviceQ := bif T.testBit 13 then State.reset.kdp.serviceQ else s.kdp.serviceQ,
      serviceWait := bif T.testBit 13 then State.reset.kdp.serviceWait else s.kdp.serviceWait,
      discards := bif T.testBit 15 then State.reset.kdp.discards else s.kdp.discards,
      pubs := bif T.testBit 14 then State.reset.kdp.pubs else s.kdp.pubs,
      subs := bif T.testBit 15 then State.reset.kdp.subs else s.kdp.subs,
      events := bif T.testBit 15 then State.reset.kdp.events else s.kdp.events },
    bus := {
      paths := bif T.testBit 16 then State.reset.bus.paths else s.bus.paths,
      pairs := bif T.testBit 17 then State.reset.bus.pairs else s.bus.pairs,
      bridging := bif T.testBit 18 then State.reset.bus.bridging else s.bus.bridging,
      resetNeeded := bif T.testBit 18 then State.reset.bus.resetNeeded else s.bus.resetNeeded,
      remotes := bif T.testBit 18 then State.reset.bus.remotes else s.bus.remotes,
      stuck := bif T.testBit 18 then State.reset.bus.stuck else s.bus.stuck,
      tripCounter := bif T.testBit 18 then State.reset.bus.tripCounter else s.bus.tripCounter,
      localTags := bif T.testBit 18 then State.reset.bus.localTags else s.bus.localTags,
      refreshAt := bif T.testBit 18 then State.reset.bus.refreshAt else s.bus.refreshAt,
      tripOrder := bif T.testBit 18 then State.reset.bus.tripOrder else s.bus.tripOrder },
    net := bif T.testBit 19 then State.reset.net else s.net,
    alarms := bif T.testBit 20 then State.reset.alarms else s.alarms,
    audit := bif T.testBit 21 then State.reset.audit else s.audit,
    kiln := {
      queue := bif T.testBit 22 then State.reset.kiln.queue else s.kiln.queue,
      seals := bif T.testBit 23 then State.reset.kiln.seals else s.kiln.seals,
      statements := bif T.testBit 24 then State.reset.kiln.statements else s.kiln.statements,
      onDemand := bif T.testBit 24 then State.reset.kiln.onDemand else s.kiln.onDemand,
      trngHalted := bif T.testBit 24 then State.reset.kiln.trngHalted else s.kiln.trngHalted,
      keyFault := bif T.testBit 24 then State.reset.kiln.keyFault else s.kiln.keyFault,
      billingOmitted := bif T.testBit 24 then State.reset.kiln.billingOmitted else s.kiln.billingOmitted,
      recordsLost := bif T.testBit 24 then State.reset.kiln.recordsLost else s.kiln.recordsLost,
      counter := bif T.testBit 24 then State.reset.kiln.counter else s.kiln.counter },
    update := bif T.testBit 25 then State.reset.update else s.update,
    ports := bif T.testBit 26 then State.reset.ports else s.ports,
    convs := bif T.testBit 27 then State.reset.convs else s.convs,
    syncs := bif T.testBit 28 then State.reset.syncs else s.syncs,
    lanes := bif T.testBit 29 then State.reset.lanes else s.lanes,
    cal := bif T.testBit 30 then State.reset.cal else s.cal,
    meters := bif T.testBit 31 then State.reset.meters else s.meters,
    counters := bif T.testBit 32 then State.reset.counters else s.counters,
    interval := bif T.testBit 33 then State.reset.interval else s.interval,
    loops := bif T.testBit 34 then State.reset.loops else s.loops,
    reps := bif T.testBit 35 then State.reset.reps else s.reps,
    groups := bif T.testBit 36 then State.reset.groups else s.groups,
    traces := bif T.testBit 37 then State.reset.traces else s.traces,
    zones := bif T.testBit 38 then State.reset.zones else s.zones,
    display := bif T.testBit 39 then State.reset.display else s.display,
    indicators := bif T.testBit 40 then State.reset.indicators else s.indicators,
    health := bif T.testBit 41 then State.reset.health else s.health,
    used := bif T.testBit 42 then State.reset.used else s.used }

/-- What every function of the model keeps (R52, R308, R315, R407): the canonical forms of the Hamper's bytes and of the entry table,
the number of snapshots, the spare pages; the audit log and the security counter never go back. -/
structure Evolves (s t : State) : Prop where
  mem : Memory.wf s.stor.mem = true → Memory.wf t.stor.mem = true
  ents : mapWf s.ents = true → mapWf t.ents = true
  snaps : s.kdp.snaps.length ≤ 8 → t.kdp.snaps.length ≤ 8
  spares : s.stor.remap.fits = true → t.stor.remap.fits = true
  audit : s.audit.count ≤ t.audit.count
  counter : s.kiln.counter ≤ t.kiln.counter

/-- Only the parts of T change, and what every function keeps is kept. -/
structure Law (T : Nat) (s t : State) : Prop where
  frame : erase T t = erase T s
  evolves : Evolves s t

theorem Evolves.refl (s : State) : Evolves s s := ⟨id, id, id, id, Nat.le_refl _, Nat.le_refl _⟩

theorem Evolves.trans {s t u : State} (h : Evolves s t) (k : Evolves t u) : Evolves s u :=
  ⟨k.mem ∘ h.mem, k.ents ∘ h.ents, k.snaps ∘ h.snaps, k.spares ∘ h.spares, Nat.le_trans h.audit k.audit,
    Nat.le_trans h.counter k.counter⟩

/-- A law that does not list the part leaves it: power. -/
theorem Law.power_eq {T : Nat} {s t : State} (h : Law T s t) (hT : T.testBit 0 = false) : t.power = s.power := by
  have e := congrArg (fun x : State => x.power) h.frame
  simpa only [erase, hT, cond_false] using e

/-- A law that does not list the part leaves it: clock. -/
theorem Law.clock_eq {T : Nat} {s t : State} (h : Law T s t) (hT : T.testBit 1 = false) : t.clock = s.clock := by
  have e := congrArg (fun x : State => x.clock) h.frame
  simpa only [erase, hT, cond_false] using e

/-- A law that does not list the part leaves it: thermos. -/
theorem Law.thermos_eq {T : Nat} {s t : State} (h : Law T s t) (hT : T.testBit 2 = false) : t.thermos = s.thermos := by
  have e := congrArg (fun x : State => x.thermos) h.frame
  simpa only [erase, hT, cond_false] using e

/-- A law that does not list the part leaves it: ents. -/
theorem Law.ents_eq {T : Nat} {s t : State} (h : Law T s t) (hT : T.testBit 3 = false) : t.ents = s.ents := by
  have e := congrArg (fun x : State => x.ents) h.frame
  simpa only [erase, hT, cond_false] using e

/-- A law that does not list the part leaves it: stor.mem. -/
theorem Law.mem_eq {T : Nat} {s t : State} (h : Law T s t) (hT : T.testBit 4 = false) : t.stor.mem = s.stor.mem := by
  have e := congrArg (fun x : State => x.stor.mem) h.frame
  simpa only [erase, hT, cond_false] using e

/-- A law that does not list the part leaves it: stor.recs. -/
theorem Law.recs_eq {T : Nat} {s t : State} (h : Law T s t) (hT : T.testBit 5 = false) : t.stor.recs = s.stor.recs := by
  have e := congrArg (fun x : State => x.stor.recs) h.frame
  simpa only [erase, hT, cond_false] using e

/-- A law that does not list the part leaves it: stor.journal. -/
theorem Law.journal_eq {T : Nat} {s t : State} (h : Law T s t) (hT : T.testBit 6 = false) : t.stor.journal = s.stor.journal := by
  have e := congrArg (fun x : State => x.stor.journal) h.frame
  simpa only [erase, hT, cond_false] using e

/-- A law that does not list the part leaves it: stor.pend. -/
theorem Law.pend_eq {T : Nat} {s t : State} (h : Law T s t) (hT : T.testBit 7 = false) : t.stor.pend = s.stor.pend := by
  have e := congrArg (fun x : State => x.stor.pend) h.frame
  simpa only [erase, hT, cond_false] using e

/-- A law that does not list the part leaves it: stor.remap. -/
theorem Law.remap_eq {T : Nat} {s t : State} (h : Law T s t) (hT : T.testBit 8 = false) : t.stor.remap = s.stor.remap := by
  have e := congrArg (fun x : State => x.stor.remap) h.frame
  simpa only [erase, hT, cond_false] using e

/-- A law that does not list the part leaves it: stor.bad. -/
theorem Law.bad_eq {T : Nat} {s t : State} (h : Law T s t) (hT : T.testBit 8 = false) : t.stor.bad = s.stor.bad := by
  have e := congrArg (fun x : State => x.stor.bad) h.frame
  simpa only [erase, hT, cond_false] using e

/-- A law that does not list the part leaves it: stor.scrubHits. -/
theorem Law.scrubHits_eq {T : Nat} {s t : State} (h : Law T s t) (hT : T.testBit 8 = false) : t.stor.scrubHits = s.stor.scrubHits := by
  have e := congrArg (fun x : State => x.stor.scrubHits) h.frame
  simpa only [erase, hT, cond_false] using e

/-- A law that does not list the part leaves it: stor.scrubStart. -/
theorem Law.scrubStart_eq {T : Nat} {s t : State} (h : Law T s t) (hT : T.testBit 8 = false) : t.stor.scrubStart = s.stor.scrubStart := by
  have e := congrArg (fun x : State => x.stor.scrubStart) h.frame
  simpa only [erase, hT, cond_false] using e

/-- A law that does not list the part leaves it: stor.scrubHours. -/
theorem Law.scrubHours_eq {T : Nat} {s t : State} (h : Law T s t) (hT : T.testBit 8 = false) : t.stor.scrubHours = s.stor.scrubHours := by
  have e := congrArg (fun x : State => x.stor.scrubHours) h.frame
  simpa only [erase, hT, cond_false] using e

/-- A law that does not list the part leaves it: stor.scrubDue. -/
theorem Law.scrubDue_eq {T : Nat} {s t : State} (h : Law T s t) (hT : T.testBit 8 = false) : t.stor.scrubDue = s.stor.scrubDue := by
  have e := congrArg (fun x : State => x.stor.scrubDue) h.frame
  simpa only [erase, hT, cond_false] using e

/-- A law that does not list the part leaves it: stor.tape. -/
theorem Law.tape_eq {T : Nat} {s t : State} (h : Law T s t) (hT : T.testBit 8 = false) : t.stor.tape = s.stor.tape := by
  have e := congrArg (fun x : State => x.stor.tape) h.frame
  simpa only [erase, hT, cond_false] using e

/-- A law that does not list the part leaves it: stor.shows. -/
theorem Law.shows_eq {T : Nat} {s t : State} (h : Law T s t) (hT : T.testBit 8 = false) : t.stor.shows = s.stor.shows := by
  have e := congrArg (fun x : State => x.stor.shows) h.frame
  simpa only [erase, hT, cond_false] using e

/-- A law that does not list the part leaves it: stor.update. -/
theorem Law.storUpdate_eq {T : Nat} {s t : State} (h : Law T s t) (hT : T.testBit 8 = false) : t.stor.update = s.stor.update := by
  have e := congrArg (fun x : State => x.stor.update) h.frame
  simpa only [erase, hT, cond_false] using e

/-- A law that does not list the part leaves it: stor.cut. -/
theorem Law.cut_eq {T : Nat} {s t : State} (h : Law T s t) (hT : T.testBit 8 = false) : t.stor.cut = s.stor.cut := by
  have e := congrArg (fun x : State => x.stor.cut) h.frame
  simpa only [erase, hT, cond_false] using e

/-- A law that does not list the part leaves it: stor.marks. -/
theorem Law.marks_eq {T : Nat} {s t : State} (h : Law T s t) (hT : T.testBit 8 = false) : t.stor.marks = s.stor.marks := by
  have e := congrArg (fun x : State => x.stor.marks) h.frame
  simpa only [erase, hT, cond_false] using e

/-- A law that does not list the part leaves it: conds. -/
theorem Law.conds_eq {T : Nat} {s t : State} (h : Law T s t) (hT : T.testBit 9 = false) : t.conds = s.conds := by
  have e := congrArg (fun x : State => x.conds) h.frame
  simpa only [erase, hT, cond_false] using e

/-- A law that does not list the part leaves it: kdp.snaps. -/
theorem Law.snaps_eq {T : Nat} {s t : State} (h : Law T s t) (hT : T.testBit 10 = false) : t.kdp.snaps = s.kdp.snaps := by
  have e := congrArg (fun x : State => x.kdp.snaps) h.frame
  simpa only [erase, hT, cond_false] using e

/-- A law that does not list the part leaves it: kdp.ended. -/
theorem Law.ended_eq {T : Nat} {s t : State} (h : Law T s t) (hT : T.testBit 10 = false) : t.kdp.ended = s.kdp.ended := by
  have e := congrArg (fun x : State => x.kdp.ended) h.frame
  simpa only [erase, hT, cond_false] using e

/-- A law that does not list the part leaves it: kdp.transfers. -/
theorem Law.transfers_eq {T : Nat} {s t : State} (h : Law T s t) (hT : T.testBit 11 = false) : t.kdp.transfers = s.kdp.transfers := by
  have e := congrArg (fun x : State => x.kdp.transfers) h.frame
  simpa only [erase, hT, cond_false] using e

/-- A law that does not list the part leaves it: kdp.wait. -/
theorem Law.wait_eq {T : Nat} {s t : State} (h : Law T s t) (hT : T.testBit 12 = false) : t.kdp.wait = s.kdp.wait := by
  have e := congrArg (fun x : State => x.kdp.wait) h.frame
  simpa only [erase, hT, cond_false] using e

/-- A law that does not list the part leaves it: kdp.serviceQ. -/
theorem Law.serviceQ_eq {T : Nat} {s t : State} (h : Law T s t) (hT : T.testBit 13 = false) : t.kdp.serviceQ = s.kdp.serviceQ := by
  have e := congrArg (fun x : State => x.kdp.serviceQ) h.frame
  simpa only [erase, hT, cond_false] using e

/-- A law that does not list the part leaves it: kdp.serviceWait. -/
theorem Law.serviceWait_eq {T : Nat} {s t : State} (h : Law T s t) (hT : T.testBit 13 = false) : t.kdp.serviceWait = s.kdp.serviceWait := by
  have e := congrArg (fun x : State => x.kdp.serviceWait) h.frame
  simpa only [erase, hT, cond_false] using e

/-- A law that does not list the part leaves it: kdp.discards. -/
theorem Law.discards_eq {T : Nat} {s t : State} (h : Law T s t) (hT : T.testBit 15 = false) : t.kdp.discards = s.kdp.discards := by
  have e := congrArg (fun x : State => x.kdp.discards) h.frame
  simpa only [erase, hT, cond_false] using e

/-- A law that does not list the part leaves it: kdp.pubs. -/
theorem Law.pubs_eq {T : Nat} {s t : State} (h : Law T s t) (hT : T.testBit 14 = false) : t.kdp.pubs = s.kdp.pubs := by
  have e := congrArg (fun x : State => x.kdp.pubs) h.frame
  simpa only [erase, hT, cond_false] using e

/-- A law that does not list the part leaves it: kdp.subs. -/
theorem Law.subs_eq {T : Nat} {s t : State} (h : Law T s t) (hT : T.testBit 15 = false) : t.kdp.subs = s.kdp.subs := by
  have e := congrArg (fun x : State => x.kdp.subs) h.frame
  simpa only [erase, hT, cond_false] using e

/-- A law that does not list the part leaves it: kdp.events. -/
theorem Law.events_eq {T : Nat} {s t : State} (h : Law T s t) (hT : T.testBit 15 = false) : t.kdp.events = s.kdp.events := by
  have e := congrArg (fun x : State => x.kdp.events) h.frame
  simpa only [erase, hT, cond_false] using e

/-- A law that does not list the part leaves it: bus.paths. -/
theorem Law.paths_eq {T : Nat} {s t : State} (h : Law T s t) (hT : T.testBit 16 = false) : t.bus.paths = s.bus.paths := by
  have e := congrArg (fun x : State => x.bus.paths) h.frame
  simpa only [erase, hT, cond_false] using e

/-- A law that does not list the part leaves it: bus.pairs. -/
theorem Law.pairs_eq {T : Nat} {s t : State} (h : Law T s t) (hT : T.testBit 17 = false) : t.bus.pairs = s.bus.pairs := by
  have e := congrArg (fun x : State => x.bus.pairs) h.frame
  simpa only [erase, hT, cond_false] using e

/-- A law that does not list the part leaves it: bus.bridging. -/
theorem Law.bridging_eq {T : Nat} {s t : State} (h : Law T s t) (hT : T.testBit 18 = false) : t.bus.bridging = s.bus.bridging := by
  have e := congrArg (fun x : State => x.bus.bridging) h.frame
  simpa only [erase, hT, cond_false] using e

/-- A law that does not list the part leaves it: bus.resetNeeded. -/
theorem Law.resetNeeded_eq {T : Nat} {s t : State} (h : Law T s t) (hT : T.testBit 18 = false) : t.bus.resetNeeded = s.bus.resetNeeded := by
  have e := congrArg (fun x : State => x.bus.resetNeeded) h.frame
  simpa only [erase, hT, cond_false] using e

/-- A law that does not list the part leaves it: bus.remotes. -/
theorem Law.remotes_eq {T : Nat} {s t : State} (h : Law T s t) (hT : T.testBit 18 = false) : t.bus.remotes = s.bus.remotes := by
  have e := congrArg (fun x : State => x.bus.remotes) h.frame
  simpa only [erase, hT, cond_false] using e

/-- A law that does not list the part leaves it: bus.stuck. -/
theorem Law.stuck_eq {T : Nat} {s t : State} (h : Law T s t) (hT : T.testBit 18 = false) : t.bus.stuck = s.bus.stuck := by
  have e := congrArg (fun x : State => x.bus.stuck) h.frame
  simpa only [erase, hT, cond_false] using e

/-- A law that does not list the part leaves it: bus.tripCounter. -/
theorem Law.tripCounter_eq {T : Nat} {s t : State} (h : Law T s t) (hT : T.testBit 18 = false) : t.bus.tripCounter = s.bus.tripCounter := by
  have e := congrArg (fun x : State => x.bus.tripCounter) h.frame
  simpa only [erase, hT, cond_false] using e

/-- A law that does not list the part leaves it: bus.localTags. -/
theorem Law.localTags_eq {T : Nat} {s t : State} (h : Law T s t) (hT : T.testBit 18 = false) : t.bus.localTags = s.bus.localTags := by
  have e := congrArg (fun x : State => x.bus.localTags) h.frame
  simpa only [erase, hT, cond_false] using e

/-- A law that does not list the part leaves it: bus.refreshAt. -/
theorem Law.refreshAt_eq {T : Nat} {s t : State} (h : Law T s t) (hT : T.testBit 18 = false) : t.bus.refreshAt = s.bus.refreshAt := by
  have e := congrArg (fun x : State => x.bus.refreshAt) h.frame
  simpa only [erase, hT, cond_false] using e

/-- A law that does not list the part leaves it: bus.tripOrder. -/
theorem Law.tripOrder_eq {T : Nat} {s t : State} (h : Law T s t) (hT : T.testBit 18 = false) : t.bus.tripOrder = s.bus.tripOrder := by
  have e := congrArg (fun x : State => x.bus.tripOrder) h.frame
  simpa only [erase, hT, cond_false] using e

/-- A law that does not list the part leaves it: net. -/
theorem Law.net_eq {T : Nat} {s t : State} (h : Law T s t) (hT : T.testBit 19 = false) : t.net = s.net := by
  have e := congrArg (fun x : State => x.net) h.frame
  simpa only [erase, hT, cond_false] using e

/-- A law that does not list the part leaves it: alarms. -/
theorem Law.alarms_eq {T : Nat} {s t : State} (h : Law T s t) (hT : T.testBit 20 = false) : t.alarms = s.alarms := by
  have e := congrArg (fun x : State => x.alarms) h.frame
  simpa only [erase, hT, cond_false] using e

/-- A law that does not list the part leaves it: audit. -/
theorem Law.audit_eq {T : Nat} {s t : State} (h : Law T s t) (hT : T.testBit 21 = false) : t.audit = s.audit := by
  have e := congrArg (fun x : State => x.audit) h.frame
  simpa only [erase, hT, cond_false] using e

/-- A law that does not list the part leaves it: kiln.queue. -/
theorem Law.queue_eq {T : Nat} {s t : State} (h : Law T s t) (hT : T.testBit 22 = false) : t.kiln.queue = s.kiln.queue := by
  have e := congrArg (fun x : State => x.kiln.queue) h.frame
  simpa only [erase, hT, cond_false] using e

/-- A law that does not list the part leaves it: kiln.seals. -/
theorem Law.seals_eq {T : Nat} {s t : State} (h : Law T s t) (hT : T.testBit 23 = false) : t.kiln.seals = s.kiln.seals := by
  have e := congrArg (fun x : State => x.kiln.seals) h.frame
  simpa only [erase, hT, cond_false] using e

/-- A law that does not list the part leaves it: kiln.statements. -/
theorem Law.statements_eq {T : Nat} {s t : State} (h : Law T s t) (hT : T.testBit 24 = false) : t.kiln.statements = s.kiln.statements := by
  have e := congrArg (fun x : State => x.kiln.statements) h.frame
  simpa only [erase, hT, cond_false] using e

/-- A law that does not list the part leaves it: kiln.onDemand. -/
theorem Law.onDemand_eq {T : Nat} {s t : State} (h : Law T s t) (hT : T.testBit 24 = false) : t.kiln.onDemand = s.kiln.onDemand := by
  have e := congrArg (fun x : State => x.kiln.onDemand) h.frame
  simpa only [erase, hT, cond_false] using e

/-- A law that does not list the part leaves it: kiln.trngHalted. -/
theorem Law.trngHalted_eq {T : Nat} {s t : State} (h : Law T s t) (hT : T.testBit 24 = false) : t.kiln.trngHalted = s.kiln.trngHalted := by
  have e := congrArg (fun x : State => x.kiln.trngHalted) h.frame
  simpa only [erase, hT, cond_false] using e

/-- A law that does not list the part leaves it: kiln.keyFault. -/
theorem Law.keyFault_eq {T : Nat} {s t : State} (h : Law T s t) (hT : T.testBit 24 = false) : t.kiln.keyFault = s.kiln.keyFault := by
  have e := congrArg (fun x : State => x.kiln.keyFault) h.frame
  simpa only [erase, hT, cond_false] using e

/-- A law that does not list the part leaves it: kiln.billingOmitted. -/
theorem Law.billingOmitted_eq {T : Nat} {s t : State} (h : Law T s t) (hT : T.testBit 24 = false) : t.kiln.billingOmitted = s.kiln.billingOmitted := by
  have e := congrArg (fun x : State => x.kiln.billingOmitted) h.frame
  simpa only [erase, hT, cond_false] using e

/-- A law that does not list the part leaves it: kiln.recordsLost. -/
theorem Law.recordsLost_eq {T : Nat} {s t : State} (h : Law T s t) (hT : T.testBit 24 = false) : t.kiln.recordsLost = s.kiln.recordsLost := by
  have e := congrArg (fun x : State => x.kiln.recordsLost) h.frame
  simpa only [erase, hT, cond_false] using e

/-- A law that does not list the part leaves it: kiln.counter. -/
theorem Law.counter_eq {T : Nat} {s t : State} (h : Law T s t) (hT : T.testBit 24 = false) : t.kiln.counter = s.kiln.counter := by
  have e := congrArg (fun x : State => x.kiln.counter) h.frame
  simpa only [erase, hT, cond_false] using e

/-- A law that does not list the part leaves it: update. -/
theorem Law.update_eq {T : Nat} {s t : State} (h : Law T s t) (hT : T.testBit 25 = false) : t.update = s.update := by
  have e := congrArg (fun x : State => x.update) h.frame
  simpa only [erase, hT, cond_false] using e

/-- A law that does not list the part leaves it: ports. -/
theorem Law.ports_eq {T : Nat} {s t : State} (h : Law T s t) (hT : T.testBit 26 = false) : t.ports = s.ports := by
  have e := congrArg (fun x : State => x.ports) h.frame
  simpa only [erase, hT, cond_false] using e

/-- A law that does not list the part leaves it: convs. -/
theorem Law.convs_eq {T : Nat} {s t : State} (h : Law T s t) (hT : T.testBit 27 = false) : t.convs = s.convs := by
  have e := congrArg (fun x : State => x.convs) h.frame
  simpa only [erase, hT, cond_false] using e

/-- A law that does not list the part leaves it: syncs. -/
theorem Law.syncs_eq {T : Nat} {s t : State} (h : Law T s t) (hT : T.testBit 28 = false) : t.syncs = s.syncs := by
  have e := congrArg (fun x : State => x.syncs) h.frame
  simpa only [erase, hT, cond_false] using e

/-- A law that does not list the part leaves it: lanes. -/
theorem Law.lanes_eq {T : Nat} {s t : State} (h : Law T s t) (hT : T.testBit 29 = false) : t.lanes = s.lanes := by
  have e := congrArg (fun x : State => x.lanes) h.frame
  simpa only [erase, hT, cond_false] using e

/-- A law that does not list the part leaves it: cal. -/
theorem Law.cal_eq {T : Nat} {s t : State} (h : Law T s t) (hT : T.testBit 30 = false) : t.cal = s.cal := by
  have e := congrArg (fun x : State => x.cal) h.frame
  simpa only [erase, hT, cond_false] using e

/-- A law that does not list the part leaves it: meters. -/
theorem Law.meters_eq {T : Nat} {s t : State} (h : Law T s t) (hT : T.testBit 31 = false) : t.meters = s.meters := by
  have e := congrArg (fun x : State => x.meters) h.frame
  simpa only [erase, hT, cond_false] using e

/-- A law that does not list the part leaves it: counters. -/
theorem Law.counters_eq {T : Nat} {s t : State} (h : Law T s t) (hT : T.testBit 32 = false) : t.counters = s.counters := by
  have e := congrArg (fun x : State => x.counters) h.frame
  simpa only [erase, hT, cond_false] using e

/-- A law that does not list the part leaves it: interval. -/
theorem Law.interval_eq {T : Nat} {s t : State} (h : Law T s t) (hT : T.testBit 33 = false) : t.interval = s.interval := by
  have e := congrArg (fun x : State => x.interval) h.frame
  simpa only [erase, hT, cond_false] using e

/-- A law that does not list the part leaves it: loops. -/
theorem Law.loops_eq {T : Nat} {s t : State} (h : Law T s t) (hT : T.testBit 34 = false) : t.loops = s.loops := by
  have e := congrArg (fun x : State => x.loops) h.frame
  simpa only [erase, hT, cond_false] using e

/-- A law that does not list the part leaves it: reps. -/
theorem Law.reps_eq {T : Nat} {s t : State} (h : Law T s t) (hT : T.testBit 35 = false) : t.reps = s.reps := by
  have e := congrArg (fun x : State => x.reps) h.frame
  simpa only [erase, hT, cond_false] using e

/-- A law that does not list the part leaves it: groups. -/
theorem Law.groups_eq {T : Nat} {s t : State} (h : Law T s t) (hT : T.testBit 36 = false) : t.groups = s.groups := by
  have e := congrArg (fun x : State => x.groups) h.frame
  simpa only [erase, hT, cond_false] using e

/-- A law that does not list the part leaves it: traces. -/
theorem Law.traces_eq {T : Nat} {s t : State} (h : Law T s t) (hT : T.testBit 37 = false) : t.traces = s.traces := by
  have e := congrArg (fun x : State => x.traces) h.frame
  simpa only [erase, hT, cond_false] using e

/-- A law that does not list the part leaves it: zones. -/
theorem Law.zones_eq {T : Nat} {s t : State} (h : Law T s t) (hT : T.testBit 38 = false) : t.zones = s.zones := by
  have e := congrArg (fun x : State => x.zones) h.frame
  simpa only [erase, hT, cond_false] using e

/-- A law that does not list the part leaves it: display. -/
theorem Law.display_eq {T : Nat} {s t : State} (h : Law T s t) (hT : T.testBit 39 = false) : t.display = s.display := by
  have e := congrArg (fun x : State => x.display) h.frame
  simpa only [erase, hT, cond_false] using e

/-- A law that does not list the part leaves it: indicators. -/
theorem Law.indicators_eq {T : Nat} {s t : State} (h : Law T s t) (hT : T.testBit 40 = false) : t.indicators = s.indicators := by
  have e := congrArg (fun x : State => x.indicators) h.frame
  simpa only [erase, hT, cond_false] using e

/-- A law that does not list the part leaves it: health. -/
theorem Law.health_eq {T : Nat} {s t : State} (h : Law T s t) (hT : T.testBit 41 = false) : t.health = s.health := by
  have e := congrArg (fun x : State => x.health) h.frame
  simpa only [erase, hT, cond_false] using e

/-- A law that does not list the part leaves it: used. -/
theorem Law.used_eq {T : Nat} {s t : State} (h : Law T s t) (hT : T.testBit 42 = false) : t.used = s.used := by
  have e := congrArg (fun x : State => x.used) h.frame
  simpa only [erase, hT, cond_false] using e

end Sys2Proof.Machine
end

