-- ==== Sys2Proof/Laws/Relation.lean ====
section
/-! SUPPORT. How laws compose: one function after another, branches, folds, pairs, and the outcomes of commands. -/

namespace Sys2Proof.Machine

/-- T is part of U. -/
abbrev inside (T U : Nat) : Bool := T &&& U == T

theorem inside_bit {T U : Nat} (h : inside T U = true) (i : Nat) (hU : U.testBit i = false) : T.testBit i = false := by
  have e : T &&& U = T := by simpa using h
  rw [← e, Nat.testBit_and, hU, Bool.and_false]

/-- Erasing more parts keeps an agreement. -/
theorem erase_mono {T U : Nat} (h : inside T U = true) {s t : State} (e : erase T t = erase T s) : erase U t = erase U s := by
  have k : ∀ x : State, erase U x = erase U (erase T x) := by
    intro x
    have b : ∀ (i : Nat) {α : Type} (a c : α), cond (U.testBit i) a (cond (T.testBit i) a c) = cond (U.testBit i) a c := by
      intro i α a c
      cases hU : U.testBit i with
      | true => rfl
      | false => rw [inside_bit h i hU]; rfl
    simp only [erase, b]
  rw [k t, e, ← k s]

theorem Law.refl (T : Nat) (s : State) : Law T s s := ⟨rfl, Evolves.refl s⟩

theorem Law.mono {T U : Nat} {s t : State} (h : Law T s t) (k : inside T U = true) : Law U s t := ⟨erase_mono k h.frame, h.evolves⟩

theorem Law.trans {T : Nat} {s t u : State} (h : Law T s t) (k : Law T t u) : Law T s u :=
  ⟨k.frame.trans h.frame, h.evolves.trans k.evolves⟩

/-- One more function, whose mask is part of the whole's. -/
theorem Law.step {T U : Nat} {s t u : State} (h : Law U s t) (k : Law T t u) (m : inside T U = true) : Law U s u := h.trans (k.mono m)

theorem Law.ite {T : Nat} {s a b : State} {c : Prop} [Decidable c] (h : Law T s a) (k : Law T s b) : Law T s (if c then a else b) := by
  split
  · exact h
  · exact k

theorem Law.ite_snd {T : Nat} {α : Type} {s : State} {a b : α × State} {c : Prop} [Decidable c] (h : Law T s a.2) (k : Law T s b.2) :
    Law T s (if c then a else b).2 := by
  split
  · exact h
  · exact k

theorem Law.ite_fst {T : Nat} {α : Type} {s : State} {a b : State × α} {c : Prop} [Decidable c] (h : Law T s a.1) (k : Law T s b.1) :
    Law T s (if c then a else b).1 := by
  split
  · exact h
  · exact k

theorem Law.cond {T : Nat} {s a b : State} {c : Bool} (h : Law T s a) (k : Law T s b) : Law T s (cond c a b) := by
  cases c
  · exact k
  · exact h

theorem Law.foldl {T : Nat} {α : Type} {s i : State} {f : State → α → State} {l : List α} (h : Law T s i)
    (k : ∀ a x, Law T a (f a x)) : Law T s (l.foldl f i) := by
  induction l generalizing i with
  | nil => exact h
  | cons x r ih => exact ih (h.trans (k i x))

theorem Law.foldl_fst {T : Nat} {α β : Type} {s : State} {i : State × β} {f : State × β → α → State × β} {l : List α}
    (h : Law T s i.1) (k : ∀ a x, Law T a.1 (f a x).1) : Law T s (l.foldl f i).1 := by
  induction l generalizing i with
  | nil => exact h
  | cons x r ih => exact ih (h.trans (k i x))

theorem Law.foldl_third {T : Nat} {α β γ : Type} {s : State} {i : β × γ × State} {f : β × γ × State → α → β × γ × State} {l : List α}
    (h : Law T s i.2.2) (k : ∀ a x, Law T a.2.2 (f a x).2.2) : Law T s (l.foldl f i).2.2 := by
  induction l generalizing i with
  | nil => exact h
  | cons x r ih => exact ih (h.trans (k i x))

theorem Law.foldl_snd {T : Nat} {α β : Type} {s : State} {i : β × State} {f : β × State → α → β × State} {l : List α}
    (h : Law T s i.2) (k : ∀ a x, Law T a.2 (f a x).2) : Law T s (l.foldl f i).2 := by
  induction l generalizing i with
  | nil => exact h
  | cons x r ih => exact ih (h.trans (k i x))

theorem Law.of_snd {T : Nat} {α : Type} {s t : State} {p : α × State} {b : α} (h : p = (b, t)) (k : Law T s p.2) : Law T s t := by
  subst h; exact k

theorem Law.of_fst {T : Nat} {α : Type} {s t : State} {p : State × α} {b : α} (h : p = (t, b)) (k : Law T s p.1) : Law T s t := by
  subst h; exact k

/-- A record update that touches none of the parts that `Evolves` speaks about. -/
theorem Law.upd {T : Nat} {s t : State} (hT : T &&& 0x1200518 = 0) (h : erase T t = erase T s) : Law T s t := by
  have q : ∀ i, (0x1200518 : Nat).testBit i = true → T.testBit i = false := by
    intro i hi
    have := congrArg (fun n => n.testBit i) hT
    simpa [Nat.testBit_and, hi] using this
  have l : Law T s t → Law T s t := id
  have f : ∀ {α : Type} (g : State → α), g (erase T t) = g (erase T s) := fun g => congrArg g h
  have hm : t.stor.mem = s.stor.mem := by simpa only [erase, q 4 rfl, cond_false] using f fun x => x.stor.mem
  have he : t.ents = s.ents := by simpa only [erase, q 3 rfl, cond_false] using f fun x => x.ents
  have hs : t.kdp.snaps = s.kdp.snaps := by simpa only [erase, q 10 rfl, cond_false] using f fun x => x.kdp.snaps
  have hp : t.stor.remap = s.stor.remap := by simpa only [erase, q 8 rfl, cond_false] using f fun x => x.stor.remap
  have ha : t.audit = s.audit := by simpa only [erase, q 21 rfl, cond_false] using f fun x => x.audit
  have hc : t.kiln.counter = s.kiln.counter := by simpa only [erase, q 24 rfl, cond_false] using f fun x => x.kiln.counter
  exact ⟨h, ⟨by rw [hm]; exact id, by rw [he]; exact id, by rw [hs]; exact id, by rw [hp]; exact id, Nat.le_of_eq (by rw [ha]),
    Nat.le_of_eq (by rw [hc])⟩⟩

/-- A record update that leaves what `Evolves` speaks about as it is, whatever the mask. -/
theorem Law.upd' {T : Nat} {s t : State} (h : erase T t = erase T s) (hm : t.stor.mem = s.stor.mem) (he : t.ents = s.ents)
    (hs : t.kdp.snaps = s.kdp.snaps) (hp : t.stor.remap = s.stor.remap) (ha : t.audit = s.audit)
    (hc : t.kiln.counter = s.kiln.counter) : Law T s t :=
  ⟨h, ⟨by rw [hm]; exact id, by rw [he]; exact id, by rw [hs]; exact id, by rw [hp]; exact id, Nat.le_of_eq (by rw [ha]),
    Nat.le_of_eq (by rw [hc])⟩⟩

/-- A record update that touches none of the parts that `Evolves` speaks about. -/
theorem Law.put {T U : Nat} {s X : State} {a0 : Power} {a1 : Clock} {a2 : Thermos} {a3 : List (Nat × Bytes)} {a4 : Storage} {a5 : List Cond} {a6 : Kdp} {a7 : Bus} {a8 : NetTime} {a9 : Vector AlarmSt 8} {a10 : Audit} {a11 : Kiln} {a12 : UpdateSt} {a13 : Vector PortSt 64} {a14 : Vector ConvSt 8} {a15 : Vector SyncSt 4} {a16 : Vector LaneSt 8} {a17 : CalSt} {a18 : Vector MeterSt 16} {a19 : Vector CounterSt 32} {a20 : IntervalSt} {a21 : Vector LoopSt 96} {a22 : Vector RepSt 96} {a23 : Vector GroupSt 16} {a24 : Vector TraceSt 8} {a25 : Vector ZoneSt 32} {a26 : DisplaySt} {a27 : Vector IndicatorSt 4} {a28 : HealthSt} {a29 : Nat}
    (h : Law U s X) (e : erase T (State.mk X.pending a0 a1 a2 a3 a4 a5 a6 a7 a8 a9 a10 a11 a12 a13 a14 a15 a16 a17 a18 a19 a20 a21 a22 a23 a24 a25 a26 a27 a28 a29) = erase T X)
    (hT : T &&& 0x1200518 = 0) (m : inside T U = true) : Law U s (State.mk X.pending a0 a1 a2 a3 a4 a5 a6 a7 a8 a9 a10 a11 a12 a13 a14 a15 a16 a17 a18 a19 a20 a21 a22 a23 a24 a25 a26 a27 a28 a29) :=
  Law.step h (Law.upd hT e) m

/-- A record update that leaves what `Evolves` speaks about as it is. -/
theorem Law.put' {T U : Nat} {s X : State} {a0 : Power} {a1 : Clock} {a2 : Thermos} {a3 : List (Nat × Bytes)} {a4 : Storage} {a5 : List Cond} {a6 : Kdp} {a7 : Bus} {a8 : NetTime} {a9 : Vector AlarmSt 8} {a10 : Audit} {a11 : Kiln} {a12 : UpdateSt} {a13 : Vector PortSt 64} {a14 : Vector ConvSt 8} {a15 : Vector SyncSt 4} {a16 : Vector LaneSt 8} {a17 : CalSt} {a18 : Vector MeterSt 16} {a19 : Vector CounterSt 32} {a20 : IntervalSt} {a21 : Vector LoopSt 96} {a22 : Vector RepSt 96} {a23 : Vector GroupSt 16} {a24 : Vector TraceSt 8} {a25 : Vector ZoneSt 32} {a26 : DisplaySt} {a27 : Vector IndicatorSt 4} {a28 : HealthSt} {a29 : Nat}
    (h : Law U s X) (e : erase T (State.mk X.pending a0 a1 a2 a3 a4 a5 a6 a7 a8 a9 a10 a11 a12 a13 a14 a15 a16 a17 a18 a19 a20 a21 a22 a23 a24 a25 a26 a27 a28 a29) = erase T X) (hm : a4.mem = X.stor.mem) (he : a3 = X.ents) (hs : a6.snaps = X.kdp.snaps)
    (hp : a4.remap = X.stor.remap) (ha : a10 = X.audit) (hc : a11.counter = X.kiln.counter) (m : inside T U = true) :
    Law U s (State.mk X.pending a0 a1 a2 a3 a4 a5 a6 a7 a8 a9 a10 a11 a12 a13 a14 a15 a16 a17 a18 a19 a20 a21 a22 a23 a24 a25 a26 a27 a28 a29) :=
  Law.step h (Law.upd' e hm he hs hp ha hc) m

/-- A record update with its own proof of what `Evolves` says. -/
theorem Law.putE {T U : Nat} {s X : State} {a0 : Power} {a1 : Clock} {a2 : Thermos} {a3 : List (Nat × Bytes)} {a4 : Storage} {a5 : List Cond} {a6 : Kdp} {a7 : Bus} {a8 : NetTime} {a9 : Vector AlarmSt 8} {a10 : Audit} {a11 : Kiln} {a12 : UpdateSt} {a13 : Vector PortSt 64} {a14 : Vector ConvSt 8} {a15 : Vector SyncSt 4} {a16 : Vector LaneSt 8} {a17 : CalSt} {a18 : Vector MeterSt 16} {a19 : Vector CounterSt 32} {a20 : IntervalSt} {a21 : Vector LoopSt 96} {a22 : Vector RepSt 96} {a23 : Vector GroupSt 16} {a24 : Vector TraceSt 8} {a25 : Vector ZoneSt 32} {a26 : DisplaySt} {a27 : Vector IndicatorSt 4} {a28 : HealthSt} {a29 : Nat}
    (h : Law U s X) (e : erase T (State.mk X.pending a0 a1 a2 a3 a4 a5 a6 a7 a8 a9 a10 a11 a12 a13 a14 a15 a16 a17 a18 a19 a20 a21 a22 a23 a24 a25 a26 a27 a28 a29) = erase T X) (v : Evolves X (State.mk X.pending a0 a1 a2 a3 a4 a5 a6 a7 a8 a9 a10 a11 a12 a13 a14 a15 a16 a17 a18 a19 a20 a21 a22 a23 a24 a25 a26 a27 a28 a29)) (m : inside T U = true) :
    Law U s (State.mk X.pending a0 a1 a2 a3 a4 a5 a6 a7 a8 a9 a10 a11 a12 a13 a14 a15 a16 a17 a18 a19 a20 a21 a22 a23 a24 a25 a26 a27 a28 a29) :=
  Law.step h ⟨e, v⟩ m

/-! ## Outcomes -/

/-- An outcome's next state obeys the law. -/
@[irreducible] def LawO (T : Nat) (s : State) (o : Out) : Prop := ∀ t, o = .next t → Law T s t

theorem LawO.out {T : Nat} {s t : State} {o : Out} (h : LawO T s o) (e : o = .next t) : Law T s t := by
  unfold LawO at h; exact h t e

theorem LawO.next {T : Nat} {s t : State} (h : Law T s t) : LawO T s (.next t) := by
  unfold LawO; intro u e; cases e; exact h

theorem LawO.ite {T : Nat} {s : State} {a b : Out} {c : Prop} [Decidable c] (h : LawO T s a) (k : LawO T s b) :
    LawO T s (if c then a else b) := by
  split
  · exact h
  · exact k

end Sys2Proof.Machine
end

