-- ==== Sys2Proof/Laws/FrameOps.lean ====
section
/-! SUPPORT. What each function of Machine/Ops.lean may touch. -/

namespace Sys2Proof.Machine

theorem law_setBytes (s : State) (index : Nat) (sub : Nat) (v : Bytes) : Law 0x8 s (setBytes s index sub v) := by
  unfold setBytes
  split
  · exact ⟨rfl, id, fun h => mapDel_wf _ _ h, id, id, Nat.le_refl _, Nat.le_refl _⟩
  · exact ⟨rfl, id, fun h => mapSet_wf _ _ _ h, id, id, Nat.le_refl _, Nat.le_refl _⟩

theorem law_setN (s : State) (index : Nat) (sub : Nat) (n : Nat) : Law 0x8 s (setN s index sub n) := by
  unfold setN
  try dsimp only
  repeat' first
    | with_reducible apply Law.refl
    | ((with_reducible apply Law.step); (case k => with_reducible apply law_setBytes); (case m => rfl))
    | with_reducible apply Law.ite
    | with_reducible apply LawO.ite
    | with_reducible apply Law.ite_snd
    | with_reducible apply Law.ite_fst
    | with_reducible apply LawO.next
    | with_reducible apply Law.cond
    | with_reducible apply Law.foldl
    | with_reducible apply Law.foldl_fst
    | with_reducible apply Law.foldl_snd
    | with_reducible apply Law.foldl_third
    | (intro _ _; try dsimp only)
    | (split <;> try dsimp only)
    | ((with_reducible apply Law.of_snd); (assumption))

theorem law_addN (s : State) (index : Nat) (sub : Nat) (n : Nat) : Law 0x8 s (addN s index sub n) := by
  unfold addN
  try dsimp only
  repeat' first
    | with_reducible apply Law.refl
    | ((with_reducible apply Law.step); (case k => with_reducible apply law_setN); (case m => rfl))
    | with_reducible apply Law.ite
    | with_reducible apply LawO.ite
    | with_reducible apply Law.ite_snd
    | with_reducible apply Law.ite_fst
    | with_reducible apply LawO.next
    | with_reducible apply Law.cond
    | with_reducible apply Law.foldl
    | with_reducible apply Law.foldl_fst
    | with_reducible apply Law.foldl_snd
    | with_reducible apply Law.foldl_third
    | (intro _ _; try dsimp only)
    | (split <;> try dsimp only)
    | ((with_reducible apply Law.of_snd); (assumption))

theorem law_causeGone (s : State) (code : Nat) : Law 0x200 s (causeGone s code) := by
  unfold causeGone
  try dsimp only
  repeat' first
    | with_reducible apply Law.refl
    | with_reducible apply Law.ite
    | with_reducible apply LawO.ite
    | with_reducible apply Law.ite_snd
    | with_reducible apply Law.ite_fst
    | with_reducible apply LawO.next
    | with_reducible apply Law.cond
    | with_reducible apply Law.foldl
    | with_reducible apply Law.foldl_fst
    | with_reducible apply Law.foldl_snd
    | with_reducible apply Law.foldl_third
    | (intro _ _; try dsimp only)
    | (split <;> try dsimp only)
    | ((with_reducible apply Law.put (T := 0x200)); (fail_if_success (case e => with_reducible rfl)); (case e => simp only [erase, Nat.testBit, Nat.reduceShiftRight, Nat.reduceAnd, Nat.reduceBNe, bne_self_eq_false, cond_true, cond_false]); (case hT => rfl); (case m => rfl))
    | ((with_reducible apply Law.of_snd); (assumption))

theorem law_noteEvent (s : State) (code : Nat) : Law 0x8000 s (noteEvent s code) := by
  unfold noteEvent
  try dsimp only
  repeat' first
    | with_reducible apply Law.refl
    | with_reducible apply Law.ite
    | with_reducible apply LawO.ite
    | with_reducible apply Law.ite_snd
    | with_reducible apply Law.ite_fst
    | with_reducible apply LawO.next
    | with_reducible apply Law.cond
    | with_reducible apply Law.foldl
    | with_reducible apply Law.foldl_fst
    | with_reducible apply Law.foldl_snd
    | with_reducible apply Law.foldl_third
    | (intro _ _; try dsimp only)
    | (split <;> try dsimp only)
    | ((with_reducible apply Law.put (T := 0x8000)); (fail_if_success (case e => with_reducible rfl)); (case e => simp only [erase, Nat.testBit, Nat.reduceShiftRight, Nat.reduceAnd, Nat.reduceBNe, bne_self_eq_false, cond_true, cond_false]); (case hT => rfl); (case m => rfl))
    | ((with_reducible apply Law.of_snd); (assumption))

theorem law_dropCond (s : State) (code : Nat) : Law 0x8200 s (dropCond s code) := by
  unfold dropCond
  try dsimp only
  repeat' first
    | with_reducible apply Law.refl
    | ((with_reducible apply Law.step); (case k => with_reducible apply law_noteEvent); (case m => rfl))
    | with_reducible apply Law.ite
    | with_reducible apply LawO.ite
    | with_reducible apply Law.ite_snd
    | with_reducible apply Law.ite_fst
    | with_reducible apply LawO.next
    | with_reducible apply Law.cond
    | with_reducible apply Law.foldl
    | with_reducible apply Law.foldl_fst
    | with_reducible apply Law.foldl_snd
    | with_reducible apply Law.foldl_third
    | (intro _ _; try dsimp only)
    | (split <;> try dsimp only)
    | ((with_reducible apply Law.put (T := 0x200)); (fail_if_success (case e => with_reducible rfl)); (case e => simp only [erase, Nat.testBit, Nat.reduceShiftRight, Nat.reduceAnd, Nat.reduceBNe, bne_self_eq_false, cond_true, cond_false]); (case hT => rfl); (case m => rfl))
    | ((with_reducible apply Law.of_snd); (assumption))

theorem law_raiseWith (s : State) (code : Nat) (cause : Bool) : Law 0x8200 s (raiseWith s code cause) := by
  unfold raiseWith
  try dsimp only
  repeat' first
    | with_reducible apply Law.refl
    | ((with_reducible apply Law.step); (case k => with_reducible apply law_noteEvent); (case m => rfl))
    | with_reducible apply Law.ite
    | with_reducible apply LawO.ite
    | with_reducible apply Law.ite_snd
    | with_reducible apply Law.ite_fst
    | with_reducible apply LawO.next
    | with_reducible apply Law.cond
    | with_reducible apply Law.foldl
    | with_reducible apply Law.foldl_fst
    | with_reducible apply Law.foldl_snd
    | with_reducible apply Law.foldl_third
    | (intro _ _; try dsimp only)
    | (split <;> try dsimp only)
    | ((with_reducible apply Law.put (T := 0x200)); (fail_if_success (case e => with_reducible rfl)); (case e => simp only [erase, Nat.testBit, Nat.reduceShiftRight, Nat.reduceAnd, Nat.reduceBNe, bne_self_eq_false, cond_true, cond_false]); (case hT => rfl); (case m => rfl))
    | ((with_reducible apply Law.of_snd); (assumption))

theorem law_raiseHeld (s : State) (code : Nat) : Law 0x8200 s (raiseHeld s code) := by
  unfold raiseHeld
  try dsimp only
  repeat' first
    | with_reducible apply Law.refl
    | ((with_reducible apply Law.step); (case k => with_reducible apply law_raiseWith); (case m => rfl))
    | with_reducible apply Law.ite
    | with_reducible apply LawO.ite
    | with_reducible apply Law.ite_snd
    | with_reducible apply Law.ite_fst
    | with_reducible apply LawO.next
    | with_reducible apply Law.cond
    | with_reducible apply Law.foldl
    | with_reducible apply Law.foldl_fst
    | with_reducible apply Law.foldl_snd
    | with_reducible apply Law.foldl_third
    | (intro _ _; try dsimp only)
    | (split <;> try dsimp only)
    | ((with_reducible apply Law.of_snd); (assumption))

theorem law_follow (s : State) (code : Nat) (cause : Bool) : Law 0x8200 s (follow s code cause) := by
  unfold follow
  try dsimp only
  repeat' first
    | with_reducible apply Law.refl
    | ((with_reducible apply Law.step); (case k => with_reducible first | apply law_raiseHeld | apply law_dropCond); (case m => rfl))
    | with_reducible apply Law.ite
    | with_reducible apply LawO.ite
    | with_reducible apply Law.ite_snd
    | with_reducible apply Law.ite_fst
    | with_reducible apply LawO.next
    | with_reducible apply Law.cond
    | with_reducible apply Law.foldl
    | with_reducible apply Law.foldl_fst
    | with_reducible apply Law.foldl_snd
    | with_reducible apply Law.foldl_third
    | (intro _ _; try dsimp only)
    | (split <;> try dsimp only)
    | ((with_reducible apply Law.of_snd); (assumption))

theorem law_freshFree (s : State) : Law 0x40000000000 s (freshFree s).2 := by
  unfold freshFree
  try dsimp only
  repeat' first
    | with_reducible apply Law.refl
    | with_reducible apply Law.ite
    | with_reducible apply LawO.ite
    | with_reducible apply Law.ite_snd
    | with_reducible apply Law.ite_fst
    | with_reducible apply LawO.next
    | with_reducible apply Law.cond
    | with_reducible apply Law.foldl
    | with_reducible apply Law.foldl_fst
    | with_reducible apply Law.foldl_snd
    | with_reducible apply Law.foldl_third
    | (intro _ _; try dsimp only)
    | (split <;> try dsimp only)
    | ((with_reducible apply Law.put (T := 0x40000000000)); (fail_if_success (case e => with_reducible rfl)); (case e => simp only [erase, Nat.testBit, Nat.reduceShiftRight, Nat.reduceAnd, Nat.reduceBNe, bne_self_eq_false, cond_true, cond_false]); (case hT => rfl); (case m => rfl))
    | ((with_reducible apply Law.of_snd); (assumption))

theorem law_judge (s : State) (code : Nat) (cause : Bool) : Law 0x8200 s (judge s code cause) := by
  unfold judge
  try dsimp only
  repeat' first
    | with_reducible apply Law.refl
    | ((with_reducible apply Law.step); (case k => with_reducible first | apply law_raiseHeld | apply law_causeGone); (case m => rfl))
    | with_reducible apply Law.ite
    | with_reducible apply LawO.ite
    | with_reducible apply Law.ite_snd
    | with_reducible apply Law.ite_fst
    | with_reducible apply LawO.next
    | with_reducible apply Law.cond
    | with_reducible apply Law.foldl
    | with_reducible apply Law.foldl_fst
    | with_reducible apply Law.foldl_snd
    | with_reducible apply Law.foldl_third
    | (intro _ _; try dsimp only)
    | (split <;> try dsimp only)
    | ((with_reducible apply Law.of_snd); (assumption))

theorem law_next (s : State) : LawO 0x0 s (next s) := by
  unfold next
  try dsimp only
  repeat' first
    | with_reducible apply Law.refl
    | with_reducible apply Law.ite
    | with_reducible apply LawO.ite
    | with_reducible apply Law.ite_snd
    | with_reducible apply Law.ite_fst
    | with_reducible apply LawO.next
    | with_reducible apply Law.cond
    | with_reducible apply Law.foldl
    | with_reducible apply Law.foldl_fst
    | with_reducible apply Law.foldl_snd
    | with_reducible apply Law.foldl_third
    | (intro _ _; try dsimp only)
    | (split <;> try dsimp only)
    | ((with_reducible apply Law.of_snd); (assumption))

theorem law_raise (s : State) (code : Nat) : Law 0x8200 s (raise s code) := by
  unfold raise
  try dsimp only
  repeat' first
    | with_reducible apply Law.refl
    | ((with_reducible apply Law.step); (case k => with_reducible apply law_raiseWith); (case m => rfl))
    | with_reducible apply Law.ite
    | with_reducible apply LawO.ite
    | with_reducible apply Law.ite_snd
    | with_reducible apply Law.ite_fst
    | with_reducible apply LawO.next
    | with_reducible apply Law.cond
    | with_reducible apply Law.foldl
    | with_reducible apply Law.foldl_fst
    | with_reducible apply Law.foldl_snd
    | with_reducible apply Law.foldl_third
    | (intro _ _; try dsimp only)
    | (split <;> try dsimp only)
    | ((with_reducible apply Law.of_snd); (assumption))

theorem law_setB (s : State) (index : Nat) (sub : Nat) (b : Bool) : Law 0x8 s (setB s index sub b) := by
  unfold setB
  try dsimp only
  repeat' first
    | with_reducible apply Law.refl
    | ((with_reducible apply Law.step); (case k => with_reducible apply law_setN); (case m => rfl))
    | with_reducible apply Law.ite
    | with_reducible apply LawO.ite
    | with_reducible apply Law.ite_snd
    | with_reducible apply Law.ite_fst
    | with_reducible apply LawO.next
    | with_reducible apply Law.cond
    | with_reducible apply Law.foldl
    | with_reducible apply Law.foldl_fst
    | with_reducible apply Law.foldl_snd
    | with_reducible apply Law.foldl_third
    | (intro _ _; try dsimp only)
    | (split <;> try dsimp only)
    | ((with_reducible apply Law.of_snd); (assumption))

theorem law_setBit (s : State) (index : Nat) (sub : Nat) (i : Nat) (b : Bool) : Law 0x8 s (setBit s index sub i b) := by
  unfold setBit
  try dsimp only
  repeat' first
    | with_reducible apply Law.refl
    | ((with_reducible apply Law.step); (case k => with_reducible apply law_setN); (case m => rfl))
    | with_reducible apply Law.ite
    | with_reducible apply LawO.ite
    | with_reducible apply Law.ite_snd
    | with_reducible apply Law.ite_fst
    | with_reducible apply LawO.next
    | with_reducible apply Law.cond
    | with_reducible apply Law.foldl
    | with_reducible apply Law.foldl_fst
    | with_reducible apply Law.foldl_snd
    | with_reducible apply Law.foldl_third
    | (intro _ _; try dsimp only)
    | (split <;> try dsimp only)
    | ((with_reducible apply Law.of_snd); (assumption))

theorem law_setF (s : State) (index : Nat) (sub : Nat) (x : F32) : Law 0x8 s (setF s index sub x) := by
  unfold setF
  try dsimp only
  repeat' first
    | with_reducible apply Law.refl
    | ((with_reducible apply Law.step); (case k => with_reducible apply law_setN); (case m => rfl))
    | with_reducible apply Law.ite
    | with_reducible apply LawO.ite
    | with_reducible apply Law.ite_snd
    | with_reducible apply Law.ite_fst
    | with_reducible apply LawO.next
    | with_reducible apply Law.cond
    | with_reducible apply Law.foldl
    | with_reducible apply Law.foldl_fst
    | with_reducible apply Law.foldl_snd
    | with_reducible apply Law.foldl_third
    | (intro _ _; try dsimp only)
    | (split <;> try dsimp only)
    | ((with_reducible apply Law.of_snd); (assumption))

theorem law_setI (s : State) (index : Nat) (sub : Nat) (x : Int) : Law 0x8 s (setI s index sub x) := by
  unfold setI
  try dsimp only
  repeat' first
    | with_reducible apply Law.refl
    | ((with_reducible apply Law.step); (case k => with_reducible apply law_setN); (case m => rfl))
    | with_reducible apply Law.ite
    | with_reducible apply LawO.ite
    | with_reducible apply Law.ite_snd
    | with_reducible apply Law.ite_fst
    | with_reducible apply LawO.next
    | with_reducible apply Law.cond
    | with_reducible apply Law.foldl
    | with_reducible apply Law.foldl_fst
    | with_reducible apply Law.foldl_snd
    | with_reducible apply Law.foldl_third
    | (intro _ _; try dsimp only)
    | (split <;> try dsimp only)
    | ((with_reducible apply Law.of_snd); (assumption))

theorem law_thermosWrite (s : State) (f : Thermos → Thermos) : Law 0x4 s (thermosWrite s f) := by
  unfold thermosWrite
  try dsimp only
  repeat' first
    | with_reducible apply Law.refl
    | with_reducible apply Law.ite
    | with_reducible apply LawO.ite
    | with_reducible apply Law.ite_snd
    | with_reducible apply Law.ite_fst
    | with_reducible apply LawO.next
    | with_reducible apply Law.cond
    | with_reducible apply Law.foldl
    | with_reducible apply Law.foldl_fst
    | with_reducible apply Law.foldl_snd
    | with_reducible apply Law.foldl_third
    | (intro _ _; try dsimp only)
    | (split <;> try dsimp only)
    | ((with_reducible apply Law.put (T := 0x4)); (fail_if_success (case e => with_reducible rfl)); (case e => simp only [erase, Nat.testBit, Nat.reduceShiftRight, Nat.reduceAnd, Nat.reduceBNe, bne_self_eq_false, cond_true, cond_false]); (case hT => rfl); (case m => rfl))
    | ((with_reducible apply Law.of_snd); (assumption))

end Sys2Proof.Machine
end

