-- ==== Sys2Proof/Laws/FrameStore.lean ====
section
/-! SUPPORT. What each function of Machine/Store.lean may touch. -/

namespace Sys2Proof.Machine

theorem law_auditAdvance (s : State) (b : Bytes) (lost : Bool) : Law 0x208208 s (auditAdvance s b lost) := by
  unfold auditAdvance
  try dsimp only
  repeat' first
    | with_reducible apply Law.refl
    | ((with_reducible apply Law.step); (case k => with_reducible first | apply law_addN | apply law_raiseHeld); (case m => rfl))
    | with_reducible apply Law.ite
    | with_reducible apply LawO.ite
    | with_reducible apply Law.ite_snd
    | with_reducible apply Law.ite_fst
    | with_reducible apply LawO.next
    | with_reducible apply Law.cond
    | with_reducible apply Law.foldl
    | with_reducible apply Law.foldl_fst
    | with_reducible apply Law.foldl_snd
    | with_reducible apply Law.foldl_third
    | (intro _ _; try dsimp only)
    | (split <;> try dsimp only)
    | ((with_reducible apply Law.putE (T := 0x200000)); (fail_if_success (case e => with_reducible rfl)); (case e => simp only [erase, Nat.testBit, Nat.reduceShiftRight, Nat.reduceAnd, Nat.reduceBNe, bne_self_eq_false, cond_true, cond_false]); (case v => exact ⟨id, id, id, id, Nat.le_succ _, Nat.le_refl _⟩); (case m => rfl))
    | ((with_reducible apply Law.of_snd); (assumption))

theorem law_countWrites (s : State) (region : Nat) (n : Nat) : Law 0x28 s (countWrites s region n) := by
  unfold countWrites
  try dsimp only
  repeat' first
    | with_reducible apply Law.refl
    | ((with_reducible apply Law.step); (case k => with_reducible apply law_addN); (case m => rfl))
    | with_reducible apply Law.ite
    | with_reducible apply LawO.ite
    | with_reducible apply Law.ite_snd
    | with_reducible apply Law.ite_fst
    | with_reducible apply LawO.next
    | with_reducible apply Law.cond
    | with_reducible apply Law.foldl
    | with_reducible apply Law.foldl_fst
    | with_reducible apply Law.foldl_snd
    | with_reducible apply Law.foldl_third
    | (intro _ _; try dsimp only)
    | (split <;> try dsimp only)
    | ((with_reducible apply Law.put (T := 0x20)); (fail_if_success (case e => with_reducible rfl)); (case e => simp only [erase, Nat.testBit, Nat.reduceShiftRight, Nat.reduceAnd, Nat.reduceBNe, bne_self_eq_false, cond_true, cond_false]); (case hT => rfl); (case m => rfl))
    | ((with_reducible apply Law.of_snd); (assumption))

theorem law_pagesRewritten (s : State) (first : Nat) (n : Nat) : Law 0x8308 s (pagesRewritten s first n) := by
  unfold pagesRewritten
  try dsimp only
  repeat' first
    | with_reducible apply Law.refl
    | ((with_reducible apply Law.step); (case k => with_reducible first | apply law_dropCond | apply law_setBit); (case m => rfl))
    | with_reducible apply Law.ite
    | with_reducible apply LawO.ite
    | with_reducible apply Law.ite_snd
    | with_reducible apply Law.ite_fst
    | with_reducible apply LawO.next
    | with_reducible apply Law.cond
    | with_reducible apply Law.foldl
    | with_reducible apply Law.foldl_fst
    | with_reducible apply Law.foldl_snd
    | with_reducible apply Law.foldl_third
    | (intro _ _; try dsimp only)
    | (split <;> try dsimp only)
    | ((with_reducible apply Law.put' (T := 0x100)); (fail_if_success (case e => with_reducible rfl)); (case e => simp only [erase, Nat.testBit, Nat.reduceShiftRight, Nat.reduceAnd, Nat.reduceBNe, bne_self_eq_false, cond_true, cond_false]); (case hm => rfl); (case he => rfl); (case hs => rfl); (case hp => rfl); (case ha => rfl); (case hc => rfl); (case m => rfl))
    | ((with_reducible apply Law.of_snd); (assumption))

theorem law_markPage (s : State) (page : Nat) : Law 0x100 s (markPage s page) := by
  unfold markPage
  try dsimp only
  repeat' first
    | with_reducible apply Law.refl
    | with_reducible apply Law.ite
    | with_reducible apply LawO.ite
    | with_reducible apply Law.ite_snd
    | with_reducible apply Law.ite_fst
    | with_reducible apply LawO.next
    | with_reducible apply Law.cond
    | with_reducible apply Law.foldl
    | with_reducible apply Law.foldl_fst
    | with_reducible apply Law.foldl_snd
    | with_reducible apply Law.foldl_third
    | (intro _ _; try dsimp only)
    | (split <;> try dsimp only)
    | ((with_reducible apply Law.put' (T := 0x100)); (fail_if_success (case e => with_reducible rfl)); (case e => simp only [erase, Nat.testBit, Nat.reduceShiftRight, Nat.reduceAnd, Nat.reduceBNe, bne_self_eq_false, cond_true, cond_false]); (case hm => rfl); (case he => rfl); (case hs => rfl); (case hp => rfl); (case ha => rfl); (case hc => rfl); (case m => rfl))
    | ((with_reducible apply Law.of_snd); (assumption))

theorem law_updRep (s : State) (l : Nat) (f : RepSt → RepSt) : Law 0x800000000 s (updRep s l f) := by
  unfold updRep
  try dsimp only
  repeat' first
    | with_reducible apply Law.refl
    | with_reducible apply Law.ite
    | with_reducible apply LawO.ite
    | with_reducible apply Law.ite_snd
    | with_reducible apply Law.ite_fst
    | with_reducible apply LawO.next
    | with_reducible apply Law.cond
    | with_reducible apply Law.foldl
    | with_reducible apply Law.foldl_fst
    | with_reducible apply Law.foldl_snd
    | with_reducible apply Law.foldl_third
    | (intro _ _; try dsimp only)
    | (split <;> try dsimp only)
    | ((with_reducible apply Law.put (T := 0x800000000)); (fail_if_success (case e => with_reducible rfl)); (case e => simp only [erase, Nat.testBit, Nat.reduceShiftRight, Nat.reduceAnd, Nat.reduceBNe, bne_self_eq_false, cond_true, cond_false]); (case hT => rfl); (case m => rfl))
    | ((with_reducible apply Law.of_snd); (assumption))

/-- Page writes keep the memory's canonical form. -/
theorem pageWrites_wf (n : Nat) (m : List Host.Cell) (a : Nat) (d : Bytes) (h : Memory.wf m = true) : Memory.wf (pageWrites n m a d) = true := by
  induction n generalizing m a d with
  | zero => exact h
  | succ n ih => exact ih _ _ _ (memWrites_wf m a _ h)

theorem law_putInPlace (s : State) (x1 : Placed) : Law 0x800000130 s (putInPlace s x1) := by
  unfold putInPlace
  split
  · refine Law.putE (T := 0x10) (Law.refl _ _) rfl ?_ rfl
    exact ⟨fun h => pageWrites_wf _ _ _ _ h, id, id, id, Nat.le_refl _, Nat.le_refl _⟩
  · exact Law.put (T := 0x20) (Law.refl _ _) rfl rfl rfl
  · exact Law.step (Law.step (Law.refl _ _) (law_markPage _ _) rfl) (law_updRep _ _ _) rfl
  · exact Law.step (Law.refl _ _) (law_markPage _ _) rfl

theorem law_place (s : State) (p : Placed) : Law 0x800008338 s (place s p) := by
  unfold place
  try dsimp only
  repeat' first
    | with_reducible apply Law.refl
    | ((with_reducible apply Law.step); (case k => with_reducible first | apply law_pagesRewritten | apply law_countWrites | apply law_putInPlace); (case m => rfl))
    | with_reducible apply Law.ite
    | with_reducible apply LawO.ite
    | with_reducible apply Law.ite_snd
    | with_reducible apply Law.ite_fst
    | with_reducible apply LawO.next
    | with_reducible apply Law.cond
    | with_reducible apply Law.foldl
    | with_reducible apply Law.foldl_fst
    | with_reducible apply Law.foldl_snd
    | with_reducible apply Law.foldl_third
    | (intro _ _; try dsimp only)
    | (split <;> try dsimp only)
    | ((with_reducible apply Law.of_snd); (assumption))

theorem law_readBack (s : State) : Law 0x100 s (readBack s).2 := by
  unfold readBack
  try dsimp only
  repeat' first
    | with_reducible apply Law.refl
    | with_reducible apply Law.ite
    | with_reducible apply LawO.ite
    | with_reducible apply Law.ite_snd
    | with_reducible apply Law.ite_fst
    | with_reducible apply LawO.next
    | with_reducible apply Law.cond
    | with_reducible apply Law.foldl
    | with_reducible apply Law.foldl_fst
    | with_reducible apply Law.foldl_snd
    | with_reducible apply Law.foldl_third
    | (intro _ _; try dsimp only)
    | (split <;> try dsimp only)
    | ((with_reducible apply Law.put' (T := 0x100)); (fail_if_success (case e => with_reducible rfl)); (case e => simp only [erase, Nat.testBit, Nat.reduceShiftRight, Nat.reduceAnd, Nat.reduceBNe, bne_self_eq_false, cond_true, cond_false]); (case hm => rfl); (case he => rfl); (case hs => rfl); (case hp => rfl); (case ha => rfl); (case hc => rfl); (case m => rfl))
    | ((with_reducible apply Law.of_snd); (assumption))

theorem law_judgeSpares (s : State) : Law 0x8208 s (judgeSpares s) := by
  unfold judgeSpares
  try dsimp only
  repeat' first
    | with_reducible apply Law.refl
    | ((with_reducible apply Law.step); (case k => with_reducible first | apply law_setN | apply law_setBit | apply law_follow); (case m => rfl))
    | with_reducible apply Law.ite
    | with_reducible apply LawO.ite
    | with_reducible apply Law.ite_snd
    | with_reducible apply Law.ite_fst
    | with_reducible apply LawO.next
    | with_reducible apply Law.cond
    | with_reducible apply Law.foldl
    | with_reducible apply Law.foldl_fst
    | with_reducible apply Law.foldl_snd
    | with_reducible apply Law.foldl_third
    | (intro _ _; try dsimp only)
    | (split <;> try dsimp only)
    | ((with_reducible apply Law.of_snd); (assumption))

/-- A table that is one longer fits where a spare is free. -/
theorem fits_take {r : Remap} {x : Option Nat} (k : r.table.length < 8192) (h : r.fits = true) :
    ({ r with table := r.table ++ [x] } : Remap).fits = true := by
  unfold Remap.fits at *
  simp only [Bool.and_eq_true, decide_eq_true_eq, List.length_append, List.length_singleton] at *
  exact ⟨⟨k, h.1.2⟩, h.2⟩

/-- The copy written holds the table. -/
theorem fits_store {r : Remap} (h : r.fits = true) : r.store.fits = true := by
  unfold Remap.fits at h
  simp only [Bool.and_eq_true, decide_eq_true_eq] at h
  unfold Remap.store
  dsimp only
  split
  · unfold Remap.fits
    simp only [Bool.and_eq_true, decide_eq_true_eq, Option.all_some]
    exact ⟨⟨h.1.1, h.1.1⟩, h.2⟩
  · unfold Remap.fits
    simp only [Bool.and_eq_true, decide_eq_true_eq, Option.all_some]
    exact ⟨⟨h.1.1, h.1.2⟩, h.1.1⟩

theorem law_takeSpare (page n : Nat) (s : State) : Law 0x100 s (takeSpare page n s).2 := by
  induction n generalizing s with
  | zero => exact Law.refl _ _
  | succ n ih =>
    unfold takeSpare
    split
    · exact Law.refl _ _
    · rename_i hs
      split
      rename_i bad s1 e
      have k : Law 0x100 s s1 := Law.of_snd e (Law.step (Law.refl _ _) (law_readBack _) rfl)
      have hr : s1.stor.remap = s.stor.remap := by
        have := congrArg (fun p : Bool × State => p.2.stor.remap) e
        unfold readBack at this
        split at this <;> exact this.symm
      dsimp only
      have step : ∀ (x : Option Nat) (u : State), u = { s1 with stor := { s1.stor with remap := { s1.stor.remap with table := s1.stor.remap.table ++ [x] } } } →
          Law 0x100 s u := by
        intro x u e
        subst e
        refine Law.putE (T := 0x100) k rfl ?_ rfl
        refine ⟨id, id, id, fun h => fits_take ?_ h, Nat.le_refl _, Nat.le_refl _⟩
        unfold sparesFree sparesUsed at hs
        rw [hr]
        omega
      split
      · exact (step _ _ rfl).trans (ih _)
      · exact step _ _ rfl

theorem law_remapPage (s : State) (page : Nat) : Law 0x8308 s (remapPage s page).2 := by
  unfold remapPage
  split
  · exact Law.step (Law.refl _ _) (law_raiseHeld _ _) rfl
  · split
    rename_i ok s1 e
    have k : Law 0x8308 s s1 := Law.of_snd e (Law.step (Law.refl _ _) (law_takeSpare _ _ _) rfl)
    dsimp only
    have k2 : Law 0x8308 s { s1 with stor := { s1.stor with remap := s1.stor.remap.store } } := by
      refine Law.putE (T := 0x100) k rfl ?_ rfl
      exact ⟨id, id, id, fun h => fits_store h, Nat.le_refl _, Nat.le_refl _⟩
    have k3 := Law.step (Law.step (Law.step k2 (law_setBit _ 0x2E00 0x01 0 false) rfl) (law_dropCond _ 0xC040) rfl) (law_judgeSpares _) rfl
    split
    · exact Law.step k3 (law_raise _ _) rfl
    · exact k3

theorem law_programPage (s : State) (page : Nat) : Law 0x8308 s (programPage s page).2 := by
  unfold programPage
  try dsimp only
  repeat' first
    | with_reducible apply Law.refl
    | ((with_reducible apply Law.step); (case k => with_reducible first | apply law_readBack | apply law_remapPage | apply law_addN); (case m => rfl))
    | ((with_reducible apply Law.step); (case k => (with_reducible apply Law.of_snd; (assumption); with_reducible first | apply law_readBack | apply law_remapPage)); (case m => rfl))
    | with_reducible apply Law.ite
    | with_reducible apply LawO.ite
    | with_reducible apply Law.ite_snd
    | with_reducible apply Law.ite_fst
    | with_reducible apply LawO.next
    | with_reducible apply Law.cond
    | with_reducible apply Law.foldl
    | with_reducible apply Law.foldl_fst
    | with_reducible apply Law.foldl_snd
    | with_reducible apply Law.foldl_third
    | (intro _ _; try dsimp only)
    | (split <;> try dsimp only)
    | ((with_reducible apply Law.of_snd); (assumption))

theorem law_programRun (n : Nat) (s : State) (page : Nat) : Law 0x8308 s (programRun n s page).2 := by
  induction n generalizing s page with
  | zero => exact Law.refl _ _
  | succ n ih =>
    unfold programRun
    split
    · rename_i e
      exact (Law.of_snd e (Law.step (Law.refl _ _) (law_programPage _ _) rfl)).trans (ih _ _)
    · rename_i e
      exact Law.of_snd e (Law.step (Law.refl _ _) (law_programPage _ _) rfl)

theorem law_programPlaced (s : State) (p : Placed) : Law 0x800008338 s (programPlaced s p).2 := by
  unfold programPlaced
  have k : Law 0x800008338 s (programRun (placedPages p) s (placedAddr p / 128)).2 := Law.step (Law.refl _ _) (law_programRun _ _ _) rfl
  split
  · rename_i e; rw [e] at k; exact k
  · rename_i e; rw [e] at k; dsimp only at k ⊢; exact Law.step k (law_putInPlace _ _) rfl
  · rename_i e; rw [e] at k; exact k

theorem law_writePlaced (s : State) (p : Placed) : Law 0x800008338 s (writePlaced s p).2 := by
  unfold writePlaced
  have k : Law 0x800008338 s (programPlaced s p).2 := Law.step (Law.refl _ _) (law_programPlaced _ _) rfl
  split
  · rename_i e; rw [e] at k; exact Law.step k (law_place _ _) rfl
  · rename_i e; rw [e] at k; exact k

theorem law_applyTarget (s : State) (t : Target) : Law 0x800008338 s (applyTarget s t) := by
  unfold applyTarget
  try dsimp only
  repeat' first
    | with_reducible apply Law.refl
    | ((with_reducible apply Law.step); (case k => with_reducible apply law_writePlaced); (case m => rfl))
    | ((with_reducible apply Law.step); (case k => (with_reducible apply Law.of_snd; (assumption); with_reducible apply law_writePlaced)); (case m => rfl))
    | with_reducible apply Law.ite
    | with_reducible apply LawO.ite
    | with_reducible apply Law.ite_snd
    | with_reducible apply Law.ite_fst
    | with_reducible apply LawO.next
    | with_reducible apply Law.cond
    | with_reducible apply Law.foldl
    | with_reducible apply Law.foldl_fst
    | with_reducible apply Law.foldl_snd
    | with_reducible apply Law.foldl_third
    | (intro _ _; try dsimp only)
    | (split <;> try dsimp only)
    | ((with_reducible apply Law.of_snd); (assumption))

theorem law_refuseWrite (s : State) (w : Writer) (cls : Nat) (addr : Nat) : Law 0x8208 s (refuseWrite s w cls addr) := by
  unfold refuseWrite
  try dsimp only
  repeat' first
    | with_reducible apply Law.refl
    | ((with_reducible apply Law.step); (case k => with_reducible first | apply law_setBit | apply law_setN | apply law_raiseHeld); (case m => rfl))
    | with_reducible apply Law.ite
    | with_reducible apply LawO.ite
    | with_reducible apply Law.ite_snd
    | with_reducible apply Law.ite_fst
    | with_reducible apply LawO.next
    | with_reducible apply Law.cond
    | with_reducible apply Law.foldl
    | with_reducible apply Law.foldl_fst
    | with_reducible apply Law.foldl_snd
    | with_reducible apply Law.foldl_third
    | (intro _ _; try dsimp only)
    | (split <;> try dsimp only)
    | ((with_reducible apply Law.of_snd); (assumption))

theorem law_storeTarget (s : State) (w : Writer) (cls : Nat) (t : Target) : Law 0x800008338 s (storeTarget s w cls t).2 := by
  unfold storeTarget
  try dsimp only
  repeat' first
    | with_reducible apply Law.refl
    | ((with_reducible apply Law.step); (case k => with_reducible first | apply law_refuseWrite | apply law_writePlaced); (case m => rfl))
    | ((with_reducible apply Law.step); (case k => (with_reducible apply Law.of_snd; (assumption); with_reducible apply law_writePlaced)); (case m => rfl))
    | with_reducible apply Law.ite
    | with_reducible apply LawO.ite
    | with_reducible apply Law.ite_snd
    | with_reducible apply Law.ite_fst
    | with_reducible apply LawO.next
    | with_reducible apply Law.cond
    | with_reducible apply Law.foldl
    | with_reducible apply Law.foldl_fst
    | with_reducible apply Law.foldl_snd
    | with_reducible apply Law.foldl_third
    | (intro _ _; try dsimp only)
    | (split <;> try dsimp only)
    | ((with_reducible apply Law.of_snd); (assumption))

theorem law_landWrite (s : State) (p : PendWrite) : Law 0x800008338 s (landWrite s p) := by
  unfold landWrite
  try dsimp only
  repeat' first
    | with_reducible apply Law.refl
    | ((with_reducible apply Law.step); (case k => with_reducible apply law_storeTarget); (case m => rfl))
    | ((with_reducible apply Law.step); (case k => (with_reducible apply Law.of_snd; (assumption); with_reducible apply law_storeTarget)); (case m => rfl))
    | with_reducible apply Law.ite
    | with_reducible apply LawO.ite
    | with_reducible apply Law.ite_snd
    | with_reducible apply Law.ite_fst
    | with_reducible apply LawO.next
    | with_reducible apply Law.cond
    | with_reducible apply Law.foldl
    | with_reducible apply Law.foldl_fst
    | with_reducible apply Law.foldl_snd
    | with_reducible apply Law.foldl_third
    | (intro _ _; try dsimp only)
    | (split <;> try dsimp only)
    | ((with_reducible apply Law.of_snd); (assumption))

theorem law_drainTo (s : State) (cls : Nat) : Law 0x8000083b8 s (drainTo s cls) := by
  unfold drainTo
  try dsimp only
  repeat' first
    | with_reducible apply Law.refl
    | ((with_reducible apply Law.step); (case k => with_reducible apply law_landWrite); (case m => rfl))
    | with_reducible apply Law.ite
    | with_reducible apply LawO.ite
    | with_reducible apply Law.ite_snd
    | with_reducible apply Law.ite_fst
    | with_reducible apply LawO.next
    | with_reducible apply Law.cond
    | with_reducible apply Law.foldl
    | with_reducible apply Law.foldl_fst
    | with_reducible apply Law.foldl_snd
    | with_reducible apply Law.foldl_third
    | (intro _ _; try dsimp only)
    | (split <;> try dsimp only)
    | ((with_reducible apply Law.put (T := 0x80)); (fail_if_success (case e => with_reducible rfl)); (case e => simp only [erase, Nat.testBit, Nat.reduceShiftRight, Nat.reduceAnd, Nat.reduceBNe, bne_self_eq_false, cond_true, cond_false]); (case hT => rfl); (case m => rfl))
    | ((with_reducible apply Law.of_snd); (assumption))

theorem law_writeNow (s : State) (t : Target) : Law 0x8000083b8 s (writeNow s t) := by
  unfold writeNow
  try dsimp only
  repeat' first
    | with_reducible apply Law.refl
    | ((with_reducible apply Law.step); (case k => with_reducible first | apply law_applyTarget | apply law_drainTo); (case m => rfl))
    | with_reducible apply Law.ite
    | with_reducible apply LawO.ite
    | with_reducible apply Law.ite_snd
    | with_reducible apply Law.ite_fst
    | with_reducible apply LawO.next
    | with_reducible apply Law.cond
    | with_reducible apply Law.foldl
    | with_reducible apply Law.foldl_fst
    | with_reducible apply Law.foldl_snd
    | with_reducible apply Law.foldl_third
    | (intro _ _; try dsimp only)
    | (split <;> try dsimp only)
    | ((with_reducible apply Law.of_snd); (assumption))

theorem law_appendAudit (s : State) (who : Requester) (kind : Nat) (index : Nat) (sub : Nat) (flags : Nat) (value : Bytes) : Law 0x8002083b8 s (appendAudit s who kind index sub flags value) := by
  unfold appendAudit
  try dsimp only
  repeat' first
    | with_reducible apply Law.refl
    | ((with_reducible apply Law.step); (case k => with_reducible first | apply law_auditAdvance | apply law_writeNow); (case m => rfl))
    | with_reducible apply Law.ite
    | with_reducible apply LawO.ite
    | with_reducible apply Law.ite_snd
    | with_reducible apply Law.ite_fst
    | with_reducible apply LawO.next
    | with_reducible apply Law.cond
    | with_reducible apply Law.foldl
    | with_reducible apply Law.foldl_fst
    | with_reducible apply Law.foldl_snd
    | with_reducible apply Law.foldl_third
    | (intro _ _; try dsimp only)
    | (split <;> try dsimp only)
    | ((with_reducible apply Law.of_snd); (assumption))

theorem law_saveN (s : State) (index : Nat) (sub : Nat) (n : Nat) : Law 0x8000083b8 s (saveN s index sub n) := by
  unfold saveN
  try dsimp only
  repeat' first
    | with_reducible apply Law.refl
    | ((with_reducible apply Law.step); (case k => with_reducible first | apply law_writeNow | apply law_setBytes); (case m => rfl))
    | with_reducible apply Law.ite
    | with_reducible apply LawO.ite
    | with_reducible apply Law.ite_snd
    | with_reducible apply Law.ite_fst
    | with_reducible apply LawO.next
    | with_reducible apply Law.cond
    | with_reducible apply Law.foldl
    | with_reducible apply Law.foldl_fst
    | with_reducible apply Law.foldl_snd
    | with_reducible apply Law.foldl_third
    | (intro _ _; try dsimp only)
    | (split <;> try dsimp only)
    | ((with_reducible apply Law.of_snd); (assumption))

theorem law_countReads (s : State) (region : Nat) (words : Nat) (errs : Nat) : Law 0x208000083b8 s (countReads s region words errs) := by
  unfold countReads
  try dsimp only
  repeat' first
    | with_reducible apply Law.refl
    | ((with_reducible apply Law.step); (case k => with_reducible first | apply law_setN | apply law_saveN | apply law_addN); (case m => rfl))
    | with_reducible apply Law.ite
    | with_reducible apply LawO.ite
    | with_reducible apply Law.ite_snd
    | with_reducible apply Law.ite_fst
    | with_reducible apply LawO.next
    | with_reducible apply Law.cond
    | with_reducible apply Law.foldl
    | with_reducible apply Law.foldl_fst
    | with_reducible apply Law.foldl_snd
    | with_reducible apply Law.foldl_third
    | (intro _ _; try dsimp only)
    | (split <;> try dsimp only)
    | ((with_reducible apply Law.put (T := 0x20000000000)); (fail_if_success (case e => with_reducible rfl)); (case e => simp only [erase, Nat.testBit, Nat.reduceShiftRight, Nat.reduceAnd, Nat.reduceBNe, bne_self_eq_false, cond_true, cond_false]); (case hT => rfl); (case m => rfl))
    | ((with_reducible apply Law.of_snd); (assumption))

theorem law_deviceWrite (s : State) (index : Nat) (sub : Nat) (v : Bytes) : Law 0x8002083b8 s (deviceWrite s index sub v) := by
  unfold deviceWrite
  try dsimp only
  repeat' first
    | with_reducible apply Law.refl
    | ((with_reducible apply Law.step); (case k => with_reducible first | apply law_appendAudit | apply law_writeNow | apply law_setBytes); (case m => rfl))
    | with_reducible apply Law.ite
    | with_reducible apply LawO.ite
    | with_reducible apply Law.ite_snd
    | with_reducible apply Law.ite_fst
    | with_reducible apply LawO.next
    | with_reducible apply Law.cond
    | with_reducible apply Law.foldl
    | with_reducible apply Law.foldl_fst
    | with_reducible apply Law.foldl_snd
    | with_reducible apply Law.foldl_third
    | (intro _ _; try dsimp only)
    | (split <;> try dsimp only)
    | ((with_reducible apply Law.of_snd); (assumption))

theorem law_journalRun (s : State) (ps : List Placed) (pages : List (Nat × Bytes)) : Law 0x800008378 s (journalRun s ps pages) := by
  unfold journalRun
  try dsimp only
  repeat' first
    | with_reducible apply Law.refl
    | ((with_reducible apply Law.step); (case k => with_reducible first | apply law_programRun | apply law_pagesRewritten | apply law_countWrites | apply law_writePlaced | apply law_applyTarget); (case m => rfl))
    | ((with_reducible apply Law.step); (case k => (with_reducible apply Law.of_snd; (assumption); with_reducible first | apply law_programRun | apply law_writePlaced)); (case m => rfl))
    | with_reducible apply Law.ite
    | with_reducible apply LawO.ite
    | with_reducible apply Law.ite_snd
    | with_reducible apply Law.ite_fst
    | with_reducible apply LawO.next
    | with_reducible apply Law.cond
    | with_reducible apply Law.foldl
    | with_reducible apply Law.foldl_fst
    | with_reducible apply Law.foldl_snd
    | with_reducible apply Law.foldl_third
    | (intro _ _; try dsimp only)
    | (split <;> try dsimp only)
    | ((with_reducible apply Law.put' (T := 0x140)); (fail_if_success (case e => with_reducible rfl)); (case e => simp only [erase, Nat.testBit, Nat.reduceShiftRight, Nat.reduceAnd, Nat.reduceBNe, bne_self_eq_false, cond_true, cond_false]); (case hm => rfl); (case he => rfl); (case hs => rfl); (case hp => rfl); (case ha => rfl); (case hc => rfl); (case m => rfl))
    | ((with_reducible apply Law.of_snd); (assumption))

theorem law_journalOp (s : State) (is : List Image) : Law 0x8000083f8 s (journalOp s is) := by
  unfold journalOp
  try dsimp only
  repeat' first
    | with_reducible apply Law.refl
    | ((with_reducible apply Law.step); (case k => with_reducible first | apply law_drainTo | apply law_journalRun | apply law_refuseWrite); (case m => rfl))
    | with_reducible apply Law.ite
    | with_reducible apply LawO.ite
    | with_reducible apply Law.ite_snd
    | with_reducible apply Law.ite_fst
    | with_reducible apply LawO.next
    | with_reducible apply Law.cond
    | with_reducible apply Law.foldl
    | with_reducible apply Law.foldl_fst
    | with_reducible apply Law.foldl_snd
    | with_reducible apply Law.foldl_third
    | (intro _ _; try dsimp only)
    | (split <;> try dsimp only)
    | ((with_reducible apply Law.of_snd); (assumption))

theorem law_journalAudit (s : State) (is : List Image) (kind : Nat) (index : Nat) (sub : Nat) (value : Bytes) : Law 0x8002083f8 s (journalAudit s is kind index sub value) := by
  unfold journalAudit
  try dsimp only
  repeat' first
    | with_reducible apply Law.refl
    | ((with_reducible apply Law.step); (case k => with_reducible first | apply law_auditAdvance | apply law_journalOp); (case m => rfl))
    | with_reducible apply Law.ite
    | with_reducible apply LawO.ite
    | with_reducible apply Law.ite_snd
    | with_reducible apply Law.ite_fst
    | with_reducible apply LawO.next
    | with_reducible apply Law.cond
    | with_reducible apply Law.foldl
    | with_reducible apply Law.foldl_fst
    | with_reducible apply Law.foldl_snd
    | with_reducible apply Law.foldl_third
    | (intro _ _; try dsimp only)
    | (split <;> try dsimp only)
    | ((with_reducible apply Law.of_snd); (assumption))

theorem law_loadShows (s : State) (n : Nat) : Law 0x100 s (loadShows s n) := by
  unfold loadShows
  try dsimp only
  repeat' first
    | with_reducible apply Law.refl
    | with_reducible apply Law.ite
    | with_reducible apply LawO.ite
    | with_reducible apply Law.ite_snd
    | with_reducible apply Law.ite_fst
    | with_reducible apply LawO.next
    | with_reducible apply Law.cond
    | with_reducible apply Law.foldl
    | with_reducible apply Law.foldl_fst
    | with_reducible apply Law.foldl_snd
    | with_reducible apply Law.foldl_third
    | (intro _ _; try dsimp only)
    | (split <;> try dsimp only)
    | ((with_reducible apply Law.put' (T := 0x100)); (fail_if_success (case e => with_reducible rfl)); (case e => simp only [erase, Nat.testBit, Nat.reduceShiftRight, Nat.reduceAnd, Nat.reduceBNe, bne_self_eq_false, cond_true, cond_false]); (case hm => rfl); (case he => rfl); (case hs => rfl); (case hp => rfl); (case ha => rfl); (case hc => rfl); (case m => rfl))
    | ((with_reducible apply Law.of_snd); (assumption))

theorem law_loadTape (s : State) (l : List Bool) : Law 0x100 s (loadTape s l) := by
  unfold loadTape
  try dsimp only
  repeat' first
    | with_reducible apply Law.refl
    | with_reducible apply Law.ite
    | with_reducible apply LawO.ite
    | with_reducible apply Law.ite_snd
    | with_reducible apply Law.ite_fst
    | with_reducible apply LawO.next
    | with_reducible apply Law.cond
    | with_reducible apply Law.foldl
    | with_reducible apply Law.foldl_fst
    | with_reducible apply Law.foldl_snd
    | with_reducible apply Law.foldl_third
    | (intro _ _; try dsimp only)
    | (split <;> try dsimp only)
    | ((with_reducible apply Law.put' (T := 0x100)); (fail_if_success (case e => with_reducible rfl)); (case e => simp only [erase, Nat.testBit, Nat.reduceShiftRight, Nat.reduceAnd, Nat.reduceBNe, bne_self_eq_false, cond_true, cond_false]); (case hm => rfl); (case he => rfl); (case hs => rfl); (case hp => rfl); (case ha => rfl); (case hc => rfl); (case m => rfl))
    | ((with_reducible apply Law.of_snd); (assumption))

theorem law_loseCells (s : State) (page : Nat) : Law 0x800000000 s (loseCells s page) := by
  unfold loseCells
  try dsimp only
  repeat' first
    | with_reducible apply Law.refl
    | ((with_reducible apply Law.step); (case k => with_reducible apply law_updRep); (case m => rfl))
    | with_reducible apply Law.ite
    | with_reducible apply LawO.ite
    | with_reducible apply Law.ite_snd
    | with_reducible apply Law.ite_fst
    | with_reducible apply LawO.next
    | with_reducible apply Law.cond
    | with_reducible apply Law.foldl
    | with_reducible apply Law.foldl_fst
    | with_reducible apply Law.foldl_snd
    | with_reducible apply Law.foldl_third
    | (intro _ _; try dsimp only)
    | (split <;> try dsimp only)
    | ((with_reducible apply Law.of_snd); (assumption))

theorem law_loseCopy (s : State) (r : Rec) (k : Nat) : Law 0x8228 s (loseCopy s r k) := by
  unfold loseCopy
  try dsimp only
  repeat' first
    | with_reducible apply Law.refl
    | ((with_reducible apply Law.step); (case k => with_reducible first | apply law_raise | apply law_setBit); (case m => rfl))
    | with_reducible apply Law.ite
    | with_reducible apply LawO.ite
    | with_reducible apply Law.ite_snd
    | with_reducible apply Law.ite_fst
    | with_reducible apply LawO.next
    | with_reducible apply Law.cond
    | with_reducible apply Law.foldl
    | with_reducible apply Law.foldl_fst
    | with_reducible apply Law.foldl_snd
    | with_reducible apply Law.foldl_third
    | (intro _ _; try dsimp only)
    | (split <;> try dsimp only)
    | ((with_reducible apply Law.put (T := 0x20)); (fail_if_success (case e => with_reducible rfl)); (case e => simp only [erase, Nat.testBit, Nat.reduceShiftRight, Nat.reduceAnd, Nat.reduceBNe, bne_self_eq_false, cond_true, cond_false]); (case hT => rfl); (case m => rfl))
    | ((with_reducible apply Law.of_snd); (assumption))

theorem law_pageBad (s : State) (page : Nat) : Law 0x800008328 s (pageBad s page) := by
  unfold pageBad
  try dsimp only
  repeat' first
    | with_reducible apply Law.refl
    | ((with_reducible apply Law.step); (case k => with_reducible first | apply law_addN | apply law_raiseHeld | apply law_loseCopy | apply law_setBit | apply law_loseCells); (case m => rfl))
    | with_reducible apply Law.ite
    | with_reducible apply LawO.ite
    | with_reducible apply Law.ite_snd
    | with_reducible apply Law.ite_fst
    | with_reducible apply LawO.next
    | with_reducible apply Law.cond
    | with_reducible apply Law.foldl
    | with_reducible apply Law.foldl_fst
    | with_reducible apply Law.foldl_snd
    | with_reducible apply Law.foldl_third
    | (intro _ _; try dsimp only)
    | (split <;> try dsimp only)
    | ((with_reducible apply Law.put' (T := 0x100)); (fail_if_success (case e => with_reducible rfl)); (case e => simp only [erase, Nat.testBit, Nat.reduceShiftRight, Nat.reduceAnd, Nat.reduceBNe, bne_self_eq_false, cond_true, cond_false]); (case hm => rfl); (case he => rfl); (case hs => rfl); (case hp => rfl); (case ha => rfl); (case hc => rfl); (case m => rfl))
    | ((with_reducible apply Law.of_snd); (assumption))

theorem law_pagesMarked (s : State) (n : Nat) (bad : List Nat) : Law 0x800008328 s (pagesMarked s n bad) := by
  unfold pagesMarked
  try dsimp only
  repeat' first
    | with_reducible apply Law.refl
    | ((with_reducible apply Law.step); (case k => with_reducible first | apply law_pageBad | apply law_loadShows); (case m => rfl))
    | with_reducible apply Law.ite
    | with_reducible apply LawO.ite
    | with_reducible apply Law.ite_snd
    | with_reducible apply Law.ite_fst
    | with_reducible apply LawO.next
    | with_reducible apply Law.cond
    | with_reducible apply Law.foldl
    | with_reducible apply Law.foldl_fst
    | with_reducible apply Law.foldl_snd
    | with_reducible apply Law.foldl_third
    | (intro _ _; try dsimp only)
    | (split <;> try dsimp only)
    | ((with_reducible apply Law.of_snd); (assumption))

theorem law_placeTarget (s : State) (t : Target) : Law 0x800008338 s (placeTarget s t) := by
  unfold placeTarget
  try dsimp only
  repeat' first
    | with_reducible apply Law.refl
    | ((with_reducible apply Law.step); (case k => with_reducible apply law_place); (case m => rfl))
    | with_reducible apply Law.ite
    | with_reducible apply LawO.ite
    | with_reducible apply Law.ite_snd
    | with_reducible apply Law.ite_fst
    | with_reducible apply LawO.next
    | with_reducible apply Law.cond
    | with_reducible apply Law.foldl
    | with_reducible apply Law.foldl_fst
    | with_reducible apply Law.foldl_snd
    | with_reducible apply Law.foldl_third
    | (intro _ _; try dsimp only)
    | (split <;> try dsimp only)
    | ((with_reducible apply Law.of_snd); (assumption))

theorem law_placeAudit (s : State) (who : Requester) (kind : Nat) (index : Nat) (sub : Nat) (flags : Nat) (value : Bytes) : Law 0x800208338 s (placeAudit s who kind index sub flags value) := by
  unfold placeAudit
  try dsimp only
  repeat' first
    | with_reducible apply Law.refl
    | ((with_reducible apply Law.step); (case k => with_reducible first | apply law_auditAdvance | apply law_placeTarget); (case m => rfl))
    | with_reducible apply Law.ite
    | with_reducible apply LawO.ite
    | with_reducible apply Law.ite_snd
    | with_reducible apply Law.ite_fst
    | with_reducible apply LawO.next
    | with_reducible apply Law.cond
    | with_reducible apply Law.foldl
    | with_reducible apply Law.foldl_fst
    | with_reducible apply Law.foldl_snd
    | with_reducible apply Law.foldl_third
    | (intro _ _; try dsimp only)
    | (split <;> try dsimp only)
    | ((with_reducible apply Law.of_snd); (assumption))

theorem law_queueWrite (s : State) (w : Writer) (cls : Nat) (t : Target) : Law 0x80 s (queueWrite s w cls t) := by
  unfold queueWrite
  try dsimp only
  repeat' first
    | with_reducible apply Law.refl
    | with_reducible apply Law.ite
    | with_reducible apply LawO.ite
    | with_reducible apply Law.ite_snd
    | with_reducible apply Law.ite_fst
    | with_reducible apply LawO.next
    | with_reducible apply Law.cond
    | with_reducible apply Law.foldl
    | with_reducible apply Law.foldl_fst
    | with_reducible apply Law.foldl_snd
    | with_reducible apply Law.foldl_third
    | (intro _ _; try dsimp only)
    | (split <;> try dsimp only)
    | ((with_reducible apply Law.put (T := 0x80)); (fail_if_success (case e => with_reducible rfl)); (case e => simp only [erase, Nat.testBit, Nat.reduceShiftRight, Nat.reduceAnd, Nat.reduceBNe, bne_self_eq_false, cond_true, cond_false]); (case hT => rfl); (case m => rfl))
    | ((with_reducible apply Law.of_snd); (assumption))

theorem law_putP (s : State) (index : Nat) (sub : Nat) (v : Bytes) : Law 0x88 s (putP s index sub v) := by
  unfold putP
  try dsimp only
  repeat' first
    | with_reducible apply Law.refl
    | ((with_reducible apply Law.step); (case k => with_reducible first | apply law_queueWrite | apply law_setBytes); (case m => rfl))
    | with_reducible apply Law.ite
    | with_reducible apply LawO.ite
    | with_reducible apply Law.ite_snd
    | with_reducible apply Law.ite_fst
    | with_reducible apply LawO.next
    | with_reducible apply Law.cond
    | with_reducible apply Law.foldl
    | with_reducible apply Law.foldl_fst
    | with_reducible apply Law.foldl_snd
    | with_reducible apply Law.foldl_third
    | (intro _ _; try dsimp only)
    | (split <;> try dsimp only)
    | ((with_reducible apply Law.of_snd); (assumption))

theorem law_putN (s : State) (index : Nat) (sub : Nat) (n : Nat) : Law 0x88 s (putN s index sub n) := by
  unfold putN
  try dsimp only
  repeat' first
    | with_reducible apply Law.refl
    | ((with_reducible apply Law.step); (case k => with_reducible apply law_putP); (case m => rfl))
    | with_reducible apply Law.ite
    | with_reducible apply LawO.ite
    | with_reducible apply Law.ite_snd
    | with_reducible apply Law.ite_fst
    | with_reducible apply LawO.next
    | with_reducible apply Law.cond
    | with_reducible apply Law.foldl
    | with_reducible apply Law.foldl_fst
    | with_reducible apply Law.foldl_snd
    | with_reducible apply Law.foldl_third
    | (intro _ _; try dsimp only)
    | (split <;> try dsimp only)
    | ((with_reducible apply Law.of_snd); (assumption))

theorem law_putF (s : State) (index : Nat) (sub : Nat) (x : F32) : Law 0x88 s (putF s index sub x) := by
  unfold putF
  try dsimp only
  repeat' first
    | with_reducible apply Law.refl
    | ((with_reducible apply Law.step); (case k => with_reducible apply law_putN); (case m => rfl))
    | with_reducible apply Law.ite
    | with_reducible apply LawO.ite
    | with_reducible apply Law.ite_snd
    | with_reducible apply Law.ite_fst
    | with_reducible apply LawO.next
    | with_reducible apply Law.cond
    | with_reducible apply Law.foldl
    | with_reducible apply Law.foldl_fst
    | with_reducible apply Law.foldl_snd
    | with_reducible apply Law.foldl_third
    | (intro _ _; try dsimp only)
    | (split <;> try dsimp only)
    | ((with_reducible apply Law.of_snd); (assumption))

theorem law_setQueue (s : State) (q : List SealReq) : Law 0x400008 s (setQueue s q) := by
  unfold setQueue
  try dsimp only
  repeat' first
    | with_reducible apply Law.refl
    | ((with_reducible apply Law.step); (case k => with_reducible apply law_setN); (case m => rfl))
    | with_reducible apply Law.ite
    | with_reducible apply LawO.ite
    | with_reducible apply Law.ite_snd
    | with_reducible apply Law.ite_fst
    | with_reducible apply LawO.next
    | with_reducible apply Law.cond
    | with_reducible apply Law.foldl
    | with_reducible apply Law.foldl_fst
    | with_reducible apply Law.foldl_snd
    | with_reducible apply Law.foldl_third
    | (intro _ _; try dsimp only)
    | (split <;> try dsimp only)
    | ((with_reducible apply Law.put (T := 0x400000)); (fail_if_success (case e => with_reducible rfl)); (case e => simp only [erase, Nat.testBit, Nat.reduceShiftRight, Nat.reduceAnd, Nat.reduceBNe, bne_self_eq_false, cond_true, cond_false]); (case hT => rfl); (case m => rfl))
    | ((with_reducible apply Law.of_snd); (assumption))

theorem law_queueBilling (s : State) (time : Nat) (bound : Nat) : Law 0x1408208 s (queueBilling s time bound) := by
  unfold queueBilling
  try dsimp only
  repeat' first
    | with_reducible apply Law.refl
    | ((with_reducible apply Law.step); (case k => with_reducible first | apply law_raiseHeld | apply law_setQueue); (case m => rfl))
    | with_reducible apply Law.ite
    | with_reducible apply LawO.ite
    | with_reducible apply Law.ite_snd
    | with_reducible apply Law.ite_fst
    | with_reducible apply LawO.next
    | with_reducible apply Law.cond
    | with_reducible apply Law.foldl
    | with_reducible apply Law.foldl_fst
    | with_reducible apply Law.foldl_snd
    | with_reducible apply Law.foldl_third
    | (intro _ _; try dsimp only)
    | (split <;> try dsimp only)
    | ((with_reducible apply Law.put' (T := 0x1000000)); (fail_if_success (case e => with_reducible rfl)); (case e => simp only [erase, Nat.testBit, Nat.reduceShiftRight, Nat.reduceAnd, Nat.reduceBNe, bne_self_eq_false, cond_true, cond_false]); (case hm => rfl); (case he => rfl); (case hs => rfl); (case hp => rfl); (case ha => rfl); (case hc => rfl); (case m => rfl))
    | ((with_reducible apply Law.of_snd); (assumption))

theorem law_readPage (s : State) (page : Nat) (ecc : Nat) : Law 0x208000083b8 s (readPage s page ecc) := by
  unfold readPage
  try dsimp only
  repeat' first
    | with_reducible apply Law.refl
    | ((with_reducible apply Law.step); (case k => with_reducible first | apply law_countReads | apply law_pageBad); (case m => rfl))
    | with_reducible apply Law.ite
    | with_reducible apply LawO.ite
    | with_reducible apply Law.ite_snd
    | with_reducible apply Law.ite_fst
    | with_reducible apply LawO.next
    | with_reducible apply Law.cond
    | with_reducible apply Law.foldl
    | with_reducible apply Law.foldl_fst
    | with_reducible apply Law.foldl_snd
    | with_reducible apply Law.foldl_third
    | (intro _ _; try dsimp only)
    | (split <;> try dsimp only)
    | ((with_reducible apply Law.of_snd); (assumption))

theorem law_readRun (s : State) (first : Nat) (n : Nat) : Law 0x208000083b8 s (readRun s first n).2 := by
  unfold readRun
  try dsimp only
  repeat' first
    | with_reducible apply Law.refl
    | ((with_reducible apply Law.step); (case k => with_reducible first | apply law_pagesMarked | apply law_countReads); (case m => rfl))
    | with_reducible apply Law.ite
    | with_reducible apply LawO.ite
    | with_reducible apply Law.ite_snd
    | with_reducible apply Law.ite_fst
    | with_reducible apply LawO.next
    | with_reducible apply Law.cond
    | with_reducible apply Law.foldl
    | with_reducible apply Law.foldl_fst
    | with_reducible apply Law.foldl_snd
    | with_reducible apply Law.foldl_third
    | (intro _ _; try dsimp only)
    | (split <;> try dsimp only)
    | ((with_reducible apply Law.of_snd); (assumption))

theorem law_readRuns (l : List (Nat × Nat)) (s : State) : Law 0x208000083b8 s (readRuns l s).2 := by
  induction l generalizing s with
  | nil => exact Law.refl _ _
  | cons r t ih =>
    unfold readRuns
    dsimp only
    exact (Law.step (Law.refl _ _) (law_readRun _ _ _) rfl).trans (ih _)

theorem law_requestEvent (s : State) (reason : Nat) : Law 0x8004083b8 s (requestEvent s reason) := by
  unfold requestEvent
  try dsimp only
  repeat' first
    | with_reducible apply Law.refl
    | ((with_reducible apply Law.step); (case k => with_reducible first | apply law_writeNow | apply law_setQueue); (case m => rfl))
    | with_reducible apply Law.ite
    | with_reducible apply LawO.ite
    | with_reducible apply Law.ite_snd
    | with_reducible apply Law.ite_fst
    | with_reducible apply LawO.next
    | with_reducible apply Law.cond
    | with_reducible apply Law.foldl
    | with_reducible apply Law.foldl_fst
    | with_reducible apply Law.foldl_snd
    | with_reducible apply Law.foldl_third
    | (intro _ _; try dsimp only)
    | (split <;> try dsimp only)
    | ((with_reducible apply Law.of_snd); (assumption))

theorem law_storeEntry (s : State) (index : Nat) (sub : Nat) (v : Bytes) : Law 0x8000083b8 s (storeEntry s index sub v).2 := by
  unfold storeEntry
  try dsimp only
  repeat' first
    | with_reducible apply Law.refl
    | ((with_reducible apply Law.step); (case k => with_reducible first | apply law_storeTarget | apply law_drainTo); (case m => rfl))
    | ((with_reducible apply Law.step); (case k => (with_reducible apply Law.of_snd; (assumption); with_reducible apply law_storeTarget)); (case m => rfl))
    | with_reducible apply Law.ite
    | with_reducible apply LawO.ite
    | with_reducible apply Law.ite_snd
    | with_reducible apply Law.ite_fst
    | with_reducible apply LawO.next
    | with_reducible apply Law.cond
    | with_reducible apply Law.foldl
    | with_reducible apply Law.foldl_fst
    | with_reducible apply Law.foldl_snd
    | with_reducible apply Law.foldl_third
    | (intro _ _; try dsimp only)
    | (split <;> try dsimp only)
    | ((with_reducible apply Law.of_snd); (assumption))

end Sys2Proof.Machine
end

