-- ==== Sys2Proof/Laws/FrameFrames.lean ====
section
/-! SUPPORT. What each function of Machine/Frames.lean may touch. -/

namespace Sys2Proof.Machine

theorem law_pushCopy (s : State) (f : Frame) : Law 0x2000 s (pushCopy s f) := by
  unfold pushCopy
  try dsimp only
  repeat' first
    | with_reducible apply Law.refl
    | with_reducible apply Law.ite
    | with_reducible apply LawO.ite
    | with_reducible apply Law.ite_snd
    | with_reducible apply Law.ite_fst
    | with_reducible apply LawO.next
    | with_reducible apply Law.cond
    | with_reducible apply Law.foldl
    | with_reducible apply Law.foldl_fst
    | with_reducible apply Law.foldl_snd
    | with_reducible apply Law.foldl_third
    | (intro _ _; try dsimp only)
    | (split <;> try dsimp only)
    | ((with_reducible apply Law.put (T := 0x2000)); (fail_if_success (case e => with_reducible rfl)); (case e => simp only [erase, Nat.testBit, Nat.reduceShiftRight, Nat.reduceAnd, Nat.reduceBNe, bne_self_eq_false, cond_true, cond_false]); (case hT => rfl); (case m => rfl))
    | ((with_reducible apply Law.of_snd); (assumption))

theorem law_updPath (s : State) (p : Nat) (f : PathSt → PathSt) : Law 0x10000 s (updPath s p f) := by
  unfold updPath
  try dsimp only
  repeat' first
    | with_reducible apply Law.refl
    | with_reducible apply Law.ite
    | with_reducible apply LawO.ite
    | with_reducible apply Law.ite_snd
    | with_reducible apply Law.ite_fst
    | with_reducible apply LawO.next
    | with_reducible apply Law.cond
    | with_reducible apply Law.foldl
    | with_reducible apply Law.foldl_fst
    | with_reducible apply Law.foldl_snd
    | with_reducible apply Law.foldl_third
    | (intro _ _; try dsimp only)
    | (split <;> try dsimp only)
    | ((with_reducible apply Law.put (T := 0x10000)); (fail_if_success (case e => with_reducible rfl)); (case e => simp only [erase, Nat.testBit, Nat.reduceShiftRight, Nat.reduceAnd, Nat.reduceBNe, bne_self_eq_false, cond_true, cond_false]); (case hT => rfl); (case m => rfl))
    | ((with_reducible apply Law.of_snd); (assumption))

theorem law_pushFrame (s : State) (i : Nat) (f : Frame) : Law 0x10000 s (pushFrame s i f) := by
  unfold pushFrame
  try dsimp only
  repeat' first
    | with_reducible apply Law.refl
    | ((with_reducible apply Law.step); (case k => with_reducible apply law_updPath); (case m => rfl))
    | with_reducible apply Law.ite
    | with_reducible apply LawO.ite
    | with_reducible apply Law.ite_snd
    | with_reducible apply Law.ite_fst
    | with_reducible apply LawO.next
    | with_reducible apply Law.cond
    | with_reducible apply Law.foldl
    | with_reducible apply Law.foldl_fst
    | with_reducible apply Law.foldl_snd
    | with_reducible apply Law.foldl_third
    | (intro _ _; try dsimp only)
    | (split <;> try dsimp only)
    | ((with_reducible apply Law.of_snd); (assumption))

theorem law_pushForwarded (s : State) (i : Nat) (f : Frame) : Law 0x10008 s (pushForwarded s i f) := by
  unfold pushForwarded
  try dsimp only
  repeat' first
    | with_reducible apply Law.refl
    | ((with_reducible apply Law.step); (case k => with_reducible first | apply law_addN | apply law_pushFrame); (case m => rfl))
    | with_reducible apply Law.ite
    | with_reducible apply LawO.ite
    | with_reducible apply Law.ite_snd
    | with_reducible apply Law.ite_fst
    | with_reducible apply LawO.next
    | with_reducible apply Law.cond
    | with_reducible apply Law.foldl
    | with_reducible apply Law.foldl_fst
    | with_reducible apply Law.foldl_snd
    | with_reducible apply Law.foldl_third
    | (intro _ _; try dsimp only)
    | (split <;> try dsimp only)
    | ((with_reducible apply Law.of_snd); (assumption))

theorem law_pushPub (s : State) (i : Nat) (n : Nat) (f : Frame) : Law 0x18208 s (pushPub s i n f) := by
  unfold pushPub
  try dsimp only
  repeat' first
    | with_reducible apply Law.refl
    | ((with_reducible apply Law.step); (case k => with_reducible first | apply law_updPath | apply law_raise | apply law_addN | apply law_pushFrame); (case m => rfl))
    | with_reducible apply Law.ite
    | with_reducible apply LawO.ite
    | with_reducible apply Law.ite_snd
    | with_reducible apply Law.ite_fst
    | with_reducible apply LawO.next
    | with_reducible apply Law.cond
    | with_reducible apply Law.foldl
    | with_reducible apply Law.foldl_fst
    | with_reducible apply Law.foldl_snd
    | with_reducible apply Law.foldl_third
    | (intro _ _; try dsimp only)
    | (split <;> try dsimp only)
    | ((with_reducible apply Law.of_snd); (assumption))

theorem law_refillService (s : State) : Law 0x2000 s (refillService s) := by
  unfold refillService
  try dsimp only
  repeat' first
    | with_reducible apply Law.refl
    | with_reducible apply Law.ite
    | with_reducible apply LawO.ite
    | with_reducible apply Law.ite_snd
    | with_reducible apply Law.ite_fst
    | with_reducible apply LawO.next
    | with_reducible apply Law.cond
    | with_reducible apply Law.foldl
    | with_reducible apply Law.foldl_fst
    | with_reducible apply Law.foldl_snd
    | with_reducible apply Law.foldl_third
    | (intro _ _; try dsimp only)
    | (split <;> try dsimp only)
    | ((with_reducible apply Law.put (T := 0x2000)); (fail_if_success (case e => with_reducible rfl)); (case e => simp only [erase, Nat.testBit, Nat.reduceShiftRight, Nat.reduceAnd, Nat.reduceBNe, bne_self_eq_false, cond_true, cond_false]); (case hT => rfl); (case m => rfl))
    | ((with_reducible apply Law.of_snd); (assumption))

theorem law_pushService (s : State) (f : Frame) : Law 0x2000 s (pushService s f) := by
  unfold pushService
  try dsimp only
  repeat' first
    | with_reducible apply Law.refl
    | ((with_reducible apply Law.step); (case k => with_reducible apply law_refillService); (case m => rfl))
    | with_reducible apply Law.ite
    | with_reducible apply LawO.ite
    | with_reducible apply Law.ite_snd
    | with_reducible apply Law.ite_fst
    | with_reducible apply LawO.next
    | with_reducible apply Law.cond
    | with_reducible apply Law.foldl
    | with_reducible apply Law.foldl_fst
    | with_reducible apply Law.foldl_snd
    | with_reducible apply Law.foldl_third
    | (intro _ _; try dsimp only)
    | (split <;> try dsimp only)
    | ((with_reducible apply Law.put (T := 0x2000)); (fail_if_success (case e => with_reducible rfl)); (case e => simp only [erase, Nat.testBit, Nat.reduceShiftRight, Nat.reduceAnd, Nat.reduceBNe, bne_self_eq_false, cond_true, cond_false]); (case hT => rfl); (case m => rfl))
    | ((with_reducible apply Law.of_snd); (assumption))

theorem law_updPair (s : State) (i : Nat) (f : PairSt → PairSt) : Law 0x20000 s (updPair s i f) := by
  unfold updPair
  try dsimp only
  repeat' first
    | with_reducible apply Law.refl
    | with_reducible apply Law.ite
    | with_reducible apply LawO.ite
    | with_reducible apply Law.ite_snd
    | with_reducible apply Law.ite_fst
    | with_reducible apply LawO.next
    | with_reducible apply Law.cond
    | with_reducible apply Law.foldl
    | with_reducible apply Law.foldl_fst
    | with_reducible apply Law.foldl_snd
    | with_reducible apply Law.foldl_third
    | (intro _ _; try dsimp only)
    | (split <;> try dsimp only)
    | ((with_reducible apply Law.put (T := 0x20000)); (fail_if_success (case e => with_reducible rfl)); (case e => simp only [erase, Nat.testBit, Nat.reduceShiftRight, Nat.reduceAnd, Nat.reduceBNe, bne_self_eq_false, cond_true, cond_false]); (case hT => rfl); (case m => rfl))
    | ((with_reducible apply Law.of_snd); (assumption))

theorem law_withdraw (s : State) (p : Nat) (gone : Frame → Bool) : Law 0x10000 s (withdraw s p gone) := by
  unfold withdraw
  try dsimp only
  repeat' first
    | with_reducible apply Law.refl
    | ((with_reducible apply Law.step); (case k => with_reducible apply law_updPath); (case m => rfl))
    | with_reducible apply Law.ite
    | with_reducible apply LawO.ite
    | with_reducible apply Law.ite_snd
    | with_reducible apply Law.ite_fst
    | with_reducible apply LawO.next
    | with_reducible apply Law.cond
    | with_reducible apply Law.foldl
    | with_reducible apply Law.foldl_fst
    | with_reducible apply Law.foldl_snd
    | with_reducible apply Law.foldl_third
    | (intro _ _; try dsimp only)
    | (split <;> try dsimp only)
    | ((with_reducible apply Law.of_snd); (assumption))

end Sys2Proof.Machine
end

