-- ==== Sys2Proof/Laws/FrameViews.lean ====
section
/-! SUPPORT. What each function of Machine/Views.lean may touch. -/

namespace Sys2Proof.Machine

theorem law_updLoop (s : State) (l : Nat) (f : LoopSt → LoopSt) : Law 0x400000000 s (updLoop s l f) := by
  unfold updLoop
  try dsimp only
  repeat' first
    | with_reducible apply Law.refl
    | with_reducible apply Law.ite
    | with_reducible apply LawO.ite
    | with_reducible apply Law.ite_snd
    | with_reducible apply Law.ite_fst
    | with_reducible apply LawO.next
    | with_reducible apply Law.cond
    | with_reducible apply Law.foldl
    | with_reducible apply Law.foldl_fst
    | with_reducible apply Law.foldl_snd
    | with_reducible apply Law.foldl_third
    | (intro _ _; try dsimp only)
    | (split <;> try dsimp only)
    | ((with_reducible apply Law.put (T := 0x400000000)); (fail_if_success (case e => with_reducible rfl)); (case e => simp only [erase, Nat.testBit, Nat.reduceShiftRight, Nat.reduceAnd, Nat.reduceBNe, bne_self_eq_false, cond_true, cond_false]); (case hT => rfl); (case m => rfl))
    | ((with_reducible apply Law.of_snd); (assumption))

theorem law_updTrace (s : State) (t : Nat) (f : TraceSt → TraceSt) : Law 0x2000000000 s (updTrace s t f) := by
  unfold updTrace
  try dsimp only
  repeat' first
    | with_reducible apply Law.refl
    | with_reducible apply Law.ite
    | with_reducible apply LawO.ite
    | with_reducible apply Law.ite_snd
    | with_reducible apply Law.ite_fst
    | with_reducible apply LawO.next
    | with_reducible apply Law.cond
    | with_reducible apply Law.foldl
    | with_reducible apply Law.foldl_fst
    | with_reducible apply Law.foldl_snd
    | with_reducible apply Law.foldl_third
    | (intro _ _; try dsimp only)
    | (split <;> try dsimp only)
    | ((with_reducible apply Law.put (T := 0x2000000000)); (fail_if_success (case e => with_reducible rfl)); (case e => simp only [erase, Nat.testBit, Nat.reduceShiftRight, Nat.reduceAnd, Nat.reduceBNe, bne_self_eq_false, cond_true, cond_false]); (case hT => rfl); (case m => rfl))
    | ((with_reducible apply Law.of_snd); (assumption))

end Sys2Proof.Machine
end

