-- ==== Sys2Proof/Laws/FramePubs.lean ====
section
/-! SUPPORT. What each function of Machine/Pubs.lean may touch. -/

namespace Sys2Proof.Machine

theorem law_updPub (s : State) (n : Nat) (f : PubMap → PubMap) : Law 0x4000 s (updPub s n f) := by
  unfold updPub
  try dsimp only
  repeat' first
    | with_reducible apply Law.refl
    | with_reducible apply Law.ite
    | with_reducible apply LawO.ite
    | with_reducible apply Law.ite_snd
    | with_reducible apply Law.ite_fst
    | with_reducible apply LawO.next
    | with_reducible apply Law.cond
    | with_reducible apply Law.foldl
    | with_reducible apply Law.foldl_fst
    | with_reducible apply Law.foldl_snd
    | with_reducible apply Law.foldl_third
    | (intro _ _; try dsimp only)
    | (split <;> try dsimp only)
    | ((with_reducible apply Law.put (T := 0x4000)); (fail_if_success (case e => with_reducible rfl)); (case e => simp only [erase, Nat.testBit, Nat.reduceShiftRight, Nat.reduceAnd, Nat.reduceBNe, bne_self_eq_false, cond_true, cond_false]); (case hT => rfl); (case m => rfl))
    | ((with_reducible apply Law.of_snd); (assumption))

theorem law_pubSend (s : State) (n : Nat) : Law 0x1e208 s (pubSend s n) := by
  unfold pubSend
  try dsimp only
  repeat' first
    | with_reducible apply Law.refl
    | ((with_reducible apply Law.step); (case k => with_reducible first | apply law_pushPub | apply law_pushCopy | apply law_updPub); (case m => rfl))
    | with_reducible apply Law.ite
    | with_reducible apply LawO.ite
    | with_reducible apply Law.ite_snd
    | with_reducible apply Law.ite_fst
    | with_reducible apply LawO.next
    | with_reducible apply Law.cond
    | with_reducible apply Law.foldl
    | with_reducible apply Law.foldl_fst
    | with_reducible apply Law.foldl_snd
    | with_reducible apply Law.foldl_third
    | (intro _ _; try dsimp only)
    | (split <;> try dsimp only)
    | ((with_reducible apply Law.of_snd); (assumption))

theorem law_pubFire (s : State) (n : Nat) : Law 0x1e208 s (pubFire s n) := by
  unfold pubFire
  try dsimp only
  repeat' first
    | with_reducible apply Law.refl
    | ((with_reducible apply Law.step); (case k => with_reducible first | apply law_addN | apply law_updPub | apply law_pubSend); (case m => rfl))
    | with_reducible apply Law.ite
    | with_reducible apply LawO.ite
    | with_reducible apply Law.ite_snd
    | with_reducible apply Law.ite_fst
    | with_reducible apply LawO.next
    | with_reducible apply Law.cond
    | with_reducible apply Law.foldl
    | with_reducible apply Law.foldl_fst
    | with_reducible apply Law.foldl_snd
    | with_reducible apply Law.foldl_third
    | (intro _ _; try dsimp only)
    | (split <;> try dsimp only)
    | ((with_reducible apply Law.of_snd); (assumption))

theorem law_flushEvents (s : State) : Law 0x1e208 s (flushEvents s) := by
  unfold flushEvents
  try dsimp only
  repeat' first
    | with_reducible apply Law.refl
    | ((with_reducible apply Law.step); (case k => with_reducible apply law_pubFire); (case m => rfl))
    | with_reducible apply Law.ite
    | with_reducible apply LawO.ite
    | with_reducible apply Law.ite_snd
    | with_reducible apply Law.ite_fst
    | with_reducible apply LawO.next
    | with_reducible apply Law.cond
    | with_reducible apply Law.foldl
    | with_reducible apply Law.foldl_fst
    | with_reducible apply Law.foldl_snd
    | with_reducible apply Law.foldl_third
    | (intro _ _; try dsimp only)
    | (split <;> try dsimp only)
    | ((with_reducible apply Law.put (T := 0x8000)); (fail_if_success (case e => with_reducible rfl)); (case e => simp only [erase, Nat.testBit, Nat.reduceShiftRight, Nat.reduceAnd, Nat.reduceBNe, bne_self_eq_false, cond_true, cond_false]); (case hT => rfl); (case m => rfl))
    | ((with_reducible apply Law.of_snd); (assumption))

theorem law_done (s : State) : LawO 0x1e208 s (done s) := by
  unfold done
  try dsimp only
  repeat' first
    | with_reducible apply Law.refl
    | ((with_reducible apply Law.step); (case k => with_reducible apply law_flushEvents); (case m => rfl))
    | with_reducible apply Law.ite
    | with_reducible apply LawO.ite
    | with_reducible apply Law.ite_snd
    | with_reducible apply Law.ite_fst
    | with_reducible apply LawO.next
    | with_reducible apply Law.cond
    | with_reducible apply Law.foldl
    | with_reducible apply Law.foldl_fst
    | with_reducible apply Law.foldl_snd
    | with_reducible apply Law.foldl_third
    | (intro _ _; try dsimp only)
    | (split <;> try dsimp only)
    | ((with_reducible apply Law.of_snd); (assumption))

theorem law_done_of {T : Nat} {s t : State} (h : Law T s t) (m : inside 0x1e208 T = true) : LawO T s (done t) :=
  LawO.next (Law.step h (law_flushEvents t) m)

theorem law_doneIf_of {T : Nat} {c : Bool} {b s t : State} (h0 : Law T b s) (h : Law T b t) (m : inside 0x1e208 T = true) :
    LawO T b (doneIf c s t) := by
  unfold doneIf
  split
  · exact law_done_of h m
  · exact LawO.next h0

end Sys2Proof.Machine
end

