-- ==== Sys2Proof/Laws/FrameTrips.lean ====
section
/-! SUPPORT. What each function of Machine/Trips.lean may touch. -/

namespace Sys2Proof.Machine

theorem law_setPv (s : State) (n : Nat) (v : F32) : Law 0x8 s (setPv s n v) := by
  unfold setPv
  try dsimp only
  repeat' first
    | with_reducible apply Law.refl
    | ((with_reducible apply Law.step); (case k => with_reducible first | apply law_setF | apply law_setBit); (case m => rfl))
    | with_reducible apply Law.ite
    | with_reducible apply LawO.ite
    | with_reducible apply Law.ite_snd
    | with_reducible apply Law.ite_fst
    | with_reducible apply LawO.next
    | with_reducible apply Law.cond
    | with_reducible apply Law.foldl
    | with_reducible apply Law.foldl_fst
    | with_reducible apply Law.foldl_snd
    | with_reducible apply Law.foldl_third
    | (intro _ _; try dsimp only)
    | (split <;> try dsimp only)
    | ((with_reducible apply Law.of_snd); (assumption))

theorem law_showEstimate (s : State) (n : Nat) : Law 0x8 s (showEstimate s n) := by
  unfold showEstimate
  try dsimp only
  repeat' first
    | with_reducible apply Law.refl
    | ((with_reducible apply Law.step); (case k => with_reducible apply law_setPv); (case m => rfl))
    | with_reducible apply Law.ite
    | with_reducible apply LawO.ite
    | with_reducible apply Law.ite_snd
    | with_reducible apply Law.ite_fst
    | with_reducible apply LawO.next
    | with_reducible apply Law.cond
    | with_reducible apply Law.foldl
    | with_reducible apply Law.foldl_fst
    | with_reducible apply Law.foldl_snd
    | with_reducible apply Law.foldl_third
    | (intro _ _; try dsimp only)
    | (split <;> try dsimp only)
    | ((with_reducible apply Law.of_snd); (assumption))

theorem law_updPort (s : State) (n : Nat) (f : PortSt → PortSt) : Law 0x4000000 s (updPort s n f) := by
  unfold updPort
  try dsimp only
  repeat' first
    | with_reducible apply Law.refl
    | with_reducible apply Law.ite
    | with_reducible apply LawO.ite
    | with_reducible apply Law.ite_snd
    | with_reducible apply Law.ite_fst
    | with_reducible apply LawO.next
    | with_reducible apply Law.cond
    | with_reducible apply Law.foldl
    | with_reducible apply Law.foldl_fst
    | with_reducible apply Law.foldl_snd
    | with_reducible apply Law.foldl_third
    | (intro _ _; try dsimp only)
    | (split <;> try dsimp only)
    | ((with_reducible apply Law.put (T := 0x4000000)); (fail_if_success (case e => with_reducible rfl)); (case e => simp only [erase, Nat.testBit, Nat.reduceShiftRight, Nat.reduceAnd, Nat.reduceBNe, bne_self_eq_false, cond_true, cond_false]); (case hT => rfl); (case m => rfl))
    | ((with_reducible apply Law.of_snd); (assumption))

theorem law_startMove (s : State) (n : Nat) : Law 0x4000000 s (startMove s n) := by
  unfold startMove
  try dsimp only
  repeat' first
    | with_reducible apply Law.refl
    | ((with_reducible apply Law.step); (case k => with_reducible apply law_updPort); (case m => rfl))
    | with_reducible apply Law.ite
    | with_reducible apply LawO.ite
    | with_reducible apply Law.ite_snd
    | with_reducible apply Law.ite_fst
    | with_reducible apply LawO.next
    | with_reducible apply Law.cond
    | with_reducible apply Law.foldl
    | with_reducible apply Law.foldl_fst
    | with_reducible apply Law.foldl_snd
    | with_reducible apply Law.foldl_third
    | (intro _ _; try dsimp only)
    | (split <;> try dsimp only)
    | ((with_reducible apply Law.of_snd); (assumption))

theorem law_stopLine (s : State) (n : Nat) : Law 0x4000000 s (stopLine s n) := by
  unfold stopLine
  try dsimp only
  repeat' first
    | with_reducible apply Law.refl
    | ((with_reducible apply Law.step); (case k => with_reducible apply law_updPort); (case m => rfl))
    | with_reducible apply Law.ite
    | with_reducible apply LawO.ite
    | with_reducible apply Law.ite_snd
    | with_reducible apply Law.ite_fst
    | with_reducible apply LawO.next
    | with_reducible apply Law.cond
    | with_reducible apply Law.foldl
    | with_reducible apply Law.foldl_fst
    | with_reducible apply Law.foldl_snd
    | with_reducible apply Law.foldl_third
    | (intro _ _; try dsimp only)
    | (split <;> try dsimp only)
    | ((with_reducible apply Law.of_snd); (assumption))

theorem law_retarget (s : State) (n : Nat) : Law 0x4000008 s (retarget s n) := by
  unfold retarget
  try dsimp only
  repeat' first
    | with_reducible apply Law.refl
    | ((with_reducible apply Law.step); (case k => with_reducible first | apply law_startMove | apply law_showEstimate | apply law_stopLine | apply law_updPort); (case m => rfl))
    | with_reducible apply Law.ite
    | with_reducible apply LawO.ite
    | with_reducible apply Law.ite_snd
    | with_reducible apply Law.ite_fst
    | with_reducible apply LawO.next
    | with_reducible apply Law.cond
    | with_reducible apply Law.foldl
    | with_reducible apply Law.foldl_fst
    | with_reducible apply Law.foldl_snd
    | with_reducible apply Law.foldl_third
    | (intro _ _; try dsimp only)
    | (split <;> try dsimp only)
    | ((with_reducible apply Law.of_snd); (assumption))

theorem law_aim (s : State) (n : Nat) (x : Nat) : Law 0x4000008 s (aim s n x) := by
  unfold aim
  try dsimp only
  repeat' first
    | with_reducible apply Law.refl
    | ((with_reducible apply Law.step); (case k => with_reducible first | apply law_startMove | apply law_retarget | apply law_updPort); (case m => rfl))
    | with_reducible apply Law.ite
    | with_reducible apply LawO.ite
    | with_reducible apply Law.ite_snd
    | with_reducible apply Law.ite_fst
    | with_reducible apply LawO.next
    | with_reducible apply Law.cond
    | with_reducible apply Law.foldl
    | with_reducible apply Law.foldl_fst
    | with_reducible apply Law.foldl_snd
    | with_reducible apply Law.foldl_third
    | (intro _ _; try dsimp only)
    | (split <;> try dsimp only)
    | ((with_reducible apply Law.of_snd); (assumption))

theorem law_drive (s : State) (n : Nat) (v : F32) (rate : Nat) : Law 0x4000000 s (drive s n v rate) := by
  unfold drive
  try dsimp only
  repeat' first
    | with_reducible apply Law.refl
    | ((with_reducible apply Law.step); (case k => with_reducible apply law_updPort); (case m => rfl))
    | with_reducible apply Law.ite
    | with_reducible apply LawO.ite
    | with_reducible apply Law.ite_snd
    | with_reducible apply Law.ite_fst
    | with_reducible apply LawO.next
    | with_reducible apply Law.cond
    | with_reducible apply Law.foldl
    | with_reducible apply Law.foldl_fst
    | with_reducible apply Law.foldl_snd
    | with_reducible apply Law.foldl_third
    | (intro _ _; try dsimp only)
    | (split <;> try dsimp only)
    | ((with_reducible apply Law.of_snd); (assumption))

theorem law_applyOut (s : State) (n : Nat) (v : F32) (start : Nat) : Law 0x4000008 s (applyOut s n v start) := by
  unfold applyOut
  try dsimp only
  repeat' first
    | with_reducible apply Law.refl
    | ((with_reducible apply Law.step); (case k => with_reducible first | apply law_updPort | apply law_setBit | apply law_drive | apply law_aim); (case m => rfl))
    | with_reducible apply Law.ite
    | with_reducible apply LawO.ite
    | with_reducible apply Law.ite_snd
    | with_reducible apply Law.ite_fst
    | with_reducible apply LawO.next
    | with_reducible apply Law.cond
    | with_reducible apply Law.foldl
    | with_reducible apply Law.foldl_fst
    | with_reducible apply Law.foldl_snd
    | with_reducible apply Law.foldl_third
    | (intro _ _; try dsimp only)
    | (split <;> try dsimp only)
    | ((with_reducible apply Law.of_snd); (assumption))

theorem law_tripPort (s : State) (n : Nat) : Law 0x4000008 s (tripPort s n) := by
  unfold tripPort
  try dsimp only
  repeat' first
    | with_reducible apply Law.refl
    | ((with_reducible apply Law.step); (case k => with_reducible first | apply law_updPort | apply law_drive | apply law_setBit | apply law_setN | apply law_aim); (case m => rfl))
    | with_reducible apply Law.ite
    | with_reducible apply LawO.ite
    | with_reducible apply Law.ite_snd
    | with_reducible apply Law.ite_fst
    | with_reducible apply LawO.next
    | with_reducible apply Law.cond
    | with_reducible apply Law.foldl
    | with_reducible apply Law.foldl_fst
    | with_reducible apply Law.foldl_snd
    | with_reducible apply Law.foldl_third
    | (intro _ _; try dsimp only)
    | (split <;> try dsimp only)
    | ((with_reducible apply Law.of_snd); (assumption))

theorem law_channelAssert (s : State) (c : Nat) : Law 0x4000008 s (channelAssert s c) := by
  unfold channelAssert
  try dsimp only
  repeat' first
    | with_reducible apply Law.refl
    | ((with_reducible apply Law.step); (case k => with_reducible apply law_tripPort); (case m => rfl))
    | with_reducible apply Law.ite
    | with_reducible apply LawO.ite
    | with_reducible apply Law.ite_snd
    | with_reducible apply Law.ite_fst
    | with_reducible apply LawO.next
    | with_reducible apply Law.cond
    | with_reducible apply Law.foldl
    | with_reducible apply Law.foldl_fst
    | with_reducible apply Law.foldl_snd
    | with_reducible apply Law.foldl_third
    | (intro _ _; try dsimp only)
    | (split <;> try dsimp only)
    | ((with_reducible apply Law.of_snd); (assumption))

theorem law_releasePort (s : State) (n : Nat) : Law 0x4000008 s (releasePort s n) := by
  unfold releasePort
  try dsimp only
  repeat' first
    | with_reducible apply Law.refl
    | ((with_reducible apply Law.step); (case k => with_reducible first | apply law_setBit | apply law_setN | apply law_updPort); (case m => rfl))
    | with_reducible apply Law.ite
    | with_reducible apply LawO.ite
    | with_reducible apply Law.ite_snd
    | with_reducible apply Law.ite_fst
    | with_reducible apply LawO.next
    | with_reducible apply Law.cond
    | with_reducible apply Law.foldl
    | with_reducible apply Law.foldl_fst
    | with_reducible apply Law.foldl_snd
    | with_reducible apply Law.foldl_third
    | (intro _ _; try dsimp only)
    | (split <;> try dsimp only)
    | ((with_reducible apply Law.of_snd); (assumption))

theorem law_channelDeassert (s : State) (c : Nat) : Law 0x4000008 s (channelDeassert s c) := by
  unfold channelDeassert
  try dsimp only
  repeat' first
    | with_reducible apply Law.refl
    | ((with_reducible apply Law.step); (case k => with_reducible apply law_releasePort); (case m => rfl))
    | with_reducible apply Law.ite
    | with_reducible apply LawO.ite
    | with_reducible apply Law.ite_snd
    | with_reducible apply Law.ite_fst
    | with_reducible apply LawO.next
    | with_reducible apply Law.cond
    | with_reducible apply Law.foldl
    | with_reducible apply Law.foldl_fst
    | with_reducible apply Law.foldl_snd
    | with_reducible apply Law.foldl_third
    | (intro _ _; try dsimp only)
    | (split <;> try dsimp only)
    | ((with_reducible apply Law.of_snd); (assumption))

theorem law_countChange (before : State) (s : State) (c : Nat) : Law 0x40000 s (countChange before s c) := by
  unfold countChange
  try dsimp only
  repeat' first
    | with_reducible apply Law.refl
    | with_reducible apply Law.ite
    | with_reducible apply LawO.ite
    | with_reducible apply Law.ite_snd
    | with_reducible apply Law.ite_fst
    | with_reducible apply LawO.next
    | with_reducible apply Law.cond
    | with_reducible apply Law.foldl
    | with_reducible apply Law.foldl_fst
    | with_reducible apply Law.foldl_snd
    | with_reducible apply Law.foldl_third
    | (intro _ _; try dsimp only)
    | (split <;> try dsimp only)
    | ((with_reducible apply Law.put (T := 0x40000)); (fail_if_success (case e => with_reducible rfl)); (case e => simp only [erase, Nat.testBit, Nat.reduceShiftRight, Nat.reduceAnd, Nat.reduceBNe, bne_self_eq_false, cond_true, cond_false]); (case hT => rfl); (case m => rfl))
    | ((with_reducible apply Law.of_snd); (assumption))

theorem law_channelFollow (before : State) (s : State) (c : Nat) : Law 0x4040008 s (channelFollow before s c) := by
  unfold channelFollow
  try dsimp only
  repeat' first
    | with_reducible apply Law.refl
    | ((with_reducible apply Law.step); (case k => with_reducible first | apply law_countChange | apply law_channelAssert | apply law_channelDeassert); (case m => rfl))
    | with_reducible apply Law.ite
    | with_reducible apply LawO.ite
    | with_reducible apply Law.ite_snd
    | with_reducible apply Law.ite_fst
    | with_reducible apply LawO.next
    | with_reducible apply Law.cond
    | with_reducible apply Law.foldl
    | with_reducible apply Law.foldl_fst
    | with_reducible apply Law.foldl_snd
    | with_reducible apply Law.foldl_third
    | (intro _ _; try dsimp only)
    | (split <;> try dsimp only)
    | ((with_reducible apply Law.of_snd); (assumption))

theorem law_showFaults (s : State) (n : Nat) : Law 0x8 s (showFaults s n) := by
  unfold showFaults
  try dsimp only
  repeat' first
    | with_reducible apply Law.refl
    | ((with_reducible apply Law.step); (case k => with_reducible first | apply law_setBit | apply law_setN); (case m => rfl))
    | with_reducible apply Law.ite
    | with_reducible apply LawO.ite
    | with_reducible apply Law.ite_snd
    | with_reducible apply Law.ite_fst
    | with_reducible apply LawO.next
    | with_reducible apply Law.cond
    | with_reducible apply Law.foldl
    | with_reducible apply Law.foldl_fst
    | with_reducible apply Law.foldl_snd
    | with_reducible apply Law.foldl_third
    | (intro _ _; try dsimp only)
    | (split <;> try dsimp only)
    | ((with_reducible apply Law.of_snd); (assumption))

theorem law_clearFault (s : State) (n : Nat) (t : Nat) : Law 0x8208 s (clearFault s n t) := by
  unfold clearFault
  try dsimp only
  repeat' first
    | with_reducible apply Law.refl
    | ((with_reducible apply Law.step); (case k => with_reducible first | apply law_showFaults | apply law_dropCond | apply law_setBit); (case m => rfl))
    | with_reducible apply Law.ite
    | with_reducible apply LawO.ite
    | with_reducible apply Law.ite_snd
    | with_reducible apply Law.ite_fst
    | with_reducible apply LawO.next
    | with_reducible apply Law.cond
    | with_reducible apply Law.foldl
    | with_reducible apply Law.foldl_fst
    | with_reducible apply Law.foldl_snd
    | with_reducible apply Law.foldl_third
    | (intro _ _; try dsimp only)
    | (split <;> try dsimp only)
    | ((with_reducible apply Law.of_snd); (assumption))

theorem law_clearFaults (s : State) (n : Nat) : Law 0x8208 s (clearFaults s n) := by
  unfold clearFaults
  try dsimp only
  repeat' first
    | with_reducible apply Law.refl
    | ((with_reducible apply Law.step); (case k => with_reducible first | apply law_showFaults | apply law_dropCond); (case m => rfl))
    | with_reducible apply Law.ite
    | with_reducible apply LawO.ite
    | with_reducible apply Law.ite_snd
    | with_reducible apply Law.ite_fst
    | with_reducible apply LawO.next
    | with_reducible apply Law.cond
    | with_reducible apply Law.foldl
    | with_reducible apply Law.foldl_fst
    | with_reducible apply Law.foldl_snd
    | with_reducible apply Law.foldl_third
    | (intro _ _; try dsimp only)
    | (split <;> try dsimp only)
    | ((with_reducible apply Law.of_snd); (assumption))

theorem law_faultGone (s : State) (n : Nat) (t : Nat) : Law 0x200 s (faultGone s n t) := by
  unfold faultGone
  try dsimp only
  repeat' first
    | with_reducible apply Law.refl
    | ((with_reducible apply Law.step); (case k => with_reducible apply law_causeGone); (case m => rfl))
    | with_reducible apply Law.ite
    | with_reducible apply LawO.ite
    | with_reducible apply Law.ite_snd
    | with_reducible apply Law.ite_fst
    | with_reducible apply LawO.next
    | with_reducible apply Law.cond
    | with_reducible apply Law.foldl
    | with_reducible apply Law.foldl_fst
    | with_reducible apply Law.foldl_snd
    | with_reducible apply Law.foldl_third
    | (intro _ _; try dsimp only)
    | (split <;> try dsimp only)
    | ((with_reducible apply Law.of_snd); (assumption))

theorem law_holdSafe (s : State) (n : Nat) : Law 0x4000008 s (holdSafe s n) := by
  unfold holdSafe
  try dsimp only
  repeat' first
    | with_reducible apply Law.refl
    | ((with_reducible apply Law.step); (case k => with_reducible first | apply law_setBit | apply law_updPort | apply law_drive | apply law_aim); (case m => rfl))
    | with_reducible apply Law.ite
    | with_reducible apply LawO.ite
    | with_reducible apply Law.ite_snd
    | with_reducible apply Law.ite_fst
    | with_reducible apply LawO.next
    | with_reducible apply Law.cond
    | with_reducible apply Law.foldl
    | with_reducible apply Law.foldl_fst
    | with_reducible apply Law.foldl_snd
    | with_reducible apply Law.foldl_third
    | (intro _ _; try dsimp only)
    | (split <;> try dsimp only)
    | ((with_reducible apply Law.of_snd); (assumption))

theorem law_setFault (s : State) (n : Nat) (t : Nat) : Law 0x8208 s (setFault s n t) := by
  unfold setFault
  try dsimp only
  repeat' first
    | with_reducible apply Law.refl
    | ((with_reducible apply Law.step); (case k => with_reducible first | apply law_showFaults | apply law_raiseHeld | apply law_setPv | apply law_setBit); (case m => rfl))
    | with_reducible apply Law.ite
    | with_reducible apply LawO.ite
    | with_reducible apply Law.ite_snd
    | with_reducible apply Law.ite_fst
    | with_reducible apply LawO.next
    | with_reducible apply Law.cond
    | with_reducible apply Law.foldl
    | with_reducible apply Law.foldl_fst
    | with_reducible apply Law.foldl_snd
    | with_reducible apply Law.foldl_third
    | (intro _ _; try dsimp only)
    | (split <;> try dsimp only)
    | ((with_reducible apply Law.of_snd); (assumption))

theorem law_judgeFault (s : State) (n : Nat) (t : Nat) (cause : Bool) : Law 0x8208 s (judgeFault s n t cause) := by
  unfold judgeFault
  try dsimp only
  repeat' first
    | with_reducible apply Law.refl
    | ((with_reducible apply Law.step); (case k => with_reducible first | apply law_setFault | apply law_faultGone); (case m => rfl))
    | with_reducible apply Law.ite
    | with_reducible apply LawO.ite
    | with_reducible apply Law.ite_snd
    | with_reducible apply Law.ite_fst
    | with_reducible apply LawO.next
    | with_reducible apply Law.cond
    | with_reducible apply Law.foldl
    | with_reducible apply Law.foldl_fst
    | with_reducible apply Law.foldl_snd
    | with_reducible apply Law.foldl_third
    | (intro _ _; try dsimp only)
    | (split <;> try dsimp only)
    | ((with_reducible apply Law.of_snd); (assumption))

theorem law_tripToPair (s : State) (i : Nat) (f : TripFrame) : Law 0x10000 s (tripToPair s i f) := by
  unfold tripToPair
  try dsimp only
  repeat' first
    | with_reducible apply Law.refl
    | ((with_reducible apply Law.step); (case k => with_reducible apply law_updPath); (case m => rfl))
    | with_reducible apply Law.ite
    | with_reducible apply LawO.ite
    | with_reducible apply Law.ite_snd
    | with_reducible apply Law.ite_fst
    | with_reducible apply LawO.next
    | with_reducible apply Law.cond
    | with_reducible apply Law.foldl
    | with_reducible apply Law.foldl_fst
    | with_reducible apply Law.foldl_snd
    | with_reducible apply Law.foldl_third
    | (intro _ _; try dsimp only)
    | (split <;> try dsimp only)
    | ((with_reducible apply Law.of_snd); (assumption))

theorem law_tripToAll (s : State) (f : TripFrame) : Law 0x10000 s (tripToAll s f) := by
  unfold tripToAll
  try dsimp only
  repeat' first
    | with_reducible apply Law.refl
    | ((with_reducible apply Law.step); (case k => with_reducible apply law_tripToPair); (case m => rfl))
    | with_reducible apply Law.ite
    | with_reducible apply LawO.ite
    | with_reducible apply Law.ite_snd
    | with_reducible apply Law.ite_fst
    | with_reducible apply LawO.next
    | with_reducible apply Law.cond
    | with_reducible apply Law.foldl
    | with_reducible apply Law.foldl_fst
    | with_reducible apply Law.foldl_snd
    | with_reducible apply Law.foldl_third
    | (intro _ _; try dsimp only)
    | (split <;> try dsimp only)
    | ((with_reducible apply Law.of_snd); (assumption))

theorem law_sendTrip (s : State) (c : Nat) (on : Bool) : Law 0x50000 s (sendTrip s c on) := by
  unfold sendTrip
  try dsimp only
  repeat' first
    | with_reducible apply Law.refl
    | ((with_reducible apply Law.step); (case k => with_reducible apply law_tripToAll); (case m => rfl))
    | with_reducible apply Law.ite
    | with_reducible apply LawO.ite
    | with_reducible apply Law.ite_snd
    | with_reducible apply Law.ite_fst
    | with_reducible apply LawO.next
    | with_reducible apply Law.cond
    | with_reducible apply Law.foldl
    | with_reducible apply Law.foldl_fst
    | with_reducible apply Law.foldl_snd
    | with_reducible apply Law.foldl_third
    | (intro _ _; try dsimp only)
    | (split <;> try dsimp only)
    | ((with_reducible apply Law.put (T := 0x40000)); (fail_if_success (case e => with_reducible rfl)); (case e => simp only [erase, Nat.testBit, Nat.reduceShiftRight, Nat.reduceAnd, Nat.reduceBNe, bne_self_eq_false, cond_true, cond_false]); (case hT => rfl); (case m => rfl))
    | ((with_reducible apply Law.of_snd); (assumption))

theorem law_localChange (before : State) (s : State) (c : Nat) (n : Nat) : Law 0x4050008 s (localChange before s c n) := by
  unfold localChange
  try dsimp only
  repeat' first
    | with_reducible apply Law.refl
    | ((with_reducible apply Law.step); (case k => with_reducible first | apply law_channelFollow | apply law_sendTrip); (case m => rfl))
    | with_reducible apply Law.ite
    | with_reducible apply LawO.ite
    | with_reducible apply Law.ite_snd
    | with_reducible apply Law.ite_fst
    | with_reducible apply LawO.next
    | with_reducible apply Law.cond
    | with_reducible apply Law.foldl
    | with_reducible apply Law.foldl_fst
    | with_reducible apply Law.foldl_snd
    | with_reducible apply Law.foldl_third
    | (intro _ _; try dsimp only)
    | (split <;> try dsimp only)
    | ((with_reducible apply Law.of_snd); (assumption))

theorem law_startHoming (s : State) (n : Nat) : Law 0x4000008 s (startHoming s n) := by
  unfold startHoming
  try dsimp only
  repeat' first
    | with_reducible apply Law.refl
    | ((with_reducible apply Law.step); (case k => with_reducible first | apply law_showEstimate | apply law_setBit | apply law_updPort); (case m => rfl))
    | with_reducible apply Law.ite
    | with_reducible apply LawO.ite
    | with_reducible apply Law.ite_snd
    | with_reducible apply Law.ite_fst
    | with_reducible apply LawO.next
    | with_reducible apply Law.cond
    | with_reducible apply Law.foldl
    | with_reducible apply Law.foldl_fst
    | with_reducible apply Law.foldl_snd
    | with_reducible apply Law.foldl_third
    | (intro _ _; try dsimp only)
    | (split <;> try dsimp only)
    | ((with_reducible apply Law.of_snd); (assumption))

end Sys2Proof.Machine
end

