-- ==== Sys2Proof/Laws/FrameStartup.lean ====
section
/-! SUPPORT. What each function of Machine/Startup.lean may touch. -/

namespace Sys2Proof.Machine

theorem law_bootAttempt (s : State) : Law 0x8000083f8 s (bootAttempt s).1 := by
  unfold bootAttempt
  try dsimp only
  repeat' first
    | with_reducible apply Law.refl
    | ((with_reducible apply Law.step); (case k => with_reducible apply law_journalOp); (case m => rfl))
    | with_reducible apply Law.ite
    | with_reducible apply LawO.ite
    | with_reducible apply Law.ite_snd
    | with_reducible apply Law.ite_fst
    | with_reducible apply LawO.next
    | with_reducible apply Law.cond
    | with_reducible apply Law.foldl
    | with_reducible apply Law.foldl_fst
    | with_reducible apply Law.foldl_snd
    | with_reducible apply Law.foldl_third
    | (intro _ _; try dsimp only)
    | (split <;> try dsimp only)
    | ((with_reducible apply Law.of_snd); (assumption))

theorem law_raiseCounter (s : State) : Law 0x8012083b8 s (raiseCounter s) := by
  unfold raiseCounter
  dsimp only
  split
  · rename_i hv
    refine Law.step ?_ (law_appendAudit _ _ _ _ _ _ _) rfl
    refine Law.putE (T := 0x1000000) (Law.refl _ _) ?_ ?_ rfl
    · rfl
    · exact ⟨id, id, id, id, Nat.le_refl _, Nat.le_of_lt hv.2⟩
  · exact Law.refl _ _

theorem law_bootSelect (s : State) : Law 0x208012083f8 s (bootSelect s).1 := by
  unfold bootSelect
  try dsimp only
  repeat' first
    | with_reducible apply Law.refl
    | ((with_reducible apply Law.step); (case k => with_reducible first | apply law_bootAttempt | apply law_raiseCounter | apply law_readImage | apply law_raise | apply law_journalOp); (case m => rfl))
    | ((with_reducible apply Law.step); (case k => (with_reducible apply Law.of_fst; (assumption); with_reducible apply law_bootAttempt)); (case m => rfl))
    | with_reducible apply Law.ite
    | with_reducible apply LawO.ite
    | with_reducible apply Law.ite_snd
    | with_reducible apply Law.ite_fst
    | with_reducible apply LawO.next
    | with_reducible apply Law.cond
    | with_reducible apply Law.foldl
    | with_reducible apply Law.foldl_fst
    | with_reducible apply Law.foldl_snd
    | with_reducible apply Law.foldl_third
    | (intro _ _; try dsimp only)
    | (split <;> try dsimp only)
    | ((with_reducible apply Law.of_snd); (assumption))

theorem law_closeJournal (s : State) (c : BitVec 32) : Law 0x800008338 s (closeJournal s c) := by
  unfold closeJournal
  try dsimp only
  repeat' first
    | with_reducible apply Law.refl
    | ((with_reducible apply Law.step); (case k => with_reducible apply law_applyTarget); (case m => rfl))
    | with_reducible apply Law.ite
    | with_reducible apply LawO.ite
    | with_reducible apply Law.ite_snd
    | with_reducible apply Law.ite_fst
    | with_reducible apply LawO.next
    | with_reducible apply Law.cond
    | with_reducible apply Law.foldl
    | with_reducible apply Law.foldl_fst
    | with_reducible apply Law.foldl_snd
    | with_reducible apply Law.foldl_third
    | (intro _ _; try dsimp only)
    | (split <;> try dsimp only)
    | ((with_reducible apply Law.of_snd); (assumption))

theorem law_countRecovery (s : State) (l : Reads) : Law 0x208000083b8 s (countRecovery s l) := by
  unfold countRecovery
  try dsimp only
  repeat' first
    | with_reducible apply Law.refl
    | ((with_reducible apply Law.step); (case k => with_reducible apply law_countReads); (case m => rfl))
    | with_reducible apply Law.ite
    | with_reducible apply LawO.ite
    | with_reducible apply Law.ite_snd
    | with_reducible apply Law.ite_fst
    | with_reducible apply LawO.next
    | with_reducible apply Law.cond
    | with_reducible apply Law.foldl
    | with_reducible apply Law.foldl_fst
    | with_reducible apply Law.foldl_snd
    | with_reducible apply Law.foldl_third
    | (intro _ _; try dsimp only)
    | (split <;> try dsimp only)
    | ((with_reducible apply Law.of_snd); (assumption))

theorem law_enterRecovery (s : State) (lost : Bool) : Law 0x400820d s (enterRecovery s lost) := by
  unfold enterRecovery
  try dsimp only
  repeat' first
    | with_reducible apply Law.refl
    | ((with_reducible apply Law.step); (case k => with_reducible first | apply law_holdSafe | apply law_raiseHeld); (case m => rfl))
    | with_reducible apply Law.ite
    | with_reducible apply LawO.ite
    | with_reducible apply Law.ite_snd
    | with_reducible apply Law.ite_fst
    | with_reducible apply LawO.next
    | with_reducible apply Law.cond
    | with_reducible apply Law.foldl
    | with_reducible apply Law.foldl_fst
    | with_reducible apply Law.foldl_snd
    | with_reducible apply Law.foldl_third
    | (intro _ _; try dsimp only)
    | (split <;> try dsimp only)
    | ((with_reducible apply Law.put (T := 0x5)); (fail_if_success (case e => with_reducible rfl)); (case e => simp only [erase, Nat.testBit, Nat.reduceShiftRight, Nat.reduceAnd, Nat.reduceBNe, bne_self_eq_false, cond_true, cond_false]); (case hT => rfl); (case m => rfl))
    | ((with_reducible apply Law.of_snd); (assumption))

theorem law_metrologyStarts (s : State) : Law 0xa800083b9 s (metrologyStarts s) := by
  unfold metrologyStarts
  try dsimp only
  repeat' first
    | with_reducible apply Law.refl
    | ((with_reducible apply Law.step); (case k => with_reducible first | apply law_causeGone | apply law_startInterval | apply law_applyTarget); (case m => rfl))
    | with_reducible apply Law.ite
    | with_reducible apply LawO.ite
    | with_reducible apply Law.ite_snd
    | with_reducible apply Law.ite_fst
    | with_reducible apply LawO.next
    | with_reducible apply Law.cond
    | with_reducible apply Law.foldl
    | with_reducible apply Law.foldl_fst
    | with_reducible apply Law.foldl_snd
    | with_reducible apply Law.foldl_third
    | (intro _ _; try dsimp only)
    | (split <;> try dsimp only)
    | ((with_reducible apply Law.put (T := 0x80000001)); (fail_if_success (case e => with_reducible rfl)); (case e => simp only [erase, Nat.testBit, Nat.reduceShiftRight, Nat.reduceAnd, Nat.reduceBNe, bne_self_eq_false, cond_true, cond_false]); (case hT => rfl); (case m => rfl))
    | ((with_reducible apply Law.of_snd); (assumption))

theorem law_execMetrologyValid (s : State) : LawO 0xa8001e3b9 s (execMetrologyValid s) := by
  unfold execMetrologyValid
  try dsimp only
  repeat' first
    | with_reducible apply Law.refl
    | ((with_reducible apply Law.step); (case k => with_reducible apply law_metrologyStarts); (case m => rfl))
    | ((with_reducible apply law_doneIf_of); (case m => rfl))
    | with_reducible apply Law.ite
    | with_reducible apply LawO.ite
    | with_reducible apply Law.ite_snd
    | with_reducible apply Law.ite_fst
    | with_reducible apply LawO.next
    | with_reducible apply Law.cond
    | with_reducible apply Law.foldl
    | with_reducible apply Law.foldl_fst
    | with_reducible apply Law.foldl_snd
    | with_reducible apply Law.foldl_third
    | (intro _ _; try dsimp only)
    | (split <;> try dsimp only)
    | ((with_reducible apply Law.put (T := 0x1)); (fail_if_success (case e => with_reducible rfl)); (case e => simp only [erase, Nat.testBit, Nat.reduceShiftRight, Nat.reduceAnd, Nat.reduceBNe, bne_self_eq_false, cond_true, cond_false]); (case hT => rfl); (case m => rfl))
    | ((with_reducible apply Law.of_snd); (assumption))

theorem law_execMetrologyValidTimeout (lead : Nat) (s : State) : LawO 0x1e209 s (execMetrologyValidTimeout lead s) := by
  unfold execMetrologyValidTimeout
  try dsimp only
  repeat' first
    | with_reducible apply Law.refl
    | ((with_reducible apply Law.step); (case k => with_reducible apply law_raiseHeld); (case m => rfl))
    | ((with_reducible apply law_doneIf_of); (case m => rfl))
    | with_reducible apply Law.ite
    | with_reducible apply LawO.ite
    | with_reducible apply Law.ite_snd
    | with_reducible apply Law.ite_fst
    | with_reducible apply LawO.next
    | with_reducible apply Law.cond
    | with_reducible apply Law.foldl
    | with_reducible apply Law.foldl_fst
    | with_reducible apply Law.foldl_snd
    | with_reducible apply Law.foldl_third
    | (intro _ _; try dsimp only)
    | (split <;> try dsimp only)
    | ((with_reducible apply Law.put (T := 0x1)); (fail_if_success (case e => with_reducible rfl)); (case e => simp only [erase, Nat.testBit, Nat.reduceShiftRight, Nat.reduceAnd, Nat.reduceBNe, bne_self_eq_false, cond_true, cond_false]); (case hT => rfl); (case m => rfl))
    | ((with_reducible apply Law.of_snd); (assumption))

theorem law_faultSafe (s : State) (n : Nat) : Law 0x4000008 s (faultSafe s n) := by
  unfold faultSafe
  try dsimp only
  repeat' first
    | with_reducible apply Law.refl
    | ((with_reducible apply Law.step); (case k => with_reducible first | apply law_setBit | apply law_updPort | apply law_showEstimate | apply law_stopLine | apply law_holdSafe | apply law_drive); (case m => rfl))
    | with_reducible apply Law.ite
    | with_reducible apply LawO.ite
    | with_reducible apply Law.ite_snd
    | with_reducible apply Law.ite_fst
    | with_reducible apply LawO.next
    | with_reducible apply Law.cond
    | with_reducible apply Law.foldl
    | with_reducible apply Law.foldl_fst
    | with_reducible apply Law.foldl_snd
    | with_reducible apply Law.foldl_third
    | (intro _ _; try dsimp only)
    | (split <;> try dsimp only)
    | ((with_reducible apply Law.of_snd); (assumption))

theorem law_haltConverter (s : State) (k : Nat) : Law 0x8000008 s (haltConverter s k) := by
  unfold haltConverter
  try dsimp only
  repeat' first
    | with_reducible apply Law.refl
    | ((with_reducible apply Law.step); (case k => with_reducible first | apply law_updConv | apply law_slotOver | apply law_showConv); (case m => rfl))
    | with_reducible apply Law.ite
    | with_reducible apply LawO.ite
    | with_reducible apply Law.ite_snd
    | with_reducible apply Law.ite_fst
    | with_reducible apply LawO.next
    | with_reducible apply Law.cond
    | with_reducible apply Law.foldl
    | with_reducible apply Law.foldl_fst
    | with_reducible apply Law.foldl_snd
    | with_reducible apply Law.foldl_third
    | (intro _ _; try dsimp only)
    | (split <;> try dsimp only)
    | ((with_reducible apply Law.of_snd); (assumption))

theorem law_haltLoop (s : State) (l : Nat) : Law 0x400000008 s (haltLoop s l) := by
  unfold haltLoop
  try dsimp only
  repeat' first
    | with_reducible apply Law.refl
    | ((with_reducible apply Law.step); (case k => with_reducible first | apply law_updLoop | apply law_repIdle); (case m => rfl))
    | with_reducible apply Law.ite
    | with_reducible apply LawO.ite
    | with_reducible apply Law.ite_snd
    | with_reducible apply Law.ite_fst
    | with_reducible apply LawO.next
    | with_reducible apply Law.cond
    | with_reducible apply Law.foldl
    | with_reducible apply Law.foldl_fst
    | with_reducible apply Law.foldl_snd
    | with_reducible apply Law.foldl_third
    | (intro _ _; try dsimp only)
    | (split <;> try dsimp only)
    | ((with_reducible apply Law.of_snd); (assumption))

theorem law_execReferenceOscillatorFault (s : State) : LawO 0x4ac01e209 s (execReferenceOscillatorFault s) := by
  unfold execReferenceOscillatorFault
  try dsimp only
  repeat' first
    | with_reducible apply Law.refl
    | ((with_reducible apply Law.step); (case k => with_reducible first | apply law_haltLoop | apply law_faultSafe | apply law_invalidate | apply law_haltConverter | apply law_raiseHeld); (case m => rfl))
    | ((with_reducible apply law_doneIf_of); (case m => rfl))
    | with_reducible apply Law.ite
    | with_reducible apply LawO.ite
    | with_reducible apply Law.ite_snd
    | with_reducible apply Law.ite_fst
    | with_reducible apply LawO.next
    | with_reducible apply Law.cond
    | with_reducible apply Law.foldl
    | with_reducible apply Law.foldl_fst
    | with_reducible apply Law.foldl_snd
    | with_reducible apply Law.foldl_third
    | (intro _ _; try dsimp only)
    | (split <;> try dsimp only)
    | ((with_reducible apply Law.put (T := 0x20000001)); (fail_if_success (case e => with_reducible rfl)); (case e => simp only [erase, Nat.testBit, Nat.reduceShiftRight, Nat.reduceAnd, Nat.reduceBNe, bne_self_eq_false, cond_true, cond_false]); (case hT => rfl); (case m => rfl))
    | ((with_reducible apply Law.of_snd); (assumption))

theorem law_portRestart (s : State) (n : Nat) : Law 0x4000008 s (portRestart s n) := by
  unfold portRestart
  try dsimp only
  repeat' first
    | with_reducible apply Law.refl
    | ((with_reducible apply Law.step); (case k => with_reducible first | apply law_updPort | apply law_setBit | apply law_drive | apply law_holdSafe | apply law_startHoming); (case m => rfl))
    | with_reducible apply Law.ite
    | with_reducible apply LawO.ite
    | with_reducible apply Law.ite_snd
    | with_reducible apply Law.ite_fst
    | with_reducible apply LawO.next
    | with_reducible apply Law.cond
    | with_reducible apply Law.foldl
    | with_reducible apply Law.foldl_fst
    | with_reducible apply Law.foldl_snd
    | with_reducible apply Law.foldl_third
    | (intro _ _; try dsimp only)
    | (split <;> try dsimp only)
    | ((with_reducible apply Law.of_snd); (assumption))

theorem law_rejoinPairs (s : State) : Law 0x20000 s (rejoinPairs s) := by
  unfold rejoinPairs
  try dsimp only
  repeat' first
    | with_reducible apply Law.refl
    | with_reducible apply Law.ite
    | with_reducible apply LawO.ite
    | with_reducible apply Law.ite_snd
    | with_reducible apply Law.ite_fst
    | with_reducible apply LawO.next
    | with_reducible apply Law.cond
    | with_reducible apply Law.foldl
    | with_reducible apply Law.foldl_fst
    | with_reducible apply Law.foldl_snd
    | with_reducible apply Law.foldl_third
    | (intro _ _; try dsimp only)
    | (split <;> try dsimp only)
    | ((with_reducible apply Law.put (T := 0x20000)); (fail_if_success (case e => with_reducible rfl)); (case e => simp only [erase, Nat.testBit, Nat.reduceShiftRight, Nat.reduceAnd, Nat.reduceBNe, bne_self_eq_false, cond_true, cond_false]); (case hT => rfl); (case m => rfl))
    | ((with_reducible apply Law.of_snd); (assumption))

theorem law_startConverter (s : State) (k : Nat) : Law 0x58008208 s (startConverter s k) := by
  unfold startConverter
  try dsimp only
  repeat' first
    | with_reducible apply Law.refl
    | ((with_reducible apply Law.step); (case k => with_reducible first | apply law_convStart | apply law_showConv | apply law_resumeConv); (case m => rfl))
    | with_reducible apply Law.ite
    | with_reducible apply LawO.ite
    | with_reducible apply Law.ite_snd
    | with_reducible apply Law.ite_fst
    | with_reducible apply LawO.next
    | with_reducible apply Law.cond
    | with_reducible apply Law.foldl
    | with_reducible apply Law.foldl_fst
    | with_reducible apply Law.foldl_snd
    | with_reducible apply Law.foldl_third
    | (intro _ _; try dsimp only)
    | (split <;> try dsimp only)
    | ((with_reducible apply Law.of_snd); (assumption))

theorem law_startConverters (s : State) : Law 0x78008208 s (startConverters s) := by
  unfold startConverters
  try dsimp only
  repeat' first
    | with_reducible apply Law.refl
    | ((with_reducible apply Law.step); (case k => with_reducible first | apply law_unsettle | apply law_startConverter | apply law_laneStart); (case m => rfl))
    | with_reducible apply Law.ite
    | with_reducible apply LawO.ite
    | with_reducible apply Law.ite_snd
    | with_reducible apply Law.ite_fst
    | with_reducible apply LawO.next
    | with_reducible apply Law.cond
    | with_reducible apply Law.foldl
    | with_reducible apply Law.foldl_fst
    | with_reducible apply Law.foldl_snd
    | with_reducible apply Law.foldl_third
    | (intro _ _; try dsimp only)
    | (split <;> try dsimp only)
    | ((with_reducible apply Law.of_snd); (assumption))

theorem law_execReferenceRestart (cycles : Nat) (s : State) : LawO 0x6807c0be20f s (execReferenceRestart cycles s) := by
  unfold execReferenceRestart
  try dsimp only
  repeat' first
    | with_reducible apply Law.refl
    | ((with_reducible apply Law.step); (case k => with_reducible first | apply law_rtcRun | apply law_causeGone | apply law_portRestart | apply law_updDisplay | apply law_startConverters | apply law_evalPairs | apply law_rejoinPairs | apply law_skipPeriod); (case m => rfl))
    | ((with_reducible apply law_doneIf_of); (case m => rfl))
    | with_reducible apply Law.ite
    | with_reducible apply LawO.ite
    | with_reducible apply Law.ite_snd
    | with_reducible apply Law.ite_fst
    | with_reducible apply LawO.next
    | with_reducible apply Law.cond
    | with_reducible apply Law.foldl
    | with_reducible apply Law.foldl_fst
    | with_reducible apply Law.foldl_snd
    | with_reducible apply Law.foldl_third
    | (intro _ _; try dsimp only)
    | (split <;> try dsimp only)
    | ((with_reducible apply Law.put (T := 0x1)); (fail_if_success (case e => with_reducible rfl)); (case e => simp only [erase, Nat.testBit, Nat.reduceShiftRight, Nat.reduceAnd, Nat.reduceBNe, bne_self_eq_false, cond_true, cond_false]); (case hT => rfl); (case m => rfl))
    | ((with_reducible apply Law.of_snd); (assumption))

theorem law_recordStart (s : State) (cause : Nat) (mismatch : Bool) : Law 0x8000083b8 s (recordStart s cause mismatch) := by
  unfold recordStart
  try dsimp only
  repeat' first
    | with_reducible apply Law.refl
    | ((with_reducible apply Law.step); (case k => with_reducible first | apply law_raise | apply law_saveN); (case m => rfl))
    | with_reducible apply Law.ite
    | with_reducible apply LawO.ite
    | with_reducible apply Law.ite_snd
    | with_reducible apply Law.ite_fst
    | with_reducible apply LawO.next
    | with_reducible apply Law.cond
    | with_reducible apply Law.foldl
    | with_reducible apply Law.foldl_fst
    | with_reducible apply Law.foldl_snd
    | with_reducible apply Law.foldl_third
    | (intro _ _; try dsimp only)
    | (split <;> try dsimp only)
    | ((with_reducible apply Law.of_snd); (assumption))

theorem law_loadEntries (s : State) : Law 0x8 s (loadEntries s) := by
  unfold loadEntries
  try dsimp only
  repeat' first
    | with_reducible apply Law.refl
    | ((with_reducible apply Law.step); (case k => with_reducible first | apply law_setBytes | apply law_setN); (case m => rfl))
    | with_reducible apply Law.ite
    | with_reducible apply LawO.ite
    | with_reducible apply Law.ite_snd
    | with_reducible apply Law.ite_fst
    | with_reducible apply LawO.next
    | with_reducible apply Law.cond
    | with_reducible apply Law.foldl
    | with_reducible apply Law.foldl_fst
    | with_reducible apply Law.foldl_snd
    | with_reducible apply Law.foldl_third
    | (intro _ _; try dsimp only)
    | (split <;> try dsimp only)
    | ((with_reducible apply Law.of_snd); (assumption))

theorem law_recoverRead (x : State × Reads) (first n : Nat) : Law 0x800008328 x.1 (recoverRead x first n).1 := by
  unfold recoverRead
  exact Law.step (Law.refl _ _) (law_pagesMarked _ _ _) rfl

theorem law_readJournal (s : State) : Law 0x800008328 s (readJournal s).1 := by
  unfold readJournal
  dsimp only
  have k := (law_recoverRead (s, []) 65536 2).trans (law_recoverRead (recoverRead (s, []) 65536 2) 65538 (max 1 (listPages s.stor.journal.count)))
  split
  · exact k.trans (law_recoverRead _ _ _)
  · exact k

theorem law_recoverCarry (s : State) : Law 0x800008338 s (recoverCarry s) := by
  unfold recoverCarry
  try dsimp only
  repeat' first
    | with_reducible apply Law.refl
    | ((with_reducible apply Law.step); (case k => with_reducible first | apply law_applyTarget | apply law_raise | apply law_setN | apply law_setBit); (case m => rfl))
    | with_reducible apply Law.ite
    | with_reducible apply LawO.ite
    | with_reducible apply Law.ite_snd
    | with_reducible apply Law.ite_fst
    | with_reducible apply LawO.next
    | with_reducible apply Law.cond
    | with_reducible apply Law.foldl
    | with_reducible apply Law.foldl_fst
    | with_reducible apply Law.foldl_snd
    | with_reducible apply Law.foldl_third
    | (intro _ _; try dsimp only)
    | (split <;> try dsimp only)
    | ((with_reducible apply Law.of_snd); (assumption))

theorem law_recoverDisplay (s : State) : Law 0x8000000000 s (recoverDisplay s) := by
  unfold recoverDisplay
  try dsimp only
  repeat' first
    | with_reducible apply Law.refl
    | ((with_reducible apply Law.step); (case k => with_reducible apply law_updDisplay); (case m => rfl))
    | with_reducible apply Law.ite
    | with_reducible apply LawO.ite
    | with_reducible apply Law.ite_snd
    | with_reducible apply Law.ite_fst
    | with_reducible apply LawO.next
    | with_reducible apply Law.cond
    | with_reducible apply Law.foldl
    | with_reducible apply Law.foldl_fst
    | with_reducible apply Law.foldl_snd
    | with_reducible apply Law.foldl_third
    | (intro _ _; try dsimp only)
    | (split <;> try dsimp only)
    | ((with_reducible apply Law.of_snd); (assumption))

theorem law_journalActed (s : State) (sub : Nat) : Law 0x8 s (journalActed s sub) := by
  unfold journalActed
  try dsimp only
  repeat' first
    | with_reducible apply Law.refl
    | ((with_reducible apply Law.step); (case k => with_reducible first | apply law_setN | apply law_setBit); (case m => rfl))
    | with_reducible apply Law.ite
    | with_reducible apply LawO.ite
    | with_reducible apply Law.ite_snd
    | with_reducible apply Law.ite_fst
    | with_reducible apply LawO.next
    | with_reducible apply Law.cond
    | with_reducible apply Law.foldl
    | with_reducible apply Law.foldl_fst
    | with_reducible apply Law.foldl_snd
    | with_reducible apply Law.foldl_third
    | (intro _ _; try dsimp only)
    | (split <;> try dsimp only)
    | ((with_reducible apply Law.of_snd); (assumption))

theorem law_replaceGood (s : State) (i : Nat) (p : Placed) : Law 0x800008338 s (replaceGood s i p) := by
  unfold replaceGood
  try dsimp only
  repeat' first
    | with_reducible apply Law.refl
    | ((with_reducible apply Law.step); (case k => with_reducible first | apply law_writePlaced | apply law_setBit | apply law_putInPlace); (case m => rfl))
    | ((with_reducible apply Law.step); (case k => (with_reducible apply Law.of_snd; (assumption); with_reducible apply law_writePlaced)); (case m => rfl))
    | with_reducible apply Law.ite
    | with_reducible apply LawO.ite
    | with_reducible apply Law.ite_snd
    | with_reducible apply Law.ite_fst
    | with_reducible apply LawO.next
    | with_reducible apply Law.cond
    | with_reducible apply Law.foldl
    | with_reducible apply Law.foldl_fst
    | with_reducible apply Law.foldl_snd
    | with_reducible apply Law.foldl_third
    | (intro _ _; try dsimp only)
    | (split <;> try dsimp only)
    | ((with_reducible apply Law.of_snd); (assumption))

theorem law_replaceAll (s : State) (i : Nat) (l : List Placed) : Law 0x800008338 s (replaceAll s i l) := by
  induction l generalizing s i with
  | nil => exact Law.refl _ _
  | cons p t ih =>
    unfold replaceAll
    exact (Law.step (Law.refl _ _) (law_replaceGood _ _ _) rfl).trans (ih _ _)

theorem law_recoverJournal (s0 : State) : Law 0x800008378 s0 (recoverJournal s0) := by
  unfold recoverJournal
  try dsimp only
  repeat' first
    | with_reducible apply Law.refl
    | ((with_reducible apply Law.step); (case k => with_reducible first | apply law_raise | apply law_journalActed | apply law_closeJournal | apply law_writePlaced | apply law_setBit | apply law_replaceAll | apply law_raiseHeld); (case m => rfl))
    | ((with_reducible apply Law.step); (case k => (with_reducible apply Law.of_snd; (assumption); with_reducible apply law_writePlaced)); (case m => rfl))
    | with_reducible apply Law.ite
    | with_reducible apply LawO.ite
    | with_reducible apply Law.ite_snd
    | with_reducible apply Law.ite_fst
    | with_reducible apply LawO.next
    | with_reducible apply Law.cond
    | with_reducible apply Law.foldl
    | with_reducible apply Law.foldl_fst
    | with_reducible apply Law.foldl_snd
    | with_reducible apply Law.foldl_third
    | (intro _ _; try dsimp only)
    | (split <;> try dsimp only)
    | ((with_reducible apply Law.put (T := 0x60)); (fail_if_success (case e => with_reducible rfl)); (case e => simp only [erase, Nat.testBit, Nat.reduceShiftRight, Nat.reduceAnd, Nat.reduceBNe, bne_self_eq_false, cond_true, cond_false]); (case hT => rfl); (case m => rfl))
    | ((with_reducible apply Law.of_snd); (assumption))

theorem law_recoverRecords (s : State) : Law 0x8228 s (recoverRecords s) := by
  unfold recoverRecords
  try dsimp only
  repeat' first
    | with_reducible apply Law.refl
    | ((with_reducible apply Law.step); (case k => with_reducible first | apply law_setN | apply law_raise | apply law_setBit); (case m => rfl))
    | with_reducible apply Law.ite
    | with_reducible apply LawO.ite
    | with_reducible apply Law.ite_snd
    | with_reducible apply Law.ite_fst
    | with_reducible apply LawO.next
    | with_reducible apply Law.cond
    | with_reducible apply Law.foldl
    | with_reducible apply Law.foldl_fst
    | with_reducible apply Law.foldl_snd
    | with_reducible apply Law.foldl_third
    | (intro _ _; try dsimp only)
    | (split <;> try dsimp only)
    | ((with_reducible apply Law.put (T := 0x20)); (fail_if_success (case e => with_reducible rfl)); (case e => simp only [erase, Nat.testBit, Nat.reduceShiftRight, Nat.reduceAnd, Nat.reduceBNe, bne_self_eq_false, cond_true, cond_false]); (case hT => rfl); (case m => rfl))
    | ((with_reducible apply Law.of_snd); (assumption))

theorem law_recoverRemap (s : State) : Law 0x8308 s (recoverRemap s) := by
  have key : ∀ (use : Nat) (t : List (Option Nat)),
      (s.stor.remap.fits = true → t.length ≤ 8192) → Law 0x8308 s { s with stor := { s.stor with remap := { s.stor.remap with use := use, table := t } } } := by
    intro use t ht
    refine ⟨by simp only [erase, Nat.testBit, Nat.reduceShiftRight, Nat.reduceAnd, Nat.reduceBNe, bne_self_eq_false, cond_true, cond_false], ⟨id, id, id, fun h => ?_, Nat.le_refl _, Nat.le_refl _⟩⟩
    have l := ht h
    unfold Remap.fits at h ⊢
    simp only [Bool.and_eq_true, decide_eq_true_eq] at h ⊢
    exact ⟨⟨l, h.1.2⟩, h.2⟩
  have zero : s.stor.remap.fits = true → ([] : List (Option Nat)).length ≤ 8192 := fun _ => Nat.zero_le _
  have in0 : ∀ a : RemapCopy, s.stor.remap.slot0.filter (·.ok) = some a → s.stor.remap.fits = true → a.table.length ≤ 8192 := by
    intro a e h
    unfold Remap.fits at h
    cases h0 : s.stor.remap.slot0 with
    | none => rw [h0] at e; cases e
    | some c =>
      rw [h0] at e h
      simp only [Option.filter] at e
      split at e
      · cases e; simp_all
      · cases e
  have in1 : ∀ a : RemapCopy, s.stor.remap.slot1.filter (·.ok) = some a → s.stor.remap.fits = true → a.table.length ≤ 8192 := by
    intro a e h
    unfold Remap.fits at h
    cases h0 : s.stor.remap.slot1 with
    | none => rw [h0] at e; cases e
    | some c =>
      rw [h0] at e h
      simp only [Option.filter] at e
      split at e
      · cases e; simp_all
      · cases e
  have lost : ∀ (t : State) (c : Option RemapCopy), Law 0x8308 s t → Law 0x8308 s (if c.isSome then raiseHeld (setBit t 0x2E00 0x01 0 true) 0xC040 else t) := by
    intro t c h
    split
    · exact Law.step (Law.step h (law_setBit _ _ _ _ _) rfl) (law_raiseHeld _ _) rfl
    · exact h
  unfold recoverRemap
  dsimp only
  split
  · split
    · exact Law.step (key 0 [] zero) (law_raise _ _) rfl
    · exact key 0 [] zero
  · rename_i a e0 _
    exact lost _ _ (key 1 _ (in0 a e0))
  · rename_i b _ e1
    exact lost _ _ (key 2 _ (in1 b e1))
  · rename_i a b e0 e1
    split
    · exact key 1 _ (in0 a e0)
    · exact key 2 _ (in1 b e1)

theorem law_readRecords (x : State × Reads) : Law 0x288008083f8 x.1 (readRecords x).1 := by
  have run : ∀ (y : State × Reads) (id k : Nat) (c : Option Copy),
      Law 0x288008083f8 y.1 (match c with | some c => recoverRead y (recordPage id k) (recPages c.data.length) | none => y).1 := by
    intro y id k c
    split
    · exact Law.step (Law.refl _ _) (law_recoverRead _ _ _) rfl
    · exact Law.refl _ _
  unfold readRecords
  refine Law.foldl_fst (Law.refl _ _) fun a r => ?_
  exact (run a r.id 0 r.slot0).trans (run _ r.id 1 r.slot1)

theorem law_sealsValid (s : State) (l : List SealMeta) : Law 0x800000 s { s with kiln := { s.kiln with seals := l } } := by
  refine Law.upd' ?_ rfl rfl rfl rfl rfl rfl
  simp only [erase, Nat.testBit, Nat.reduceShiftRight, Nat.reduceAnd, Nat.reduceBNe, bne_self_eq_false, cond_true, cond_false]

theorem law_recoverStorage (s : State) : Law 0x288008083f8 s (recoverStorage s) := by
  unfold recoverStorage
  split
  rename_i s0 l0 e0
  have k0 : Law 0x288008083f8 s s0 := Law.of_fst e0 (Law.step (Law.step (Law.refl _ _) (law_recoverRemap _) rfl) (law_readJournal _) rfl)
  split
  rename_i sr l e1
  have k1 : Law 0x288008083f8 s sr := Law.of_fst e1 ((Law.step k0 (law_recoverJournal _) rfl).trans (law_readRecords (recoverJournal s0, l0)))
  clear e0 e1
  extract_lets s1 ok p0 s2
  have k2 : Law 0x288008083f8 s s1 := Law.step (Law.step (Law.step (Law.step k1 (law_recoverRecords _) rfl) (law_recoverCarry _) rfl) (law_loadEntries _) rfl)
    (law_countRecovery _ _) rfl
  have k3 : Law 0x288008083f8 s s2 := Law.step k2 (law_sealsValid s1 _) rfl
  clear_value s1 s2
  refine Law.step ?_ (law_recoverDisplay _) rfl
  refine Law.step ?_ (law_judgeSpares _) rfl
  split
  · exact Law.step k3 (law_raise _ _) rfl
  · exact k3

theorem law_joinPairs (s : State) : Law 0x60000 s (joinPairs s) := by
  unfold joinPairs
  try dsimp only
  repeat' first
    | with_reducible apply Law.refl
    | with_reducible apply Law.ite
    | with_reducible apply LawO.ite
    | with_reducible apply Law.ite_snd
    | with_reducible apply Law.ite_fst
    | with_reducible apply LawO.next
    | with_reducible apply Law.cond
    | with_reducible apply Law.foldl
    | with_reducible apply Law.foldl_fst
    | with_reducible apply Law.foldl_snd
    | with_reducible apply Law.foldl_third
    | (intro _ _; try dsimp only)
    | (split <;> try dsimp only)
    | ((with_reducible apply Law.put (T := 0x60000)); (fail_if_success (case e => with_reducible rfl)); (case e => simp only [erase, Nat.testBit, Nat.reduceShiftRight, Nat.reduceAnd, Nat.reduceBNe, bne_self_eq_false, cond_true, cond_false]); (case hT => rfl); (case m => rfl))
    | ((with_reducible apply Law.of_snd); (assumption))

theorem law_newFirmware (s : State) : Law 0x8004083b8 s (newFirmware s) := by
  unfold newFirmware
  try dsimp only
  repeat' first
    | with_reducible apply Law.refl
    | ((with_reducible apply Law.step); (case k => with_reducible apply law_requestEvent); (case m => rfl))
    | with_reducible apply Law.ite
    | with_reducible apply LawO.ite
    | with_reducible apply Law.ite_snd
    | with_reducible apply Law.ite_fst
    | with_reducible apply LawO.next
    | with_reducible apply Law.cond
    | with_reducible apply Law.foldl
    | with_reducible apply Law.foldl_fst
    | with_reducible apply Law.foldl_snd
    | with_reducible apply Law.foldl_third
    | (intro _ _; try dsimp only)
    | (split <;> try dsimp only)
    | ((with_reducible apply Law.of_snd); (assumption))

theorem law_recordBackup (s : State) : Law 0x8000083bc s (recordBackup s) := by
  unfold recordBackup
  try dsimp only
  repeat' first
    | with_reducible apply Law.refl
    | ((with_reducible apply Law.step); (case k => with_reducible apply law_saveN); (case m => rfl))
    | with_reducible apply Law.ite
    | with_reducible apply LawO.ite
    | with_reducible apply Law.ite_snd
    | with_reducible apply Law.ite_fst
    | with_reducible apply LawO.next
    | with_reducible apply Law.cond
    | with_reducible apply Law.foldl
    | with_reducible apply Law.foldl_fst
    | with_reducible apply Law.foldl_snd
    | with_reducible apply Law.foldl_third
    | (intro _ _; try dsimp only)
    | (split <;> try dsimp only)
    | ((with_reducible apply Law.put (T := 0x4)); (fail_if_success (case e => with_reducible rfl)); (case e => simp only [erase, Nat.testBit, Nat.reduceShiftRight, Nat.reduceAnd, Nat.reduceBNe, bne_self_eq_false, cond_true, cond_false]); (case hT => rfl); (case m => rfl))
    | ((with_reducible apply Law.of_snd); (assumption))

theorem law_recordFallback (s : State) (fallback : Bool) : Law 0x8002083b9 s (recordFallback s fallback) := by
  unfold recordFallback
  try dsimp only
  repeat' first
    | with_reducible apply Law.refl
    | ((with_reducible apply Law.step); (case k => with_reducible first | apply law_appendAudit | apply law_applyTarget | apply law_raiseHeld); (case m => rfl))
    | with_reducible apply Law.ite
    | with_reducible apply LawO.ite
    | with_reducible apply Law.ite_snd
    | with_reducible apply Law.ite_fst
    | with_reducible apply LawO.next
    | with_reducible apply Law.cond
    | with_reducible apply Law.foldl
    | with_reducible apply Law.foldl_fst
    | with_reducible apply Law.foldl_snd
    | with_reducible apply Law.foldl_third
    | (intro _ _; try dsimp only)
    | (split <;> try dsimp only)
    | ((with_reducible apply Law.put (T := 0x1)); (fail_if_success (case e => with_reducible rfl)); (case e => simp only [erase, Nat.testBit, Nat.reduceShiftRight, Nat.reduceAnd, Nat.reduceBNe, bne_self_eq_false, cond_true, cond_false]); (case hT => rfl); (case m => rfl))
    | ((with_reducible apply Law.of_snd); (assumption))

theorem law_restoreSlots (s : State) (c : Bytes) : Law 0x80000000 s (restoreSlots s c) := by
  unfold restoreSlots
  try dsimp only
  repeat' first
    | with_reducible apply Law.refl
    | ((with_reducible apply Law.step); (case k => with_reducible apply law_updMeter); (case m => rfl))
    | with_reducible apply Law.ite
    | with_reducible apply LawO.ite
    | with_reducible apply Law.ite_snd
    | with_reducible apply Law.ite_fst
    | with_reducible apply LawO.next
    | with_reducible apply Law.cond
    | with_reducible apply Law.foldl
    | with_reducible apply Law.foldl_fst
    | with_reducible apply Law.foldl_snd
    | with_reducible apply Law.foldl_third
    | (intro _ _; try dsimp only)
    | (split <;> try dsimp only)
    | ((with_reducible apply Law.of_snd); (assumption))

theorem law_recordInterrupted (s0 : State) : Law 0x8810083f8 s0 (recordInterrupted s0) := by
  unfold recordInterrupted
  try dsimp only
  repeat' first
    | with_reducible apply Law.refl
    | ((with_reducible apply Law.step); (case k => with_reducible first | apply law_showSaturated | apply law_restoreSlots | apply law_raise | apply law_setN | apply law_appendRecord); (case m => rfl))
    | with_reducible apply Law.ite
    | with_reducible apply LawO.ite
    | with_reducible apply Law.ite_snd
    | with_reducible apply Law.ite_fst
    | with_reducible apply LawO.next
    | with_reducible apply Law.cond
    | with_reducible apply Law.foldl
    | with_reducible apply Law.foldl_fst
    | with_reducible apply Law.foldl_snd
    | with_reducible apply Law.foldl_third
    | (intro _ _; try dsimp only)
    | (split <;> try dsimp only)
    | ((with_reducible apply Law.of_snd); (assumption))

theorem law_recordPowerUp (s : State) (cause : Nat) (cycle : Bool) (lost : Bool) : Law 0x208002083b8 s (recordPowerUp s cause cycle lost) := by
  unfold recordPowerUp
  try dsimp only
  repeat' first
    | with_reducible apply Law.refl
    | ((with_reducible apply Law.step); (case k => with_reducible first | apply law_appendAudit | apply law_addN | apply law_setN | apply law_raise | apply law_setBit | apply law_flushLifetime); (case m => rfl))
    | with_reducible apply Law.ite
    | with_reducible apply LawO.ite
    | with_reducible apply Law.ite_snd
    | with_reducible apply Law.ite_fst
    | with_reducible apply LawO.next
    | with_reducible apply Law.cond
    | with_reducible apply Law.foldl
    | with_reducible apply Law.foldl_fst
    | with_reducible apply Law.foldl_snd
    | with_reducible apply Law.foldl_third
    | (intro _ _; try dsimp only)
    | (split <;> try dsimp only)
    | ((with_reducible apply Law.of_snd); (assumption))

theorem law_recordRetention (s : State) (lost : Bool) : Law 0x8000083be s (recordRetention s lost) := by
  unfold recordRetention
  try dsimp only
  repeat' first
    | with_reducible apply Law.refl
    | ((with_reducible apply Law.step); (case k => with_reducible first | apply law_writeNow | apply law_saveN | apply law_setBit | apply law_setN | apply law_raiseHeld | apply law_thermosWrite); (case m => rfl))
    | with_reducible apply Law.ite
    | with_reducible apply LawO.ite
    | with_reducible apply Law.ite_snd
    | with_reducible apply Law.ite_fst
    | with_reducible apply LawO.next
    | with_reducible apply Law.cond
    | with_reducible apply Law.foldl
    | with_reducible apply Law.foldl_fst
    | with_reducible apply Law.foldl_snd
    | with_reducible apply Law.foldl_third
    | (intro _ _; try dsimp only)
    | (split <;> try dsimp only)
    | ((with_reducible apply Law.put (T := 0x2)); (fail_if_success (case e => with_reducible rfl)); (case e => simp only [erase, Nat.testBit, Nat.reduceShiftRight, Nat.reduceAnd, Nat.reduceBNe, bne_self_eq_false, cond_true, cond_false]); (case hT => rfl); (case m => rfl))
    | ((with_reducible apply Law.of_snd); (assumption))

theorem law_recordTamper (s : State) (lost : Bool) : Law 0x8006083bd s (recordTamper s lost) := by
  unfold recordTamper
  try dsimp only
  repeat' first
    | with_reducible apply Law.refl
    | ((with_reducible apply Law.step); (case k => with_reducible first | apply law_tamperSettings | apply law_raise | apply law_logTamper | apply law_logInput); (case m => rfl))
    | with_reducible apply Law.ite
    | with_reducible apply LawO.ite
    | with_reducible apply Law.ite_snd
    | with_reducible apply Law.ite_fst
    | with_reducible apply LawO.next
    | with_reducible apply Law.cond
    | with_reducible apply Law.foldl
    | with_reducible apply Law.foldl_fst
    | with_reducible apply Law.foldl_snd
    | with_reducible apply Law.foldl_third
    | (intro _ _; try dsimp only)
    | (split <;> try dsimp only)
    | ((with_reducible apply Law.of_snd); (assumption))

theorem law_requeueKept (s : State) : Law 0x8004083b8 s (requeueKept s) := by
  unfold requeueKept
  try dsimp only
  repeat' first
    | with_reducible apply Law.refl
    | ((with_reducible apply Law.step); (case k => with_reducible first | apply law_setQueue | apply law_raise | apply law_saveN); (case m => rfl))
    | with_reducible apply Law.ite
    | with_reducible apply LawO.ite
    | with_reducible apply Law.ite_snd
    | with_reducible apply Law.ite_fst
    | with_reducible apply LawO.next
    | with_reducible apply Law.cond
    | with_reducible apply Law.foldl
    | with_reducible apply Law.foldl_fst
    | with_reducible apply Law.foldl_snd
    | with_reducible apply Law.foldl_third
    | (intro _ _; try dsimp only)
    | (split <;> try dsimp only)
    | ((with_reducible apply Law.of_snd); (assumption))

theorem law_powerHealth (s : State) (p : Power) (h : HealthSt) : Law 0x20000000001 s { s with power := p, health := h } := by
  refine Law.upd rfl ?_
  simp only [erase, Nat.testBit, Nat.reduceShiftRight, Nat.reduceAnd, Nat.reduceBNe, bne_self_eq_false, cond_true, cond_false]

theorem law_showStored (s : State) : Law 0x248001883bb s (showStored s) := by
  unfold showStored
  extract_lets s1 s2 s3 s4 s5 s6 op p0 p1 s7 s8
  have h1 : Law 0x248001883bb s s1 := Law.foldl (Law.refl _ _) fun a r => Law.ite (Law.step (Law.refl _ _) (law_raiseHeld _ _) rfl) (Law.refl _ _)
  clear_value s1
  have h2 : Law 0x248001883bb s s2 := Law.foldl (Law.foldl h1 fun a r => Law.step (Law.refl _ _) (law_judgeTable _ _) rfl)
    fun a r => Law.step (Law.refl _ _) (law_judgeFluid _ _) rfl
  clear_value s2
  have h3 : Law 0x248001883bb s s3 := Law.step (Law.step h2 (law_showTariff _) rfl) (law_showCounters _) rfl
  clear_value s3
  have h4 : Law 0x248001883bb s s4 := Law.foldl h3 fun a r => Law.ite (Law.step (Law.refl _ _) (law_setN _ _ _ _) rfl) (Law.refl _ _)
  clear_value s4
  have h5 : Law 0x248001883bb s s5 := by
    refine Law.foldl h4 fun a r => ?_
    split
    · exact Law.step (Law.step (Law.step (Law.refl _ _) (law_setN _ _ _ _) rfl) (law_setN _ _ _ _) rfl) (law_setN _ _ _ _) rfl
    · exact Law.refl _ _
  clear_value s5
  have h6 : Law 0x248001883bb s s6 := Law.foldl h5 fun a r => Law.step (Law.refl _ _) (law_setN _ _ _ _) rfl
  clear_value s6
  have h7 : Law 0x248001883bb s s7 := Law.step h6 (law_powerHealth s6 _ _) rfl
  clear_value s7
  have h8 : Law 0x248001883bb s s8 := by
    refine Law.foldl (Law.step (Law.step h7 (law_roleWritten _) rfl) (law_refreshLocal _) rfl) fun a r => ?_
    exact Law.step (Law.step (Law.refl _ _) (law_updAlarm _ _ _) rfl) (law_planAlarm _ _ _) rfl
  clear_value s8
  exact Law.step h8 (law_judgeTrust _) rfl

theorem law_startDisplay (s : State) : Law 0x8000008208 s (startDisplay s) := by
  unfold startDisplay
  try dsimp only
  repeat' first
    | with_reducible apply Law.refl
    | ((with_reducible apply Law.step); (case k => with_reducible first | apply law_raiseHeld | apply law_loseImage | apply law_setN | apply law_showDisplay | apply law_displayEnable); (case m => rfl))
    | with_reducible apply Law.ite
    | with_reducible apply LawO.ite
    | with_reducible apply Law.ite_snd
    | with_reducible apply Law.ite_fst
    | with_reducible apply LawO.next
    | with_reducible apply Law.cond
    | with_reducible apply Law.foldl
    | with_reducible apply Law.foldl_fst
    | with_reducible apply Law.foldl_snd
    | with_reducible apply Law.foldl_third
    | (intro _ _; try dsimp only)
    | (split <;> try dsimp only)
    | ((with_reducible apply Law.of_snd); (assumption))

theorem law_startIndicators (s : State) : Law 0x10000000008 s (startIndicators s) := by
  unfold startIndicators
  try dsimp only
  repeat' first
    | with_reducible apply Law.refl
    | ((with_reducible apply Law.step); (case k => with_reducible apply law_setB); (case m => rfl))
    | with_reducible apply Law.ite
    | with_reducible apply LawO.ite
    | with_reducible apply Law.ite_snd
    | with_reducible apply Law.ite_fst
    | with_reducible apply LawO.next
    | with_reducible apply Law.cond
    | with_reducible apply Law.foldl
    | with_reducible apply Law.foldl_fst
    | with_reducible apply Law.foldl_snd
    | with_reducible apply Law.foldl_third
    | (intro _ _; try dsimp only)
    | (split <;> try dsimp only)
    | ((with_reducible apply Law.put (T := 0x10000000000)); (fail_if_success (case e => with_reducible rfl)); (case e => simp only [erase, Nat.testBit, Nat.reduceShiftRight, Nat.reduceAnd, Nat.reduceBNe, bne_self_eq_false, cond_true, cond_false]); (case hT => rfl); (case m => rfl))
    | ((with_reducible apply Law.of_snd); (assumption))

theorem law_startLoops (s : State) : Law 0x404008208 s (startLoops s) := by
  unfold startLoops
  try dsimp only
  repeat' first
    | with_reducible apply Law.refl
    | ((with_reducible apply Law.step); (case k => with_reducible first | apply law_setN | apply law_repIdle | apply law_updLoop | apply law_groupIdle); (case m => rfl))
    | with_reducible apply Law.ite
    | with_reducible apply LawO.ite
    | with_reducible apply Law.ite_snd
    | with_reducible apply Law.ite_fst
    | with_reducible apply LawO.next
    | with_reducible apply Law.cond
    | with_reducible apply Law.foldl
    | with_reducible apply Law.foldl_fst
    | with_reducible apply Law.foldl_snd
    | with_reducible apply Law.foldl_third
    | (intro _ _; try dsimp only)
    | (split <;> try dsimp only)
    | ((with_reducible apply Law.of_snd); (assumption))

theorem law_startPorts (s : State) : Law 0x4000008 s (startPorts s) := by
  unfold startPorts
  try dsimp only
  repeat' first
    | with_reducible apply Law.refl
    | ((with_reducible apply Law.step); (case k => with_reducible apply law_modeEnable); (case m => rfl))
    | with_reducible apply Law.ite
    | with_reducible apply LawO.ite
    | with_reducible apply Law.ite_snd
    | with_reducible apply Law.ite_fst
    | with_reducible apply LawO.next
    | with_reducible apply Law.cond
    | with_reducible apply Law.foldl
    | with_reducible apply Law.foldl_fst
    | with_reducible apply Law.foldl_snd
    | with_reducible apply Law.foldl_third
    | (intro _ _; try dsimp only)
    | (split <;> try dsimp only)
    | ((with_reducible apply Law.of_snd); (assumption))

theorem law_startFirmware (s : State) (cause : Nat) (n : Nat) (cycle : Bool) (lost : Bool) (fallback : Bool) : Law 0x3ccfd7f83ff s (startFirmware s cause n cycle lost fallback) := by
  unfold startFirmware
  try dsimp only
  repeat' first
    | with_reducible apply Law.refl
    | ((with_reducible apply Law.step); (case k => with_reducible first | apply law_recordBackup | apply law_recordPowerUp | apply law_thermosWrite | apply law_recordRetention | apply law_requeueKept | apply law_newFirmware | apply law_epochSeal | apply law_recordFallback | apply law_recordTamper | apply law_dirtyStart | apply law_recordInterrupted | apply law_startPorts | apply law_startLoops | apply law_joinPairs | apply law_showStored | apply law_showTime | apply law_trackPaths | apply law_startIndicators | apply law_startDisplay | apply law_startConverters); (case m => rfl))
    | with_reducible apply Law.ite
    | with_reducible apply LawO.ite
    | with_reducible apply Law.ite_snd
    | with_reducible apply Law.ite_fst
    | with_reducible apply LawO.next
    | with_reducible apply Law.cond
    | with_reducible apply Law.foldl
    | with_reducible apply Law.foldl_fst
    | with_reducible apply Law.foldl_snd
    | with_reducible apply Law.foldl_third
    | (intro _ _; try dsimp only)
    | (split <;> try dsimp only)
    | ((with_reducible apply Law.put (T := 0x1)); (fail_if_success (case e => with_reducible rfl)); (case e => simp only [erase, Nat.testBit, Nat.reduceShiftRight, Nat.reduceAnd, Nat.reduceBNe, bne_self_eq_false, cond_true, cond_false]); (case hT => rfl); (case m => rfl))
    | ((with_reducible apply Law.of_snd); (assumption))

theorem law_startWarned (s : State) : Law 0x8000008200 s (startWarned s) := by
  unfold startWarned
  try dsimp only
  repeat' first
    | with_reducible apply Law.refl
    | ((with_reducible apply Law.step); (case k => with_reducible first | apply law_raiseHeld | apply law_displayStop); (case m => rfl))
    | with_reducible apply Law.ite
    | with_reducible apply LawO.ite
    | with_reducible apply Law.ite_snd
    | with_reducible apply Law.ite_fst
    | with_reducible apply LawO.next
    | with_reducible apply Law.cond
    | with_reducible apply Law.foldl
    | with_reducible apply Law.foldl_fst
    | with_reducible apply Law.foldl_snd
    | with_reducible apply Law.foldl_third
    | (intro _ _; try dsimp only)
    | (split <;> try dsimp only)
    | ((with_reducible apply Law.of_snd); (assumption))

theorem law_thermosCheck (s : State) (lost : Bool) : Law 0x6 s (thermosCheck s lost) := by
  unfold thermosCheck
  try dsimp only
  repeat' first
    | with_reducible apply Law.refl
    | with_reducible apply Law.ite
    | with_reducible apply LawO.ite
    | with_reducible apply Law.ite_snd
    | with_reducible apply Law.ite_fst
    | with_reducible apply LawO.next
    | with_reducible apply Law.cond
    | with_reducible apply Law.foldl
    | with_reducible apply Law.foldl_fst
    | with_reducible apply Law.foldl_snd
    | with_reducible apply Law.foldl_third
    | (intro _ _; try dsimp only)
    | (split <;> try dsimp only)
    | ((with_reducible apply Law.put (T := 0x6)); (fail_if_success (case e => with_reducible rfl)); (case e => simp only [erase, Nat.testBit, Nat.reduceShiftRight, Nat.reduceAnd, Nat.reduceBNe, bne_self_eq_false, cond_true, cond_false]); (case hT => rfl); (case m => rfl))
    | ((with_reducible apply Law.of_snd); (assumption))

theorem law_startUpPower (s : State) (p : Power) : Law 0x1 s { s with power := p } := by
  refine Law.upd rfl ?_
  simp only [erase, Nat.testBit, Nat.reduceShiftRight, Nat.reduceAnd, Nat.reduceBNe, bne_self_eq_false, cond_true, cond_false]

theorem law_startUpKey (s : State) (b : Bool) : Law 0x1000000 s { s with kiln := { s.kiln with keyFault := b } } := by
  refine Law.upd' ?_ rfl rfl rfl rfl rfl rfl
  simp only [erase, Nat.testBit, Nat.reduceShiftRight, Nat.reduceAnd, Nat.reduceBNe, bne_self_eq_false, cond_true, cond_false]

theorem law_startUp (s : State) (cause : Nat) (cycles : Nat) (cycle : Bool) (checkOk : Bool) (keyOk : Bool) : Law 0x3ccfdff83ff s (startUp s cause cycles cycle checkOk keyOk) := by
  unfold startUp
  extract_lets s1 mm lost p0 s2 good q0 s3 s4
  have h1 : Law 0x3ccfdff83ff s s1 := Law.step (Law.refl _ _) (law_rtcRun _ _) rfl
  clear_value s1
  have h2 : Law 0x3ccfdff83ff s s2 :=
    Law.step (Law.step (Law.step (Law.step h1 (law_startUpPower s1 _) rfl) (law_thermosCheck _ _) rfl) (law_recoverStorage _) rfl)
      (law_recordStart _ _ _) rfl
  clear_value s2
  have h3 : Law 0x3ccfdff83ff s s3 := Law.step h2 (law_startUpKey s2 _) rfl
  clear_value s3
  have h4 : Law 0x3ccfdff83ff s s4 := Law.ite h3 (Law.step h3 (law_raiseHeld _ _) rfl)
  clear_value s4
  have h5 := h4.step (law_bootSelect s4) rfl
  split
  · rename_i e
    rw [e] at h5
    exact Law.step (Law.step h5 (law_startFirmware _ _ _ _ _ _) rfl) (law_startWarned _) rfl
  · rename_i e
    rw [e] at h5
    exact Law.step (Law.step (Law.step h5 (law_startUpPower _ _) rfl) (law_enterRecovery _ _) rfl) (law_startWarned _) rfl

theorem law_execStartUp (cycles : Nat) (checkOk : Bool) (keyOk : Bool) (s : State) : LawO 0x3ccfdffe3ff s (execStartUp cycles checkOk keyOk s) := by
  unfold execStartUp
  try dsimp only
  repeat' first
    | with_reducible apply Law.refl
    | ((with_reducible apply Law.step); (case k => with_reducible apply law_startUp); (case m => rfl))
    | ((with_reducible apply law_doneIf_of); (case m => rfl))
    | with_reducible apply Law.ite
    | with_reducible apply LawO.ite
    | with_reducible apply Law.ite_snd
    | with_reducible apply Law.ite_fst
    | with_reducible apply LawO.next
    | with_reducible apply Law.cond
    | with_reducible apply Law.foldl
    | with_reducible apply Law.foldl_fst
    | with_reducible apply Law.foldl_snd
    | with_reducible apply Law.foldl_third
    | (intro _ _; try dsimp only)
    | (split <;> try dsimp only)
    | ((with_reducible apply Law.of_snd); (assumption))

theorem law_execThermalRestart (temp : Int) (cycles : Nat) (checkOk : Bool) (keyOk : Bool) (s : State) : LawO 0x3ccfdffe3ff s (execThermalRestart temp cycles checkOk keyOk s) := by
  unfold execThermalRestart
  try dsimp only
  repeat' first
    | with_reducible apply Law.refl
    | ((with_reducible apply Law.step); (case k => with_reducible apply law_startUp); (case m => rfl))
    | ((with_reducible apply law_doneIf_of); (case m => rfl))
    | with_reducible apply Law.ite
    | with_reducible apply LawO.ite
    | with_reducible apply Law.ite_snd
    | with_reducible apply Law.ite_fst
    | with_reducible apply LawO.next
    | with_reducible apply Law.cond
    | with_reducible apply Law.foldl
    | with_reducible apply Law.foldl_fst
    | with_reducible apply Law.foldl_snd
    | with_reducible apply Law.foldl_third
    | (intro _ _; try dsimp only)
    | (split <;> try dsimp only)
    | ((with_reducible apply Law.of_snd); (assumption))

end Sys2Proof.Machine
end

