-- ==== Sys2Proof/Laws/FrameKdp.lean ====
section
/-! SUPPORT. What each function of Machine/Kdp.lean may touch. -/

namespace Sys2Proof.Machine

theorem law_closeTransfer (s : State) (who : Requester) (tag : Nat) : Law 0x800 s (closeTransfer s who tag) := by
  unfold closeTransfer
  try dsimp only
  repeat' first
    | with_reducible apply Law.refl
    | with_reducible apply Law.ite
    | with_reducible apply LawO.ite
    | with_reducible apply Law.ite_snd
    | with_reducible apply Law.ite_fst
    | with_reducible apply LawO.next
    | with_reducible apply Law.cond
    | with_reducible apply Law.foldl
    | with_reducible apply Law.foldl_fst
    | with_reducible apply Law.foldl_snd
    | with_reducible apply Law.foldl_third
    | (intro _ _; try dsimp only)
    | (split <;> try dsimp only)
    | ((with_reducible apply Law.put (T := 0x800)); (fail_if_success (case e => with_reducible rfl)); (case e => simp only [erase, Nat.testBit, Nat.reduceShiftRight, Nat.reduceAnd, Nat.reduceBNe, bne_self_eq_false, cond_true, cond_false]); (case hT => rfl); (case m => rfl))
    | ((with_reducible apply Law.of_snd); (assumption))

theorem law_dropTransfer (s : State) (who : Requester) (tag : Nat) : Law 0x10800 s (dropTransfer s who tag) := by
  unfold dropTransfer
  try dsimp only
  repeat' first
    | with_reducible apply Law.refl
    | ((with_reducible apply Law.step); (case k => with_reducible first | apply law_withdraw | apply law_closeTransfer); (case m => rfl))
    | with_reducible apply Law.ite
    | with_reducible apply LawO.ite
    | with_reducible apply Law.ite_snd
    | with_reducible apply Law.ite_fst
    | with_reducible apply LawO.next
    | with_reducible apply Law.cond
    | with_reducible apply Law.foldl
    | with_reducible apply Law.foldl_fst
    | with_reducible apply Law.foldl_snd
    | with_reducible apply Law.foldl_third
    | (intro _ _; try dsimp only)
    | (split <;> try dsimp only)
    | ((with_reducible apply Law.of_snd); (assumption))

theorem law_abortOp (s : State) (m : KdpReq) : Law 0x10800 s (abortOp s m) := by
  unfold abortOp
  try dsimp only
  repeat' first
    | with_reducible apply Law.refl
    | ((with_reducible apply Law.step); (case k => with_reducible apply law_dropTransfer); (case m => rfl))
    | with_reducible apply Law.ite
    | with_reducible apply LawO.ite
    | with_reducible apply Law.ite_snd
    | with_reducible apply Law.ite_fst
    | with_reducible apply LawO.next
    | with_reducible apply Law.cond
    | with_reducible apply Law.foldl
    | with_reducible apply Law.foldl_fst
    | with_reducible apply Law.foldl_snd
    | with_reducible apply Law.foldl_third
    | (intro _ _; try dsimp only)
    | (split <;> try dsimp only)
    | ((with_reducible apply Law.of_snd); (assumption))

theorem law_sendFor (s : State) (t : Transfer) (op : Nat) (flags : Nat) (seq : Nat) (cls : Nat) (pay : Bytes) : Law 0x12000 s (sendFor s t op flags seq cls pay) := by
  unfold sendFor
  try dsimp only
  repeat' first
    | with_reducible apply Law.refl
    | ((with_reducible apply Law.step); (case k => with_reducible first | apply law_pushService | apply law_pushFrame); (case m => rfl))
    | with_reducible apply Law.ite
    | with_reducible apply LawO.ite
    | with_reducible apply Law.ite_snd
    | with_reducible apply Law.ite_fst
    | with_reducible apply LawO.next
    | with_reducible apply Law.cond
    | with_reducible apply Law.foldl
    | with_reducible apply Law.foldl_fst
    | with_reducible apply Law.foldl_snd
    | with_reducible apply Law.foldl_third
    | (intro _ _; try dsimp only)
    | (split <;> try dsimp only)
    | ((with_reducible apply Law.of_snd); (assumption))

theorem law_abortReply (s : State) (m : KdpReq) (code : Nat) : Law 0x12000 s (abortReply s m code) := by
  unfold abortReply
  try dsimp only
  repeat' first
    | with_reducible apply Law.refl
    | ((with_reducible apply Law.step); (case k => with_reducible apply law_sendFor); (case m => rfl))
    | with_reducible apply Law.ite
    | with_reducible apply LawO.ite
    | with_reducible apply Law.ite_snd
    | with_reducible apply Law.ite_fst
    | with_reducible apply LawO.next
    | with_reducible apply Law.cond
    | with_reducible apply Law.foldl
    | with_reducible apply Law.foldl_fst
    | with_reducible apply Law.foldl_snd
    | with_reducible apply Law.foldl_third
    | (intro _ _; try dsimp only)
    | (split <;> try dsimp only)
    | ((with_reducible apply Law.of_snd); (assumption))

theorem law_sendSegments (s : State) (t : Transfer) (v : Bytes) (first : Nat) (last : Nat) : Law 0x12000 s (sendSegments s t v first last) := by
  unfold sendSegments
  try dsimp only
  repeat' first
    | with_reducible apply Law.refl
    | ((with_reducible apply Law.step); (case k => with_reducible apply law_sendFor); (case m => rfl))
    | with_reducible apply Law.ite
    | with_reducible apply LawO.ite
    | with_reducible apply Law.ite_snd
    | with_reducible apply Law.ite_fst
    | with_reducible apply LawO.next
    | with_reducible apply Law.cond
    | with_reducible apply Law.foldl
    | with_reducible apply Law.foldl_fst
    | with_reducible apply Law.foldl_snd
    | with_reducible apply Law.foldl_third
    | (intro _ _; try dsimp only)
    | (split <;> try dsimp only)
    | ((with_reducible apply Law.of_snd); (assumption))

theorem law_updTransfer (s : State) (who : Requester) (tag : Nat) (f : Transfer → Transfer) : Law 0x800 s (updTransfer s who tag f) := by
  unfold updTransfer
  try dsimp only
  repeat' first
    | with_reducible apply Law.refl
    | with_reducible apply Law.ite
    | with_reducible apply LawO.ite
    | with_reducible apply Law.ite_snd
    | with_reducible apply Law.ite_fst
    | with_reducible apply LawO.next
    | with_reducible apply Law.cond
    | with_reducible apply Law.foldl
    | with_reducible apply Law.foldl_fst
    | with_reducible apply Law.foldl_snd
    | with_reducible apply Law.foldl_third
    | (intro _ _; try dsimp only)
    | (split <;> try dsimp only)
    | ((with_reducible apply Law.put (T := 0x800)); (fail_if_success (case e => with_reducible rfl)); (case e => simp only [erase, Nat.testBit, Nat.reduceShiftRight, Nat.reduceAnd, Nat.reduceBNe, bne_self_eq_false, cond_true, cond_false]); (case hT => rfl); (case m => rfl))
    | ((with_reducible apply Law.of_snd); (assumption))

theorem law_takeAck (s : State) (t : Transfer) (m : KdpReq) (v : Bytes) (acked : Nat) (sent : Nat) (limit : Nat) : Law 0x1012800 s (takeAck s t m v acked sent limit) := by
  unfold takeAck
  try dsimp only
  repeat' first
    | with_reducible apply Law.refl
    | ((with_reducible apply Law.step); (case k => with_reducible first | apply law_closeTransfer | apply law_dropStatement | apply law_updTransfer | apply law_sendSegments); (case m => rfl))
    | with_reducible apply Law.ite
    | with_reducible apply LawO.ite
    | with_reducible apply Law.ite_snd
    | with_reducible apply Law.ite_fst
    | with_reducible apply LawO.next
    | with_reducible apply Law.cond
    | with_reducible apply Law.foldl
    | with_reducible apply Law.foldl_fst
    | with_reducible apply Law.foldl_snd
    | with_reducible apply Law.foldl_third
    | (intro _ _; try dsimp only)
    | (split <;> try dsimp only)
    | ((with_reducible apply Law.of_snd); (assumption))

theorem law_ackOp (s : State) (m : KdpReq) : Law 0x1012800 s (ackOp s m) := by
  unfold ackOp
  try dsimp only
  repeat' first
    | with_reducible apply Law.refl
    | ((with_reducible apply Law.step); (case k => with_reducible apply law_takeAck); (case m => rfl))
    | with_reducible apply Law.ite
    | with_reducible apply LawO.ite
    | with_reducible apply Law.ite_snd
    | with_reducible apply Law.ite_fst
    | with_reducible apply LawO.next
    | with_reducible apply Law.cond
    | with_reducible apply Law.foldl
    | with_reducible apply Law.foldl_fst
    | with_reducible apply Law.foldl_snd
    | with_reducible apply Law.foldl_third
    | (intro _ _; try dsimp only)
    | (split <;> try dsimp only)
    | ((with_reducible apply Law.of_snd); (assumption))

theorem law_okReply (s : State) (m : KdpReq) (flags : Nat) (pay : Bytes) : Law 0x12000 s (okReply s m flags pay) := by
  unfold okReply
  try dsimp only
  repeat' first
    | with_reducible apply Law.refl
    | ((with_reducible apply Law.step); (case k => with_reducible apply law_sendFor); (case m => rfl))
    | with_reducible apply Law.ite
    | with_reducible apply LawO.ite
    | with_reducible apply Law.ite_snd
    | with_reducible apply Law.ite_fst
    | with_reducible apply LawO.next
    | with_reducible apply Law.cond
    | with_reducible apply Law.foldl
    | with_reducible apply Law.foldl_fst
    | with_reducible apply Law.foldl_snd
    | with_reducible apply Law.foldl_third
    | (intro _ _; try dsimp only)
    | (split <;> try dsimp only)
    | ((with_reducible apply Law.of_snd); (assumption))

theorem law_describeOp (s : State) (m : KdpReq) : Law 0x12000 s (describeOp s m) := by
  unfold describeOp
  try dsimp only
  repeat' first
    | with_reducible apply Law.refl
    | ((with_reducible apply Law.step); (case k => with_reducible first | apply law_abortReply | apply law_okReply); (case m => rfl))
    | with_reducible apply Law.ite
    | with_reducible apply LawO.ite
    | with_reducible apply Law.ite_snd
    | with_reducible apply Law.ite_fst
    | with_reducible apply LawO.next
    | with_reducible apply Law.cond
    | with_reducible apply Law.foldl
    | with_reducible apply Law.foldl_fst
    | with_reducible apply Law.foldl_snd
    | with_reducible apply Law.foldl_third
    | (intro _ _; try dsimp only)
    | (split <;> try dsimp only)
    | ((with_reducible apply Law.of_snd); (assumption))

theorem law_openTransfer (s : State) (t : Transfer) : Law 0x800 s (openTransfer s t) := by
  unfold openTransfer
  try dsimp only
  repeat' first
    | with_reducible apply Law.refl
    | with_reducible apply Law.ite
    | with_reducible apply LawO.ite
    | with_reducible apply Law.ite_snd
    | with_reducible apply Law.ite_fst
    | with_reducible apply LawO.next
    | with_reducible apply Law.cond
    | with_reducible apply Law.foldl
    | with_reducible apply Law.foldl_fst
    | with_reducible apply Law.foldl_snd
    | with_reducible apply Law.foldl_third
    | (intro _ _; try dsimp only)
    | (split <;> try dsimp only)
    | ((with_reducible apply Law.put (T := 0x800)); (fail_if_success (case e => with_reducible rfl)); (case e => simp only [erase, Nat.testBit, Nat.reduceShiftRight, Nat.reduceAnd, Nat.reduceBNe, bne_self_eq_false, cond_true, cond_false]); (case hT => rfl); (case m => rfl))
    | ((with_reducible apply Law.of_snd); (assumption))

theorem law_initiateOp (s : State) (m : KdpReq) : Law 0x12808 s (initiateOp s m) := by
  unfold initiateOp
  try dsimp only
  repeat' first
    | with_reducible apply Law.refl
    | ((with_reducible apply Law.step); (case k => with_reducible first | apply law_abortReply | apply law_openTransfer | apply law_okReply); (case m => rfl))
    | with_reducible apply Law.ite
    | with_reducible apply LawO.ite
    | with_reducible apply Law.ite_snd
    | with_reducible apply Law.ite_fst
    | with_reducible apply LawO.next
    | with_reducible apply Law.cond
    | with_reducible apply Law.foldl
    | with_reducible apply Law.foldl_fst
    | with_reducible apply Law.foldl_snd
    | with_reducible apply Law.foldl_third
    | (intro _ _; try dsimp only)
    | (split <;> try dsimp only)
    | ((with_reducible apply Law.of_snd); (assumption))

theorem law_expireSnaps (s : State) : Law 0x400 s (expireSnaps s) := by
  unfold expireSnaps
  refine Law.putE (Law.refl _ _) ?_ ?_ (U := 0x400) (T := 0x400) rfl
  · simp only [erase, Nat.testBit, Nat.reduceShiftRight, Nat.reduceAnd, Nat.reduceBNe, bne_self_eq_false, cond_true, cond_false]
  · exact ⟨id, id, fun h => Nat.le_trans (List.length_filter_le _ _) h, id, Nat.le_refl _, Nat.le_refl _⟩

theorem law_forgetSnap (s : State) (who : Requester) (g : Nat) : Law 0x400 s (forgetSnap s who g) := by
  unfold forgetSnap
  refine Law.putE (Law.refl _ _) ?_ ?_ (U := 0x400) (T := 0x400) rfl
  · simp only [erase, Nat.testBit, Nat.reduceShiftRight, Nat.reduceAnd, Nat.reduceBNe, bne_self_eq_false, cond_true, cond_false]
  · exact ⟨id, id, fun h => Nat.le_trans (List.length_filter_le _ _) h, id, Nat.le_refl _, Nat.le_refl _⟩

theorem law_evictSnap (s : State) : Law 0x408 s (evictSnap s) := by
  unfold evictSnap
  split
  · exact Law.refl _ _
  split
  · exact Law.refl _ _
  rename_i x _
  dsimp only
  refine Law.step ?_ (law_addN _ _ _ _) rfl
  refine Law.put' (T := 0x400) (Law.step (Law.refl _ _) (law_forgetSnap s x.who x.group) rfl) ?_ rfl rfl rfl rfl rfl rfl rfl
  simp only [erase, Nat.testBit, Nat.reduceShiftRight, Nat.reduceAnd, Nat.reduceBNe, bne_self_eq_false, cond_true, cond_false]

/-- The least element by a key is an element. -/
theorem lowestBy_mem {α : Type} (key : α → Nat) (l : List α) {x : α} (h : lowestBy key l = some x) : x ∈ l := by
  have g : ∀ (r : List α) (a : Option α),
      r.foldl (fun a x => match a with | none => some x | some y => if key x < key y then some x else some y) a = some x → a = some x ∨ x ∈ r := by
    intro r
    induction r with
    | nil => intro a e; exact .inl e
    | cons y r ih =>
      intro a e
      rcases ih _ e with k | k
      · cases a with
        | none => exact .inr (by simp_all)
        | some z =>
          dsimp only at k
          split at k
          · exact .inr (by simp_all)
          · exact .inl k
      · exact .inr (List.mem_cons_of_mem _ k)
  rcases g l none h with k | k
  · cases k
  · exact k

/-- An element found by its key exists in a list that is not empty. -/
theorem lowestBy_none {α : Type} (key : α → Nat) (l : List α) (h : lowestBy key l = none) : l = [] := by
  have g : ∀ (r : List α) (a : Option α),
      r.foldl (fun a x => match a with | none => some x | some y => if key x < key y then some x else some y) a = none → a = none ∧ r = [] := by
    intro r
    induction r with
    | nil => intro a e; exact ⟨e, rfl⟩
    | cons y r ih =>
      intro a e
      have k := (ih _ e).1
      cases a with
      | none => cases k
      | some z =>
        dsimp only at k
        split at k <;> cases k
  exact (g l none h).2

/-- After an eviction there is room for one more snapshot. -/
theorem evictSnap_room (s : State) (h : s.kdp.snaps.length ≤ 8) : (evictSnap s).kdp.snaps.length < 8 := by
  unfold evictSnap
  split
  · assumption
  rename_i n
  split
  · rename_i e
    rw [lowestBy_none _ _ e]
    decide
  · rename_i x e
    have m := lowestBy_mem _ _ e
    dsimp only
    rw [(law_addN _ _ _ _).snaps_eq rfl]
    have q : (s.kdp.snaps.filter fun y => !(y.who == x.who && y.group == x.group)).length < s.kdp.snaps.length := by
      refine List.length_filter_lt_length_iff_exists.mpr ⟨x, m, ?_⟩
      simp
    exact Nat.lt_of_lt_of_le q h

theorem law_freezeGroup (s : State) (who : Requester) (ms : List (Nat × Nat)) : Law 0x40000000408 s (freezeGroup s who ms) := by
  unfold freezeGroup
  dsimp only
  have h0 : Law 0x40000000408 s (forgetSnap s who (groupKey ms)) := Law.step (Law.refl _ _) (law_forgetSnap s who (groupKey ms)) rfl
  generalize forgetSnap s who (groupKey ms) = s0 at *
  have h1 : Law 0x40000000408 s0 (evictSnap s0) := Law.step (Law.refl _ _) (law_evictSnap s0) rfl
  have r := evictSnap_room s0
  generalize evictSnap s0 = s1 at *
  refine h0.trans ⟨Eq.trans ?_ h1.frame, h1.evolves.mem, h1.evolves.ents, fun h => ?_, h1.evolves.spares, h1.evolves.audit,
    h1.evolves.counter⟩
  · simp only [erase, Nat.testBit, Nat.reduceShiftRight, Nat.reduceAnd, Nat.reduceBNe, bne_self_eq_false, cond_true, cond_false]
  · have := r h
    simp only [List.length_append, List.length_singleton]
    omega

theorem law_groupTaken (s : State) (g : Nat) : Law 0x8 s (groupTaken s g) := by
  unfold groupTaken
  try dsimp only
  repeat' first
    | with_reducible apply Law.refl
    | ((with_reducible apply Law.step); (case k => with_reducible apply law_setBit); (case m => rfl))
    | with_reducible apply Law.ite
    | with_reducible apply LawO.ite
    | with_reducible apply Law.ite_snd
    | with_reducible apply Law.ite_fst
    | with_reducible apply LawO.next
    | with_reducible apply Law.cond
    | with_reducible apply Law.foldl
    | with_reducible apply Law.foldl_fst
    | with_reducible apply Law.foldl_snd
    | with_reducible apply Law.foldl_third
    | (intro _ _; try dsimp only)
    | (split <;> try dsimp only)
    | ((with_reducible apply Law.of_snd); (assumption))

theorem law_sealFails (s : State) (seq : Nat) : Law 0x808200 s (sealFails s seq) := by
  unfold sealFails
  try dsimp only
  repeat' first
    | with_reducible apply Law.refl
    | ((with_reducible apply Law.step); (case k => with_reducible apply law_raise); (case m => rfl))
    | with_reducible apply Law.ite
    | with_reducible apply LawO.ite
    | with_reducible apply Law.ite_snd
    | with_reducible apply Law.ite_fst
    | with_reducible apply LawO.next
    | with_reducible apply Law.cond
    | with_reducible apply Law.foldl
    | with_reducible apply Law.foldl_fst
    | with_reducible apply Law.foldl_snd
    | with_reducible apply Law.foldl_third
    | (intro _ _; try dsimp only)
    | (split <;> try dsimp only)
    | ((with_reducible apply Law.put (T := 0x800000)); (fail_if_success (case e => with_reducible rfl)); (case e => simp only [erase, Nat.testBit, Nat.reduceShiftRight, Nat.reduceAnd, Nat.reduceBNe, bne_self_eq_false, cond_true, cond_false]); (case hT => rfl); (case m => rfl))
    | ((with_reducible apply Law.of_snd); (assumption))

theorem law_readNow (s : State) (who : Requester) (index : Nat) (sub : Nat) (ecc : Nat) : Law 0x608008083b8 s (readNow s who index sub ecc).2 := by
  unfold readNow
  try dsimp only
  repeat' first
    | with_reducible apply Law.refl
    | ((with_reducible apply Law.step); (case k => with_reducible first | apply law_inspectPage | apply law_sealFails | apply law_refusedRead | apply law_readRuns | apply law_loadShows); (case m => rfl))
    | ((with_reducible apply Law.step); (case k => (with_reducible apply Law.of_snd; (assumption); with_reducible apply law_readRuns)); (case m => rfl))
    | with_reducible apply Law.ite
    | with_reducible apply LawO.ite
    | with_reducible apply Law.ite_snd
    | with_reducible apply Law.ite_fst
    | with_reducible apply LawO.next
    | with_reducible apply Law.cond
    | with_reducible apply Law.foldl
    | with_reducible apply Law.foldl_fst
    | with_reducible apply Law.foldl_snd
    | with_reducible apply Law.foldl_third
    | (intro _ _; try dsimp only)
    | (split <;> try dsimp only)
    | ((with_reducible apply Law.put (T := 0x40000000000)); (fail_if_success (case e => with_reducible rfl)); (case e => simp only [erase, Nat.testBit, Nat.reduceShiftRight, Nat.reduceAnd, Nat.reduceBNe, bne_self_eq_false, cond_true, cond_false]); (case hT => rfl); (case m => rfl))
    | ((with_reducible apply Law.of_snd); (assumption))

theorem law_kdpRead (s0 : State) (who : Requester) (index : Nat) (sub : Nat) (ecc : Nat) : Law 0x608008087b8 s0 (kdpRead s0 who index sub ecc).2 := by
  unfold kdpRead
  try dsimp only
  repeat' first
    | with_reducible apply Law.refl
    | ((with_reducible apply Law.step); (case k => with_reducible first | apply law_expireSnaps | apply law_readNow | apply law_freezeGroup | apply law_groupTaken | apply law_forgetSnap); (case m => rfl))
    | ((with_reducible apply Law.step); (case k => (with_reducible apply Law.of_snd; (assumption); with_reducible apply law_readNow)); (case m => rfl))
    | with_reducible apply Law.ite
    | with_reducible apply LawO.ite
    | with_reducible apply Law.ite_snd
    | with_reducible apply Law.ite_fst
    | with_reducible apply LawO.next
    | with_reducible apply Law.cond
    | with_reducible apply Law.foldl
    | with_reducible apply Law.foldl_fst
    | with_reducible apply Law.foldl_snd
    | with_reducible apply Law.foldl_third
    | (intro _ _; try dsimp only)
    | (split <;> try dsimp only)
    | ((with_reducible apply Law.of_snd); (assumption))

theorem law_valueReply_of {T : Nat} {b s : State} {q : KdpReq} {limit : Nat} {v : Bytes} (h : Law T b s) (m : inside 0x12800 T = true) :
    Law T b (valueReply b s q limit v) := by
  unfold valueReply
  dsimp only
  repeat' split
  · exact Law.step h (Law.step (U := 0x12800) (Law.refl _ _) (law_okReply _ _ _ _) rfl) m
  · exact Law.step (Law.refl _ _) (Law.step (U := 0x12800) (Law.refl _ _) (law_abortReply _ _ _) rfl) m
  · exact Law.step h (Law.step (U := 0x12800) (Law.step (Law.refl _ _) (law_okReply _ _ _ _) rfl) (law_openTransfer _ _) rfl) m

theorem law_readOp (s : State) (m : KdpReq) : Law 0x6080081afb8 s (readOp s m) := by
  unfold readOp
  try dsimp only
  repeat' first
    | with_reducible apply Law.refl
    | ((with_reducible apply Law.step); (case k => with_reducible first | apply law_kdpRead | apply law_abortReply); (case m => rfl))
    | ((with_reducible apply Law.step); (case k => (with_reducible apply Law.of_snd; (assumption); with_reducible apply law_kdpRead)); (case m => rfl))
    | ((with_reducible apply law_valueReply_of); (case m => rfl))
    | with_reducible apply Law.ite
    | with_reducible apply LawO.ite
    | with_reducible apply Law.ite_snd
    | with_reducible apply Law.ite_fst
    | with_reducible apply LawO.next
    | with_reducible apply Law.cond
    | with_reducible apply Law.foldl
    | with_reducible apply Law.foldl_fst
    | with_reducible apply Law.foldl_snd
    | with_reducible apply Law.foldl_third
    | (intro _ _; try dsimp only)
    | (split <;> try dsimp only)
    | ((with_reducible apply Law.of_snd); (assumption))

theorem law_finalAck (s : State) (t : Transfer) (seq : Nat) (code : Nat) : Law 0x12000 s (finalAck s t seq code) := by
  unfold finalAck
  try dsimp only
  repeat' first
    | with_reducible apply Law.refl
    | ((with_reducible apply Law.step); (case k => with_reducible apply law_sendFor); (case m => rfl))
    | with_reducible apply Law.ite
    | with_reducible apply LawO.ite
    | with_reducible apply Law.ite_snd
    | with_reducible apply Law.ite_fst
    | with_reducible apply LawO.next
    | with_reducible apply Law.cond
    | with_reducible apply Law.foldl
    | with_reducible apply Law.foldl_fst
    | with_reducible apply Law.foldl_snd
    | with_reducible apply Law.foldl_third
    | (intro _ _; try dsimp only)
    | (split <;> try dsimp only)
    | ((with_reducible apply Law.of_snd); (assumption))

theorem law_finishWrite (s : State) (t : Transfer) (m : KdpReq) (total : Nat) (crc : BitVec 32) (got : Bytes) : Law 0x2efff7de3ff s (finishWrite s t m total crc got).2 := by
  unfold finishWrite
  try dsimp only
  repeat' first
    | with_reducible apply Law.refl
    | ((with_reducible apply Law.step); (case k => with_reducible apply law_kdpWrite); (case m => rfl))
    | ((with_reducible apply Law.step); (case k => (with_reducible apply Law.of_snd; (assumption); with_reducible apply law_kdpWrite)); (case m => rfl))
    | with_reducible apply Law.ite
    | with_reducible apply LawO.ite
    | with_reducible apply Law.ite_snd
    | with_reducible apply Law.ite_fst
    | with_reducible apply LawO.next
    | with_reducible apply Law.cond
    | with_reducible apply Law.foldl
    | with_reducible apply Law.foldl_fst
    | with_reducible apply Law.foldl_snd
    | with_reducible apply Law.foldl_third
    | (intro _ _; try dsimp only)
    | (split <;> try dsimp only)
    | ((with_reducible apply Law.of_snd); (assumption))

theorem law_takeSegment (s : State) (t : Transfer) (m : KdpReq) (total : Nat) (crc : BitVec 32) (got : Bytes) (next : Nat) (window : Nat) (since : Nat) (gap : Option (Nat × Nat)) : Law 0x2efff7debff s (takeSegment s t m total crc got next window since gap) := by
  unfold takeSegment
  try dsimp only
  repeat' first
    | with_reducible apply Law.refl
    | ((with_reducible apply Law.step); (case k => with_reducible first | apply law_updTransfer | apply law_sendFor | apply law_finishWrite | apply law_closeTransfer | apply law_finalAck); (case m => rfl))
    | ((with_reducible apply Law.step); (case k => (with_reducible apply Law.of_snd; (assumption); with_reducible apply law_finishWrite)); (case m => rfl))
    | with_reducible apply Law.ite
    | with_reducible apply LawO.ite
    | with_reducible apply Law.ite_snd
    | with_reducible apply Law.ite_fst
    | with_reducible apply LawO.next
    | with_reducible apply Law.cond
    | with_reducible apply Law.foldl
    | with_reducible apply Law.foldl_fst
    | with_reducible apply Law.foldl_snd
    | with_reducible apply Law.foldl_third
    | (intro _ _; try dsimp only)
    | (split <;> try dsimp only)
    | ((with_reducible apply Law.of_snd); (assumption))

theorem law_segmentOp (s : State) (m : KdpReq) : Law 0x2efff7debff s (segmentOp s m) := by
  unfold segmentOp
  try dsimp only
  repeat' first
    | with_reducible apply Law.refl
    | ((with_reducible apply Law.step); (case k => with_reducible apply law_takeSegment); (case m => rfl))
    | with_reducible apply Law.ite
    | with_reducible apply LawO.ite
    | with_reducible apply Law.ite_snd
    | with_reducible apply Law.ite_fst
    | with_reducible apply LawO.next
    | with_reducible apply Law.cond
    | with_reducible apply Law.foldl
    | with_reducible apply Law.foldl_fst
    | with_reducible apply Law.foldl_snd
    | with_reducible apply Law.foldl_third
    | (intro _ _; try dsimp only)
    | (split <;> try dsimp only)
    | ((with_reducible apply Law.of_snd); (assumption))

theorem law_kdpSnapshot (s0 : State) (who : Requester) (index : Nat) (sub : Nat) (ecc : Nat) : Law 0x608008087b8 s0 (kdpSnapshot s0 who index sub ecc).2 := by
  unfold kdpSnapshot
  try dsimp only
  repeat' first
    | with_reducible apply Law.refl
    | ((with_reducible apply Law.step); (case k => with_reducible first | apply law_expireSnaps | apply law_readNow | apply law_groupTaken); (case m => rfl))
    | ((with_reducible apply Law.step); (case k => (with_reducible apply Law.of_snd; (assumption); with_reducible apply law_readNow)); (case m => rfl))
    | with_reducible apply Law.ite
    | with_reducible apply LawO.ite
    | with_reducible apply Law.ite_snd
    | with_reducible apply Law.ite_fst
    | with_reducible apply LawO.next
    | with_reducible apply Law.cond
    | with_reducible apply Law.foldl
    | with_reducible apply Law.foldl_fst
    | with_reducible apply Law.foldl_snd
    | with_reducible apply Law.foldl_third
    | (intro _ _; try dsimp only)
    | (split <;> try dsimp only)
    | ((with_reducible apply Law.put (T := 0x40000000000)); (fail_if_success (case e => with_reducible rfl)); (case e => simp only [erase, Nat.testBit, Nat.reduceShiftRight, Nat.reduceAnd, Nat.reduceBNe, bne_self_eq_false, cond_true, cond_false]); (case hT => rfl); (case m => rfl))
    | ((with_reducible apply Law.of_snd); (assumption))

theorem law_snapshotOp (s : State) (m : KdpReq) : Law 0x6080081afb8 s (snapshotOp s m) := by
  unfold snapshotOp
  try dsimp only
  repeat' first
    | with_reducible apply Law.refl
    | ((with_reducible apply Law.step); (case k => with_reducible first | apply law_kdpSnapshot | apply law_abortReply); (case m => rfl))
    | ((with_reducible apply Law.step); (case k => (with_reducible apply Law.of_snd; (assumption); with_reducible apply law_kdpSnapshot)); (case m => rfl))
    | ((with_reducible apply law_valueReply_of); (case m => rfl))
    | with_reducible apply Law.ite
    | with_reducible apply LawO.ite
    | with_reducible apply Law.ite_snd
    | with_reducible apply Law.ite_fst
    | with_reducible apply LawO.next
    | with_reducible apply Law.cond
    | with_reducible apply Law.foldl
    | with_reducible apply Law.foldl_fst
    | with_reducible apply Law.foldl_snd
    | with_reducible apply Law.foldl_third
    | (intro _ _; try dsimp only)
    | (split <;> try dsimp only)
    | ((with_reducible apply Law.of_snd); (assumption))

theorem law_writeOp (s : State) (m : KdpReq) : Law 0x2efff7de3ff s (writeOp s m) := by
  unfold writeOp
  try dsimp only
  repeat' first
    | with_reducible apply Law.refl
    | ((with_reducible apply Law.step); (case k => with_reducible first | apply law_kdpWrite | apply law_okReply | apply law_abortReply); (case m => rfl))
    | ((with_reducible apply Law.step); (case k => (with_reducible apply Law.of_snd; (assumption); with_reducible apply law_kdpWrite)); (case m => rfl))
    | with_reducible apply Law.ite
    | with_reducible apply LawO.ite
    | with_reducible apply Law.ite_snd
    | with_reducible apply Law.ite_fst
    | with_reducible apply LawO.next
    | with_reducible apply Law.cond
    | with_reducible apply Law.foldl
    | with_reducible apply Law.foldl_fst
    | with_reducible apply Law.foldl_snd
    | with_reducible apply Law.foldl_third
    | (intro _ _; try dsimp only)
    | (split <;> try dsimp only)
    | ((with_reducible apply Law.of_snd); (assumption))

theorem law_processMsg (s : State) (m : KdpReq) : Law 0x6effffdefff s (processMsg s m) := by
  unfold processMsg
  try dsimp only
  repeat' first
    | with_reducible apply Law.refl
    | ((with_reducible apply Law.step); (case k => with_reducible first | apply law_segmentOp | apply law_ackOp | apply law_abortOp | apply law_abortReply | apply law_readOp | apply law_writeOp | apply law_snapshotOp | apply law_initiateOp | apply law_describeOp); (case m => rfl))
    | with_reducible apply Law.ite
    | with_reducible apply LawO.ite
    | with_reducible apply Law.ite_snd
    | with_reducible apply Law.ite_fst
    | with_reducible apply LawO.next
    | with_reducible apply Law.cond
    | with_reducible apply Law.foldl
    | with_reducible apply Law.foldl_fst
    | with_reducible apply Law.foldl_snd
    | with_reducible apply Law.foldl_third
    | (intro _ _; try dsimp only)
    | (split <;> try dsimp only)
    | ((with_reducible apply Law.of_snd); (assumption))

theorem law_drainSteps (n : Nat) (s : State) : Law 0x6effffdffff s (drainSteps n s) := by
  induction n generalizing s with
  | zero => exact Law.refl _ _
  | succ n ih =>
    unfold drainSteps
    split
    · rename_i m r _
      refine Law.trans ?_ (ih _)
      refine Law.step ?_ (law_processMsg _ _) rfl
      refine Law.put (T := 0x1000) (Law.refl _ _) ?_ rfl rfl
      simp only [erase, Nat.testBit, Nat.reduceShiftRight, Nat.reduceAnd, Nat.reduceBNe, bne_self_eq_false, cond_true, cond_false]
    · exact Law.refl _ _

theorem law_drainWait (s : State) : Law 0x6effffdffff s (drainWait s) := by
  unfold drainWait
  try dsimp only
  repeat' first
    | with_reducible apply Law.refl
    | ((with_reducible apply Law.step); (case k => with_reducible apply law_drainSteps); (case m => rfl))
    | with_reducible apply Law.ite
    | with_reducible apply LawO.ite
    | with_reducible apply Law.ite_snd
    | with_reducible apply Law.ite_fst
    | with_reducible apply LawO.next
    | with_reducible apply Law.cond
    | with_reducible apply Law.foldl
    | with_reducible apply Law.foldl_fst
    | with_reducible apply Law.foldl_snd
    | with_reducible apply Law.foldl_third
    | (intro _ _; try dsimp only)
    | (split <;> try dsimp only)
    | ((with_reducible apply Law.of_snd); (assumption))

theorem law_enqueue (s : State) (m : KdpReq) : Law 0x1000 s (enqueue s m) := by
  unfold enqueue
  try dsimp only
  repeat' first
    | with_reducible apply Law.refl
    | with_reducible apply Law.ite
    | with_reducible apply LawO.ite
    | with_reducible apply Law.ite_snd
    | with_reducible apply Law.ite_fst
    | with_reducible apply LawO.next
    | with_reducible apply Law.cond
    | with_reducible apply Law.foldl
    | with_reducible apply Law.foldl_fst
    | with_reducible apply Law.foldl_snd
    | with_reducible apply Law.foldl_third
    | (intro _ _; try dsimp only)
    | (split <;> try dsimp only)
    | ((with_reducible apply Law.put (T := 0x1000)); (fail_if_success (case e => with_reducible rfl)); (case e => simp only [erase, Nat.testBit, Nat.reduceShiftRight, Nat.reduceAnd, Nat.reduceBNe, bne_self_eq_false, cond_true, cond_false]); (case hT => rfl); (case m => rfl))
    | ((with_reducible apply Law.of_snd); (assumption))

theorem law_arrive (s : State) (m : KdpReq) : Law 0x6effffdffff s (arrive s m) := by
  unfold arrive
  try dsimp only
  repeat' first
    | with_reducible apply Law.refl
    | ((with_reducible apply Law.step); (case k => with_reducible first | apply law_drainWait | apply law_enqueue); (case m => rfl))
    | with_reducible apply Law.ite
    | with_reducible apply LawO.ite
    | with_reducible apply Law.ite_snd
    | with_reducible apply Law.ite_fst
    | with_reducible apply LawO.next
    | with_reducible apply Law.cond
    | with_reducible apply Law.foldl
    | with_reducible apply Law.foldl_fst
    | with_reducible apply Law.foldl_snd
    | with_reducible apply Law.foldl_third
    | (intro _ _; try dsimp only)
    | (split <;> try dsimp only)
    | ((with_reducible apply Law.of_snd); (assumption))

theorem law_serviceDiscard (s : State) : Law 0x8200 s (serviceDiscard s) := by
  unfold serviceDiscard
  try dsimp only
  repeat' first
    | with_reducible apply Law.refl
    | ((with_reducible apply Law.step); (case k => with_reducible apply law_raise); (case m => rfl))
    | with_reducible apply Law.ite
    | with_reducible apply LawO.ite
    | with_reducible apply Law.ite_snd
    | with_reducible apply Law.ite_fst
    | with_reducible apply LawO.next
    | with_reducible apply Law.cond
    | with_reducible apply Law.foldl
    | with_reducible apply Law.foldl_fst
    | with_reducible apply Law.foldl_snd
    | with_reducible apply Law.foldl_third
    | (intro _ _; try dsimp only)
    | (split <;> try dsimp only)
    | ((with_reducible apply Law.put (T := 0x8000)); (fail_if_success (case e => with_reducible rfl)); (case e => simp only [erase, Nat.testBit, Nat.reduceShiftRight, Nat.reduceAnd, Nat.reduceBNe, bne_self_eq_false, cond_true, cond_false]); (case hT => rfl); (case m => rfl))
    | ((with_reducible apply Law.of_snd); (assumption))

theorem law_receiveMsg (s : State) (m : KdpReq) : Law 0x6efffffffff s (receiveMsg s m) := by
  unfold receiveMsg
  try dsimp only
  repeat' first
    | with_reducible apply Law.refl
    | ((with_reducible apply Law.step); (case k => with_reducible first | apply law_faultTime | apply law_serviceDiscard | apply law_arrive | apply law_receiveFrame); (case m => rfl))
    | ((with_reducible apply Law.step); (case k => (with_reducible apply Law.of_snd; (assumption); with_reducible apply law_receiveFrame)); (case m => rfl))
    | with_reducible apply Law.ite
    | with_reducible apply LawO.ite
    | with_reducible apply Law.ite_snd
    | with_reducible apply Law.ite_fst
    | with_reducible apply LawO.next
    | with_reducible apply Law.cond
    | with_reducible apply Law.foldl
    | with_reducible apply Law.foldl_fst
    | with_reducible apply Law.foldl_snd
    | with_reducible apply Law.foldl_third
    | (intro _ _; try dsimp only)
    | (split <;> try dsimp only)
    | ((with_reducible apply Law.of_snd); (assumption))

end Sys2Proof.Machine
end

