-- ==== Sys2Proof/Laws/FrameService.lean ====
section
/-! SUPPORT. What each function of Machine/Service.lean may touch. -/

namespace Sys2Proof.Machine

theorem law_message (ok : Bool) (m : KdpReq) (s : State) : LawO 0x6efffffffff s (message ok m s) := by
  unfold message
  try dsimp only
  repeat' first
    | with_reducible apply Law.refl
    | ((with_reducible apply Law.step); (case k => with_reducible apply law_receiveMsg); (case m => rfl))
    | ((with_reducible apply law_doneIf_of); (case m => rfl))
    | with_reducible apply Law.ite
    | with_reducible apply LawO.ite
    | with_reducible apply Law.ite_snd
    | with_reducible apply Law.ite_fst
    | with_reducible apply LawO.next
    | with_reducible apply Law.cond
    | with_reducible apply Law.foldl
    | with_reducible apply Law.foldl_fst
    | with_reducible apply Law.foldl_snd
    | with_reducible apply Law.foldl_third
    | (intro _ _; try dsimp only)
    | (split <;> try dsimp only)
    | ((with_reducible apply Law.of_snd); (assumption))

theorem law_execAbortTransfer (m : KdpReq) (s : State) : LawO 0x6efffffffff s (execAbortTransfer m s) := by
  unfold execAbortTransfer
  try dsimp only
  repeat' first
    | with_reducible apply Law.refl
    | with_reducible apply law_message
    | with_reducible apply Law.ite
    | with_reducible apply LawO.ite
    | with_reducible apply Law.ite_snd
    | with_reducible apply Law.ite_fst
    | with_reducible apply LawO.next
    | with_reducible apply Law.cond
    | with_reducible apply Law.foldl
    | with_reducible apply Law.foldl_fst
    | with_reducible apply Law.foldl_snd
    | with_reducible apply Law.foldl_third
    | (intro _ _; try dsimp only)
    | (split <;> try dsimp only)
    | ((with_reducible apply Law.of_snd); (assumption))

theorem law_writeRow (base : Nat) (count : Nat) (sub : Nat) (ok : Nat → Bool) (m : KdpReq) (s : State) : LawO 0x6efffffffff s (writeRow base count sub ok m s) := by
  unfold writeRow
  try dsimp only
  repeat' first
    | with_reducible apply Law.refl
    | with_reducible apply law_message
    | with_reducible apply Law.ite
    | with_reducible apply LawO.ite
    | with_reducible apply Law.ite_snd
    | with_reducible apply Law.ite_fst
    | with_reducible apply LawO.next
    | with_reducible apply Law.cond
    | with_reducible apply Law.foldl
    | with_reducible apply Law.foldl_fst
    | with_reducible apply Law.foldl_snd
    | with_reducible apply Law.foldl_third
    | (intro _ _; try dsimp only)
    | (split <;> try dsimp only)
    | ((with_reducible apply Law.of_snd); (assumption))

theorem law_execAcknowledgeDeadlineMiss (m : KdpReq) (s : State) : LawO 0x6efffffffff s (execAcknowledgeDeadlineMiss m s) := by
  unfold execAcknowledgeDeadlineMiss
  try dsimp only
  repeat' first
    | with_reducible apply Law.refl
    | with_reducible apply law_writeRow
    | with_reducible apply Law.ite
    | with_reducible apply LawO.ite
    | with_reducible apply Law.ite_snd
    | with_reducible apply Law.ite_fst
    | with_reducible apply LawO.next
    | with_reducible apply Law.cond
    | with_reducible apply Law.foldl
    | with_reducible apply Law.foldl_fst
    | with_reducible apply Law.foldl_snd
    | with_reducible apply Law.foldl_third
    | (intro _ _; try dsimp only)
    | (split <;> try dsimp only)
    | ((with_reducible apply Law.of_snd); (assumption))

theorem law_execAcknowledgeFallback (m : KdpReq) (s : State) : LawO 0x6efffffffff s (execAcknowledgeFallback m s) := by
  unfold execAcknowledgeFallback
  try dsimp only
  repeat' first
    | with_reducible apply Law.refl
    | with_reducible apply law_writeRow
    | with_reducible apply Law.ite
    | with_reducible apply LawO.ite
    | with_reducible apply Law.ite_snd
    | with_reducible apply Law.ite_fst
    | with_reducible apply LawO.next
    | with_reducible apply Law.cond
    | with_reducible apply Law.foldl
    | with_reducible apply Law.foldl_fst
    | with_reducible apply Law.foldl_snd
    | with_reducible apply Law.foldl_third
    | (intro _ _; try dsimp only)
    | (split <;> try dsimp only)
    | ((with_reducible apply Law.of_snd); (assumption))

theorem law_execActivate (m : KdpReq) (s : State) : LawO 0x6efffffffff s (execActivate m s) := by
  unfold execActivate
  try dsimp only
  repeat' first
    | with_reducible apply Law.refl
    | with_reducible apply law_writeRow
    | with_reducible apply Law.ite
    | with_reducible apply LawO.ite
    | with_reducible apply Law.ite_snd
    | with_reducible apply Law.ite_fst
    | with_reducible apply LawO.next
    | with_reducible apply Law.cond
    | with_reducible apply Law.foldl
    | with_reducible apply Law.foldl_fst
    | with_reducible apply Law.foldl_snd
    | with_reducible apply Law.foldl_third
    | (intro _ _; try dsimp only)
    | (split <;> try dsimp only)
    | ((with_reducible apply Law.of_snd); (assumption))

theorem law_execAttestationChallenge (m : KdpReq) (s : State) : LawO 0x6efffffffff s (execAttestationChallenge m s) := by
  unfold execAttestationChallenge
  try dsimp only
  repeat' first
    | with_reducible apply Law.refl
    | with_reducible apply law_writeRow
    | with_reducible apply Law.ite
    | with_reducible apply LawO.ite
    | with_reducible apply Law.ite_snd
    | with_reducible apply Law.ite_fst
    | with_reducible apply LawO.next
    | with_reducible apply Law.cond
    | with_reducible apply Law.foldl
    | with_reducible apply Law.foldl_fst
    | with_reducible apply Law.foldl_snd
    | with_reducible apply Law.foldl_third
    | (intro _ _; try dsimp only)
    | (split <;> try dsimp only)
    | ((with_reducible apply Law.of_snd); (assumption))

theorem law_execAttestationStatementRead (m : KdpReq) (s : State) : LawO 0x6efffffffff s (execAttestationStatementRead m s) := by
  unfold execAttestationStatementRead
  try dsimp only
  repeat' first
    | with_reducible apply Law.refl
    | with_reducible apply law_message
    | with_reducible apply Law.ite
    | with_reducible apply LawO.ite
    | with_reducible apply Law.ite_snd
    | with_reducible apply Law.ite_fst
    | with_reducible apply LawO.next
    | with_reducible apply Law.cond
    | with_reducible apply Law.foldl
    | with_reducible apply Law.foldl_fst
    | with_reducible apply Law.foldl_snd
    | with_reducible apply Law.foldl_third
    | (intro _ _; try dsimp only)
    | (split <;> try dsimp only)
    | ((with_reducible apply Law.of_snd); (assumption))

theorem law_execCaptureStart (m : KdpReq) (s : State) : LawO 0x6efffffffff s (execCaptureStart m s) := by
  unfold execCaptureStart
  try dsimp only
  repeat' first
    | with_reducible apply Law.refl
    | with_reducible apply law_writeRow
    | with_reducible apply Law.ite
    | with_reducible apply LawO.ite
    | with_reducible apply Law.ite_snd
    | with_reducible apply Law.ite_fst
    | with_reducible apply LawO.next
    | with_reducible apply Law.cond
    | with_reducible apply Law.foldl
    | with_reducible apply Law.foldl_fst
    | with_reducible apply Law.foldl_snd
    | with_reducible apply Law.foldl_third
    | (intro _ _; try dsimp only)
    | (split <;> try dsimp only)
    | ((with_reducible apply Law.of_snd); (assumption))

theorem law_execClearMemory (m : KdpReq) (s : State) : LawO 0x6efffffffff s (execClearMemory m s) := by
  unfold execClearMemory
  try dsimp only
  repeat' first
    | with_reducible apply Law.refl
    | with_reducible apply law_writeRow
    | with_reducible apply Law.ite
    | with_reducible apply LawO.ite
    | with_reducible apply Law.ite_snd
    | with_reducible apply Law.ite_fst
    | with_reducible apply LawO.next
    | with_reducible apply Law.cond
    | with_reducible apply Law.foldl
    | with_reducible apply Law.foldl_fst
    | with_reducible apply Law.foldl_snd
    | with_reducible apply Law.foldl_third
    | (intro _ _; try dsimp only)
    | (split <;> try dsimp only)
    | ((with_reducible apply Law.of_snd); (assumption))

theorem law_execClearRemoteSources (m : KdpReq) (s : State) : LawO 0x6efffffffff s (execClearRemoteSources m s) := by
  unfold execClearRemoteSources
  try dsimp only
  repeat' first
    | with_reducible apply Law.refl
    | with_reducible apply law_writeRow
    | with_reducible apply Law.ite
    | with_reducible apply LawO.ite
    | with_reducible apply Law.ite_snd
    | with_reducible apply Law.ite_fst
    | with_reducible apply LawO.next
    | with_reducible apply Law.cond
    | with_reducible apply Law.foldl
    | with_reducible apply Law.foldl_fst
    | with_reducible apply Law.foldl_snd
    | with_reducible apply Law.foldl_third
    | (intro _ _; try dsimp only)
    | (split <;> try dsimp only)
    | ((with_reducible apply Law.of_snd); (assumption))

theorem law_execConfirm (m : KdpReq) (s : State) : LawO 0x6efffffffff s (execConfirm m s) := by
  unfold execConfirm
  try dsimp only
  repeat' first
    | with_reducible apply Law.refl
    | with_reducible apply law_writeRow
    | with_reducible apply Law.ite
    | with_reducible apply LawO.ite
    | with_reducible apply Law.ite_snd
    | with_reducible apply Law.ite_fst
    | with_reducible apply LawO.next
    | with_reducible apply Law.cond
    | with_reducible apply Law.foldl
    | with_reducible apply Law.foldl_fst
    | with_reducible apply Law.foldl_snd
    | with_reducible apply Law.foldl_third
    | (intro _ _; try dsimp only)
    | (split <;> try dsimp only)
    | ((with_reducible apply Law.of_snd); (assumption))

theorem law_execConverterRun (m : KdpReq) (s : State) : LawO 0x6efffffffff s (execConverterRun m s) := by
  unfold execConverterRun
  try dsimp only
  repeat' first
    | with_reducible apply Law.refl
    | with_reducible apply law_writeRow
    | with_reducible apply Law.ite
    | with_reducible apply LawO.ite
    | with_reducible apply Law.ite_snd
    | with_reducible apply Law.ite_fst
    | with_reducible apply LawO.next
    | with_reducible apply Law.cond
    | with_reducible apply Law.foldl
    | with_reducible apply Law.foldl_fst
    | with_reducible apply Law.foldl_snd
    | with_reducible apply Law.foldl_third
    | (intro _ _; try dsimp only)
    | (split <;> try dsimp only)
    | ((with_reducible apply Law.of_snd); (assumption))

theorem law_execCounterEnable (m : KdpReq) (s : State) : LawO 0x6efffffffff s (execCounterEnable m s) := by
  unfold execCounterEnable
  try dsimp only
  repeat' first
    | with_reducible apply Law.refl
    | with_reducible apply law_writeRow
    | with_reducible apply Law.ite
    | with_reducible apply LawO.ite
    | with_reducible apply Law.ite_snd
    | with_reducible apply Law.ite_fst
    | with_reducible apply LawO.next
    | with_reducible apply Law.cond
    | with_reducible apply Law.foldl
    | with_reducible apply Law.foldl_fst
    | with_reducible apply Law.foldl_snd
    | with_reducible apply Law.foldl_third
    | (intro _ _; try dsimp only)
    | (split <;> try dsimp only)
    | ((with_reducible apply Law.of_snd); (assumption))

theorem law_execDescribe (m : KdpReq) (s : State) : LawO 0x6efffffffff s (execDescribe m s) := by
  unfold execDescribe
  try dsimp only
  repeat' first
    | with_reducible apply Law.refl
    | with_reducible apply law_message
    | with_reducible apply Law.ite
    | with_reducible apply LawO.ite
    | with_reducible apply Law.ite_snd
    | with_reducible apply Law.ite_fst
    | with_reducible apply LawO.next
    | with_reducible apply Law.cond
    | with_reducible apply Law.foldl
    | with_reducible apply Law.foldl_fst
    | with_reducible apply Law.foldl_snd
    | with_reducible apply Law.foldl_third
    | (intro _ _; try dsimp only)
    | (split <;> try dsimp only)
    | ((with_reducible apply Law.of_snd); (assumption))

theorem law_execDisplayDisable (m : KdpReq) (s : State) : LawO 0x6efffffffff s (execDisplayDisable m s) := by
  unfold execDisplayDisable
  try dsimp only
  repeat' first
    | with_reducible apply Law.refl
    | with_reducible apply law_writeRow
    | with_reducible apply Law.ite
    | with_reducible apply LawO.ite
    | with_reducible apply Law.ite_snd
    | with_reducible apply Law.ite_fst
    | with_reducible apply LawO.next
    | with_reducible apply Law.cond
    | with_reducible apply Law.foldl
    | with_reducible apply Law.foldl_fst
    | with_reducible apply Law.foldl_snd
    | with_reducible apply Law.foldl_third
    | (intro _ _; try dsimp only)
    | (split <;> try dsimp only)
    | ((with_reducible apply Law.of_snd); (assumption))

theorem law_execDisplayEnable (m : KdpReq) (s : State) : LawO 0x6efffffffff s (execDisplayEnable m s) := by
  unfold execDisplayEnable
  try dsimp only
  repeat' first
    | with_reducible apply Law.refl
    | with_reducible apply law_writeRow
    | with_reducible apply Law.ite
    | with_reducible apply LawO.ite
    | with_reducible apply Law.ite_snd
    | with_reducible apply Law.ite_fst
    | with_reducible apply LawO.next
    | with_reducible apply Law.cond
    | with_reducible apply Law.foldl
    | with_reducible apply Law.foldl_fst
    | with_reducible apply Law.foldl_snd
    | with_reducible apply Law.foldl_third
    | (intro _ _; try dsimp only)
    | (split <;> try dsimp only)
    | ((with_reducible apply Law.of_snd); (assumption))

theorem law_execFaultReset (m : KdpReq) (s : State) : LawO 0x6efffffffff s (execFaultReset m s) := by
  unfold execFaultReset
  try dsimp only
  repeat' first
    | with_reducible apply Law.refl
    | with_reducible apply law_writeRow
    | with_reducible apply Law.ite
    | with_reducible apply LawO.ite
    | with_reducible apply Law.ite_snd
    | with_reducible apply Law.ite_fst
    | with_reducible apply LawO.next
    | with_reducible apply Law.cond
    | with_reducible apply Law.foldl
    | with_reducible apply Law.foldl_fst
    | with_reducible apply Law.foldl_snd
    | with_reducible apply Law.foldl_third
    | (intro _ _; try dsimp only)
    | (split <;> try dsimp only)
    | ((with_reducible apply Law.of_snd); (assumption))

theorem law_execGroupEnable (m : KdpReq) (s : State) : LawO 0x6efffffffff s (execGroupEnable m s) := by
  unfold execGroupEnable
  try dsimp only
  repeat' first
    | with_reducible apply Law.refl
    | with_reducible apply law_writeRow
    | with_reducible apply Law.ite
    | with_reducible apply LawO.ite
    | with_reducible apply Law.ite_snd
    | with_reducible apply Law.ite_fst
    | with_reducible apply LawO.next
    | with_reducible apply Law.cond
    | with_reducible apply Law.foldl
    | with_reducible apply Law.foldl_fst
    | with_reducible apply Law.foldl_snd
    | with_reducible apply Law.foldl_third
    | (intro _ _; try dsimp only)
    | (split <;> try dsimp only)
    | ((with_reducible apply Law.of_snd); (assumption))

theorem law_execGroupMemberWrite (m : KdpReq) (s : State) : LawO 0x6efffffffff s (execGroupMemberWrite m s) := by
  unfold execGroupMemberWrite
  try dsimp only
  repeat' first
    | with_reducible apply Law.refl
    | with_reducible apply law_message
    | with_reducible apply Law.ite
    | with_reducible apply LawO.ite
    | with_reducible apply Law.ite_snd
    | with_reducible apply Law.ite_fst
    | with_reducible apply LawO.next
    | with_reducible apply Law.cond
    | with_reducible apply Law.foldl
    | with_reducible apply Law.foldl_fst
    | with_reducible apply Law.foldl_snd
    | with_reducible apply Law.foldl_third
    | (intro _ _; try dsimp only)
    | (split <;> try dsimp only)
    | ((with_reducible apply Law.of_snd); (assumption))

theorem law_execHalt (m : KdpReq) (s : State) : LawO 0x6efffffffff s (execHalt m s) := by
  unfold execHalt
  try dsimp only
  repeat' first
    | with_reducible apply Law.refl
    | with_reducible apply law_writeRow
    | with_reducible apply Law.ite
    | with_reducible apply LawO.ite
    | with_reducible apply Law.ite_snd
    | with_reducible apply Law.ite_fst
    | with_reducible apply LawO.next
    | with_reducible apply Law.cond
    | with_reducible apply Law.foldl
    | with_reducible apply Law.foldl_fst
    | with_reducible apply Law.foldl_snd
    | with_reducible apply Law.foldl_third
    | (intro _ _; try dsimp only)
    | (split <;> try dsimp only)
    | ((with_reducible apply Law.of_snd); (assumption))

theorem law_execHaltRelease (m : KdpReq) (s : State) : LawO 0x6efffffffff s (execHaltRelease m s) := by
  unfold execHaltRelease
  try dsimp only
  repeat' first
    | with_reducible apply Law.refl
    | with_reducible apply law_writeRow
    | with_reducible apply Law.ite
    | with_reducible apply LawO.ite
    | with_reducible apply Law.ite_snd
    | with_reducible apply Law.ite_fst
    | with_reducible apply LawO.next
    | with_reducible apply Law.cond
    | with_reducible apply Law.foldl
    | with_reducible apply Law.foldl_fst
    | with_reducible apply Law.foldl_snd
    | with_reducible apply Law.foldl_third
    | (intro _ _; try dsimp only)
    | (split <;> try dsimp only)
    | ((with_reducible apply Law.of_snd); (assumption))

theorem law_execInjectChannel (m : KdpReq) (s : State) : LawO 0x6efffffffff s (execInjectChannel m s) := by
  unfold execInjectChannel
  try dsimp only
  repeat' first
    | with_reducible apply Law.refl
    | with_reducible apply law_writeRow
    | with_reducible apply Law.ite
    | with_reducible apply LawO.ite
    | with_reducible apply Law.ite_snd
    | with_reducible apply Law.ite_fst
    | with_reducible apply LawO.next
    | with_reducible apply Law.cond
    | with_reducible apply Law.foldl
    | with_reducible apply Law.foldl_fst
    | with_reducible apply Law.foldl_snd
    | with_reducible apply Law.foldl_third
    | (intro _ _; try dsimp only)
    | (split <;> try dsimp only)
    | ((with_reducible apply Law.of_snd); (assumption))

theorem law_execLaneRun (m : KdpReq) (s : State) : LawO 0x6efffffffff s (execLaneRun m s) := by
  unfold execLaneRun
  try dsimp only
  repeat' first
    | with_reducible apply Law.refl
    | with_reducible apply law_writeRow
    | with_reducible apply Law.ite
    | with_reducible apply LawO.ite
    | with_reducible apply Law.ite_snd
    | with_reducible apply Law.ite_fst
    | with_reducible apply LawO.next
    | with_reducible apply Law.cond
    | with_reducible apply Law.foldl
    | with_reducible apply Law.foldl_fst
    | with_reducible apply Law.foldl_snd
    | with_reducible apply Law.foldl_third
    | (intro _ _; try dsimp only)
    | (split <;> try dsimp only)
    | ((with_reducible apply Law.of_snd); (assumption))

theorem law_execLoopModeAuto (m : KdpReq) (s : State) : LawO 0x6efffffffff s (execLoopModeAuto m s) := by
  unfold execLoopModeAuto
  try dsimp only
  repeat' first
    | with_reducible apply Law.refl
    | with_reducible apply law_writeRow
    | with_reducible apply Law.ite
    | with_reducible apply LawO.ite
    | with_reducible apply Law.ite_snd
    | with_reducible apply Law.ite_fst
    | with_reducible apply LawO.next
    | with_reducible apply Law.cond
    | with_reducible apply Law.foldl
    | with_reducible apply Law.foldl_fst
    | with_reducible apply Law.foldl_snd
    | with_reducible apply Law.foldl_third
    | (intro _ _; try dsimp only)
    | (split <;> try dsimp only)
    | ((with_reducible apply Law.of_snd); (assumption))

theorem law_execLoopModeHold (m : KdpReq) (s : State) : LawO 0x6efffffffff s (execLoopModeHold m s) := by
  unfold execLoopModeHold
  try dsimp only
  repeat' first
    | with_reducible apply Law.refl
    | with_reducible apply law_writeRow
    | with_reducible apply Law.ite
    | with_reducible apply LawO.ite
    | with_reducible apply Law.ite_snd
    | with_reducible apply Law.ite_fst
    | with_reducible apply LawO.next
    | with_reducible apply Law.cond
    | with_reducible apply Law.foldl
    | with_reducible apply Law.foldl_fst
    | with_reducible apply Law.foldl_snd
    | with_reducible apply Law.foldl_third
    | (intro _ _; try dsimp only)
    | (split <;> try dsimp only)
    | ((with_reducible apply Law.of_snd); (assumption))

theorem law_execLoopModeManual (m : KdpReq) (s : State) : LawO 0x6efffffffff s (execLoopModeManual m s) := by
  unfold execLoopModeManual
  try dsimp only
  repeat' first
    | with_reducible apply Law.refl
    | with_reducible apply law_writeRow
    | with_reducible apply Law.ite
    | with_reducible apply LawO.ite
    | with_reducible apply Law.ite_snd
    | with_reducible apply Law.ite_fst
    | with_reducible apply LawO.next
    | with_reducible apply Law.cond
    | with_reducible apply Law.foldl
    | with_reducible apply Law.foldl_fst
    | with_reducible apply Law.foldl_snd
    | with_reducible apply Law.foldl_third
    | (intro _ _; try dsimp only)
    | (split <;> try dsimp only)
    | ((with_reducible apply Law.of_snd); (assumption))

theorem law_execLoopModeOff (m : KdpReq) (s : State) : LawO 0x6efffffffff s (execLoopModeOff m s) := by
  unfold execLoopModeOff
  try dsimp only
  repeat' first
    | with_reducible apply Law.refl
    | with_reducible apply law_writeRow
    | with_reducible apply Law.ite
    | with_reducible apply LawO.ite
    | with_reducible apply Law.ite_snd
    | with_reducible apply Law.ite_fst
    | with_reducible apply LawO.next
    | with_reducible apply Law.cond
    | with_reducible apply Law.foldl
    | with_reducible apply Law.foldl_fst
    | with_reducible apply Law.foldl_snd
    | with_reducible apply Law.foldl_third
    | (intro _ _; try dsimp only)
    | (split <;> try dsimp only)
    | ((with_reducible apply Law.of_snd); (assumption))

theorem law_execLoopModeSafe (m : KdpReq) (s : State) : LawO 0x6efffffffff s (execLoopModeSafe m s) := by
  unfold execLoopModeSafe
  try dsimp only
  repeat' first
    | with_reducible apply Law.refl
    | with_reducible apply law_writeRow
    | with_reducible apply Law.ite
    | with_reducible apply LawO.ite
    | with_reducible apply Law.ite_snd
    | with_reducible apply Law.ite_fst
    | with_reducible apply LawO.next
    | with_reducible apply Law.cond
    | with_reducible apply Law.foldl
    | with_reducible apply Law.foldl_fst
    | with_reducible apply Law.foldl_snd
    | with_reducible apply Law.foldl_third
    | (intro _ _; try dsimp only)
    | (split <;> try dsimp only)
    | ((with_reducible apply Law.of_snd); (assumption))

theorem law_execMailboxCancel (m : KdpReq) (s : State) : LawO 0x6efffffffff s (execMailboxCancel m s) := by
  unfold execMailboxCancel
  try dsimp only
  repeat' first
    | with_reducible apply Law.refl
    | with_reducible apply law_writeRow
    | with_reducible apply Law.ite
    | with_reducible apply LawO.ite
    | with_reducible apply Law.ite_snd
    | with_reducible apply Law.ite_fst
    | with_reducible apply LawO.next
    | with_reducible apply Law.cond
    | with_reducible apply Law.foldl
    | with_reducible apply Law.foldl_fst
    | with_reducible apply Law.foldl_snd
    | with_reducible apply Law.foldl_third
    | (intro _ _; try dsimp only)
    | (split <;> try dsimp only)
    | ((with_reducible apply Law.of_snd); (assumption))

theorem law_execMailboxSend (m : KdpReq) (s : State) : LawO 0x6efffffffff s (execMailboxSend m s) := by
  unfold execMailboxSend
  try dsimp only
  repeat' first
    | with_reducible apply Law.refl
    | with_reducible apply law_writeRow
    | with_reducible apply Law.ite
    | with_reducible apply LawO.ite
    | with_reducible apply Law.ite_snd
    | with_reducible apply Law.ite_fst
    | with_reducible apply LawO.next
    | with_reducible apply Law.cond
    | with_reducible apply Law.foldl
    | with_reducible apply Law.foldl_fst
    | with_reducible apply Law.foldl_snd
    | with_reducible apply Law.foldl_third
    | (intro _ _; try dsimp only)
    | (split <;> try dsimp only)
    | ((with_reducible apply Law.of_snd); (assumption))

theorem law_execMeterEnable (m : KdpReq) (s : State) : LawO 0x6efffffffff s (execMeterEnable m s) := by
  unfold execMeterEnable
  try dsimp only
  repeat' first
    | with_reducible apply Law.refl
    | with_reducible apply law_writeRow
    | with_reducible apply Law.ite
    | with_reducible apply LawO.ite
    | with_reducible apply Law.ite_snd
    | with_reducible apply Law.ite_fst
    | with_reducible apply LawO.next
    | with_reducible apply Law.cond
    | with_reducible apply Law.foldl
    | with_reducible apply Law.foldl_fst
    | with_reducible apply Law.foldl_snd
    | with_reducible apply Law.foldl_third
    | (intro _ _; try dsimp only)
    | (split <;> try dsimp only)
    | ((with_reducible apply Law.of_snd); (assumption))

theorem law_execOnDemandSeal (m : KdpReq) (s : State) : LawO 0x6efffffffff s (execOnDemandSeal m s) := by
  unfold execOnDemandSeal
  try dsimp only
  repeat' first
    | with_reducible apply Law.refl
    | with_reducible apply law_writeRow
    | with_reducible apply Law.ite
    | with_reducible apply LawO.ite
    | with_reducible apply Law.ite_snd
    | with_reducible apply Law.ite_fst
    | with_reducible apply LawO.next
    | with_reducible apply Law.cond
    | with_reducible apply Law.foldl
    | with_reducible apply Law.foldl_fst
    | with_reducible apply Law.foldl_snd
    | with_reducible apply Law.foldl_third
    | (intro _ _; try dsimp only)
    | (split <;> try dsimp only)
    | ((with_reducible apply Law.of_snd); (assumption))

theorem law_execPageInspect (m : KdpReq) (s : State) : LawO 0x6efffffffff s (execPageInspect m s) := by
  unfold execPageInspect
  try dsimp only
  repeat' first
    | with_reducible apply Law.refl
    | with_reducible apply law_message
    | with_reducible apply Law.ite
    | with_reducible apply LawO.ite
    | with_reducible apply Law.ite_snd
    | with_reducible apply Law.ite_fst
    | with_reducible apply LawO.next
    | with_reducible apply Law.cond
    | with_reducible apply Law.foldl
    | with_reducible apply Law.foldl_fst
    | with_reducible apply Law.foldl_snd
    | with_reducible apply Law.foldl_third
    | (intro _ _; try dsimp only)
    | (split <;> try dsimp only)
    | ((with_reducible apply Law.of_snd); (assumption))

theorem law_execPortModeWrite (m : KdpReq) (s : State) : LawO 0x6efffffffff s (execPortModeWrite m s) := by
  unfold execPortModeWrite
  try dsimp only
  repeat' first
    | with_reducible apply Law.refl
    | with_reducible apply law_writeRow
    | with_reducible apply Law.ite
    | with_reducible apply LawO.ite
    | with_reducible apply Law.ite_snd
    | with_reducible apply Law.ite_fst
    | with_reducible apply LawO.next
    | with_reducible apply Law.cond
    | with_reducible apply Law.foldl
    | with_reducible apply Law.foldl_fst
    | with_reducible apply Law.foldl_snd
    | with_reducible apply Law.foldl_third
    | (intro _ _; try dsimp only)
    | (split <;> try dsimp only)
    | ((with_reducible apply Law.of_snd); (assumption))

theorem law_execPublicationMapEnable (m : KdpReq) (s : State) : LawO 0x6efffffffff s (execPublicationMapEnable m s) := by
  unfold execPublicationMapEnable
  try dsimp only
  repeat' first
    | with_reducible apply Law.refl
    | with_reducible apply law_writeRow
    | with_reducible apply Law.ite
    | with_reducible apply LawO.ite
    | with_reducible apply Law.ite_snd
    | with_reducible apply Law.ite_fst
    | with_reducible apply LawO.next
    | with_reducible apply Law.cond
    | with_reducible apply Law.foldl
    | with_reducible apply Law.foldl_fst
    | with_reducible apply Law.foldl_snd
    | with_reducible apply Law.foldl_third
    | (intro _ _; try dsimp only)
    | (split <;> try dsimp only)
    | ((with_reducible apply Law.of_snd); (assumption))

theorem law_execRawMode (m : KdpReq) (s : State) : LawO 0x6efffffffff s (execRawMode m s) := by
  unfold execRawMode
  try dsimp only
  repeat' first
    | with_reducible apply Law.refl
    | with_reducible apply law_writeRow
    | with_reducible apply Law.ite
    | with_reducible apply LawO.ite
    | with_reducible apply Law.ite_snd
    | with_reducible apply Law.ite_fst
    | with_reducible apply LawO.next
    | with_reducible apply Law.cond
    | with_reducible apply Law.foldl
    | with_reducible apply Law.foldl_fst
    | with_reducible apply Law.foldl_snd
    | with_reducible apply Law.foldl_third
    | (intro _ _; try dsimp only)
    | (split <;> try dsimp only)
    | ((with_reducible apply Law.of_snd); (assumption))

theorem law_execRead (m : KdpReq) (s : State) : LawO 0x6efffffffff s (execRead m s) := by
  unfold execRead
  try dsimp only
  repeat' first
    | with_reducible apply Law.refl
    | with_reducible apply law_message
    | with_reducible apply Law.ite
    | with_reducible apply LawO.ite
    | with_reducible apply Law.ite_snd
    | with_reducible apply Law.ite_fst
    | with_reducible apply LawO.next
    | with_reducible apply Law.cond
    | with_reducible apply Law.foldl
    | with_reducible apply Law.foldl_fst
    | with_reducible apply Law.foldl_snd
    | with_reducible apply Law.foldl_third
    | (intro _ _; try dsimp only)
    | (split <;> try dsimp only)
    | ((with_reducible apply Law.of_snd); (assumption))

theorem law_execReadSnapshot (m : KdpReq) (s : State) : LawO 0x6efffffffff s (execReadSnapshot m s) := by
  unfold execReadSnapshot
  try dsimp only
  repeat' first
    | with_reducible apply Law.refl
    | with_reducible apply law_message
    | with_reducible apply Law.ite
    | with_reducible apply LawO.ite
    | with_reducible apply Law.ite_snd
    | with_reducible apply Law.ite_fst
    | with_reducible apply LawO.next
    | with_reducible apply Law.cond
    | with_reducible apply Law.foldl
    | with_reducible apply Law.foldl_fst
    | with_reducible apply Law.foldl_snd
    | with_reducible apply Law.foldl_third
    | (intro _ _; try dsimp only)
    | (split <;> try dsimp only)
    | ((with_reducible apply Law.of_snd); (assumption))

theorem law_execRefusedHamperWriteRead (m : KdpReq) (s : State) : LawO 0x6efffffffff s (execRefusedHamperWriteRead m s) := by
  unfold execRefusedHamperWriteRead
  try dsimp only
  repeat' first
    | with_reducible apply Law.refl
    | with_reducible apply law_message
    | with_reducible apply Law.ite
    | with_reducible apply LawO.ite
    | with_reducible apply Law.ite_snd
    | with_reducible apply Law.ite_fst
    | with_reducible apply LawO.next
    | with_reducible apply Law.cond
    | with_reducible apply Law.foldl
    | with_reducible apply Law.foldl_fst
    | with_reducible apply Law.foldl_snd
    | with_reducible apply Law.foldl_third
    | (intro _ _; try dsimp only)
    | (split <;> try dsimp only)
    | ((with_reducible apply Law.of_snd); (assumption))

theorem law_execRepetitiveEnable (m : KdpReq) (s : State) : LawO 0x6efffffffff s (execRepetitiveEnable m s) := by
  unfold execRepetitiveEnable
  try dsimp only
  repeat' first
    | with_reducible apply Law.refl
    | with_reducible apply law_writeRow
    | with_reducible apply Law.ite
    | with_reducible apply LawO.ite
    | with_reducible apply Law.ite_snd
    | with_reducible apply Law.ite_fst
    | with_reducible apply LawO.next
    | with_reducible apply Law.cond
    | with_reducible apply Law.foldl
    | with_reducible apply Law.foldl_fst
    | with_reducible apply Law.foldl_snd
    | with_reducible apply Law.foldl_third
    | (intro _ _; try dsimp only)
    | (split <;> try dsimp only)
    | ((with_reducible apply Law.of_snd); (assumption))

theorem law_execSegment (m : KdpReq) (s : State) : LawO 0x6efffffffff s (execSegment m s) := by
  unfold execSegment
  try dsimp only
  repeat' first
    | with_reducible apply Law.refl
    | with_reducible apply law_message
    | with_reducible apply Law.ite
    | with_reducible apply LawO.ite
    | with_reducible apply Law.ite_snd
    | with_reducible apply Law.ite_fst
    | with_reducible apply LawO.next
    | with_reducible apply Law.cond
    | with_reducible apply Law.foldl
    | with_reducible apply Law.foldl_fst
    | with_reducible apply Law.foldl_snd
    | with_reducible apply Law.foldl_third
    | (intro _ _; try dsimp only)
    | (split <;> try dsimp only)
    | ((with_reducible apply Law.of_snd); (assumption))

theorem law_execSegmentAcknowledgement (m : KdpReq) (s : State) : LawO 0x6efffffffff s (execSegmentAcknowledgement m s) := by
  unfold execSegmentAcknowledgement
  try dsimp only
  repeat' first
    | with_reducible apply Law.refl
    | with_reducible apply law_message
    | with_reducible apply Law.ite
    | with_reducible apply LawO.ite
    | with_reducible apply Law.ite_snd
    | with_reducible apply Law.ite_fst
    | with_reducible apply LawO.next
    | with_reducible apply Law.cond
    | with_reducible apply Law.foldl
    | with_reducible apply Law.foldl_fst
    | with_reducible apply Law.foldl_snd
    | with_reducible apply Law.foldl_third
    | (intro _ _; try dsimp only)
    | (split <;> try dsimp only)
    | ((with_reducible apply Law.of_snd); (assumption))

theorem law_execSegmentWaitTimeout (who : Requester) (tag : Nat) (s : State) : LawO 0x1ea08 s (execSegmentWaitTimeout who tag s) := by
  unfold execSegmentWaitTimeout
  try dsimp only
  repeat' first
    | with_reducible apply Law.refl
    | ((with_reducible apply Law.step); (case k => with_reducible first | apply law_updTransfer | apply law_sendFor); (case m => rfl))
    | ((with_reducible apply law_doneIf_of); (case m => rfl))
    | with_reducible apply Law.ite
    | with_reducible apply LawO.ite
    | with_reducible apply Law.ite_snd
    | with_reducible apply Law.ite_fst
    | with_reducible apply LawO.next
    | with_reducible apply Law.cond
    | with_reducible apply Law.foldl
    | with_reducible apply Law.foldl_fst
    | with_reducible apply Law.foldl_snd
    | with_reducible apply Law.foldl_third
    | (intro _ _; try dsimp only)
    | (split <;> try dsimp only)
    | ((with_reducible apply Law.of_snd); (assumption))

theorem law_serviceShift (s : State) (n : Nat) : Law 0x2000 s (serviceShift s n) := by
  unfold serviceShift
  try dsimp only
  repeat' first
    | with_reducible apply Law.refl
    | ((with_reducible apply Law.step); (case k => with_reducible apply law_refillService); (case m => rfl))
    | with_reducible apply Law.ite
    | with_reducible apply LawO.ite
    | with_reducible apply Law.ite_snd
    | with_reducible apply Law.ite_fst
    | with_reducible apply LawO.next
    | with_reducible apply Law.cond
    | with_reducible apply Law.foldl
    | with_reducible apply Law.foldl_fst
    | with_reducible apply Law.foldl_snd
    | with_reducible apply Law.foldl_third
    | (intro _ _; try dsimp only)
    | (split <;> try dsimp only)
    | ((with_reducible apply Law.put (T := 0x2000)); (fail_if_success (case e => with_reducible rfl)); (case e => simp only [erase, Nat.testBit, Nat.reduceShiftRight, Nat.reduceAnd, Nat.reduceBNe, bne_self_eq_false, cond_true, cond_false]); (case hT => rfl); (case m => rfl))
    | ((with_reducible apply Law.of_snd); (assumption))

theorem law_execServicePortSelection (bytes : Bytes) (badPage : Nat) (hwFault : Bool) (ecc : Nat) (s : State) : LawO 0x6efffffffff s (execServicePortSelection bytes badPage hwFault ecc s) := by
  unfold execServicePortSelection
  try dsimp only
  repeat' first
    | with_reducible apply Law.refl
    | ((with_reducible apply Law.step); (case k => with_reducible first | apply law_drainWait | apply law_serviceShift | apply law_receiveMsg | apply law_serviceDiscard); (case m => rfl))
    | ((with_reducible apply law_doneIf_of); (case m => rfl))
    | with_reducible apply Law.ite
    | with_reducible apply LawO.ite
    | with_reducible apply Law.ite_snd
    | with_reducible apply Law.ite_fst
    | with_reducible apply LawO.next
    | with_reducible apply Law.cond
    | with_reducible apply Law.foldl
    | with_reducible apply Law.foldl_fst
    | with_reducible apply Law.foldl_snd
    | with_reducible apply Law.foldl_third
    | (intro _ _; try dsimp only)
    | (split <;> try dsimp only)
    | ((with_reducible apply Law.of_snd); (assumption))

theorem law_execSessionClose (m : KdpReq) (s : State) : LawO 0x6efffffffff s (execSessionClose m s) := by
  unfold execSessionClose
  try dsimp only
  repeat' first
    | with_reducible apply Law.refl
    | with_reducible apply law_writeRow
    | with_reducible apply Law.ite
    | with_reducible apply LawO.ite
    | with_reducible apply Law.ite_snd
    | with_reducible apply Law.ite_fst
    | with_reducible apply LawO.next
    | with_reducible apply Law.cond
    | with_reducible apply Law.foldl
    | with_reducible apply Law.foldl_fst
    | with_reducible apply Law.foldl_snd
    | with_reducible apply Law.foldl_third
    | (intro _ _; try dsimp only)
    | (split <;> try dsimp only)
    | ((with_reducible apply Law.of_snd); (assumption))

theorem law_execSessionOpen (m : KdpReq) (s : State) : LawO 0x6efffffffff s (execSessionOpen m s) := by
  unfold execSessionOpen
  try dsimp only
  repeat' first
    | with_reducible apply Law.refl
    | with_reducible apply law_writeRow
    | with_reducible apply Law.ite
    | with_reducible apply LawO.ite
    | with_reducible apply Law.ite_snd
    | with_reducible apply Law.ite_fst
    | with_reducible apply LawO.next
    | with_reducible apply Law.cond
    | with_reducible apply Law.foldl
    | with_reducible apply Law.foldl_fst
    | with_reducible apply Law.foldl_snd
    | with_reducible apply Law.foldl_third
    | (intro _ _; try dsimp only)
    | (split <;> try dsimp only)
    | ((with_reducible apply Law.of_snd); (assumption))

theorem law_execSnapshotExpiry (s : State) : LawO 0x1e608 s (execSnapshotExpiry s) := by
  unfold execSnapshotExpiry
  try dsimp only
  repeat' first
    | with_reducible apply Law.refl
    | ((with_reducible apply Law.step); (case k => with_reducible apply law_expireSnaps); (case m => rfl))
    | ((with_reducible apply law_doneIf_of); (case m => rfl))
    | with_reducible apply Law.ite
    | with_reducible apply LawO.ite
    | with_reducible apply Law.ite_snd
    | with_reducible apply Law.ite_fst
    | with_reducible apply LawO.next
    | with_reducible apply Law.cond
    | with_reducible apply Law.foldl
    | with_reducible apply Law.foldl_fst
    | with_reducible apply Law.foldl_snd
    | with_reducible apply Law.foldl_third
    | (intro _ _; try dsimp only)
    | (split <;> try dsimp only)
    | ((with_reducible apply Law.of_snd); (assumption))

theorem law_execSoftwareTrigger (m : KdpReq) (s : State) : LawO 0x6efffffffff s (execSoftwareTrigger m s) := by
  unfold execSoftwareTrigger
  try dsimp only
  repeat' first
    | with_reducible apply Law.refl
    | with_reducible apply law_message
    | with_reducible apply Law.ite
    | with_reducible apply LawO.ite
    | with_reducible apply Law.ite_snd
    | with_reducible apply Law.ite_fst
    | with_reducible apply LawO.next
    | with_reducible apply Law.cond
    | with_reducible apply Law.foldl
    | with_reducible apply Law.foldl_fst
    | with_reducible apply Law.foldl_snd
    | with_reducible apply Law.foldl_third
    | (intro _ _; try dsimp only)
    | (split <;> try dsimp only)
    | ((with_reducible apply Law.of_snd); (assumption))

theorem law_execStateRequest (m : KdpReq) (s : State) : LawO 0x6efffffffff s (execStateRequest m s) := by
  unfold execStateRequest
  try dsimp only
  repeat' first
    | with_reducible apply Law.refl
    | with_reducible apply law_writeRow
    | with_reducible apply Law.ite
    | with_reducible apply LawO.ite
    | with_reducible apply Law.ite_snd
    | with_reducible apply Law.ite_fst
    | with_reducible apply LawO.next
    | with_reducible apply Law.cond
    | with_reducible apply Law.foldl
    | with_reducible apply Law.foldl_fst
    | with_reducible apply Law.foldl_snd
    | with_reducible apply Law.foldl_third
    | (intro _ _; try dsimp only)
    | (split <;> try dsimp only)
    | ((with_reducible apply Law.of_snd); (assumption))

theorem law_execTestWrite (m : KdpReq) (s : State) : LawO 0x6efffffffff s (execTestWrite m s) := by
  unfold execTestWrite
  try dsimp only
  repeat' first
    | with_reducible apply Law.refl
    | with_reducible apply law_writeRow
    | with_reducible apply Law.ite
    | with_reducible apply LawO.ite
    | with_reducible apply Law.ite_snd
    | with_reducible apply Law.ite_fst
    | with_reducible apply LawO.next
    | with_reducible apply Law.cond
    | with_reducible apply Law.foldl
    | with_reducible apply Law.foldl_fst
    | with_reducible apply Law.foldl_snd
    | with_reducible apply Law.foldl_third
    | (intro _ _; try dsimp only)
    | (split <;> try dsimp only)
    | ((with_reducible apply Law.of_snd); (assumption))

theorem law_execTraceArm (m : KdpReq) (s : State) : LawO 0x6efffffffff s (execTraceArm m s) := by
  unfold execTraceArm
  try dsimp only
  repeat' first
    | with_reducible apply Law.refl
    | with_reducible apply law_writeRow
    | with_reducible apply Law.ite
    | with_reducible apply LawO.ite
    | with_reducible apply Law.ite_snd
    | with_reducible apply Law.ite_fst
    | with_reducible apply LawO.next
    | with_reducible apply Law.cond
    | with_reducible apply Law.foldl
    | with_reducible apply Law.foldl_fst
    | with_reducible apply Law.foldl_snd
    | with_reducible apply Law.foldl_third
    | (intro _ _; try dsimp only)
    | (split <;> try dsimp only)
    | ((with_reducible apply Law.of_snd); (assumption))

theorem law_execTraceDisarm (m : KdpReq) (s : State) : LawO 0x6efffffffff s (execTraceDisarm m s) := by
  unfold execTraceDisarm
  try dsimp only
  repeat' first
    | with_reducible apply Law.refl
    | with_reducible apply law_writeRow
    | with_reducible apply Law.ite
    | with_reducible apply LawO.ite
    | with_reducible apply Law.ite_snd
    | with_reducible apply Law.ite_fst
    | with_reducible apply LawO.next
    | with_reducible apply Law.cond
    | with_reducible apply Law.foldl
    | with_reducible apply Law.foldl_fst
    | with_reducible apply Law.foldl_snd
    | with_reducible apply Law.foldl_third
    | (intro _ _; try dsimp only)
    | (split <;> try dsimp only)
    | ((with_reducible apply Law.of_snd); (assumption))

theorem law_execTraceManualTrigger (m : KdpReq) (s : State) : LawO 0x6efffffffff s (execTraceManualTrigger m s) := by
  unfold execTraceManualTrigger
  try dsimp only
  repeat' first
    | with_reducible apply Law.refl
    | with_reducible apply law_writeRow
    | with_reducible apply Law.ite
    | with_reducible apply LawO.ite
    | with_reducible apply Law.ite_snd
    | with_reducible apply Law.ite_fst
    | with_reducible apply LawO.next
    | with_reducible apply Law.cond
    | with_reducible apply Law.foldl
    | with_reducible apply Law.foldl_fst
    | with_reducible apply Law.foldl_snd
    | with_reducible apply Law.foldl_third
    | (intro _ _; try dsimp only)
    | (split <;> try dsimp only)
    | ((with_reducible apply Law.of_snd); (assumption))

theorem law_execTransferTimeout (who : Requester) (tag : Nat) (s : State) : LawO 0x6effffdffff s (execTransferTimeout who tag s) := by
  unfold execTransferTimeout
  try dsimp only
  repeat' first
    | with_reducible apply Law.refl
    | ((with_reducible apply Law.step); (case k => with_reducible first | apply law_drainWait | apply law_sendFor | apply law_dropTransfer); (case m => rfl))
    | ((with_reducible apply law_doneIf_of); (case m => rfl))
    | with_reducible apply Law.ite
    | with_reducible apply LawO.ite
    | with_reducible apply Law.ite_snd
    | with_reducible apply Law.ite_fst
    | with_reducible apply LawO.next
    | with_reducible apply Law.cond
    | with_reducible apply Law.foldl
    | with_reducible apply Law.foldl_fst
    | with_reducible apply Law.foldl_snd
    | with_reducible apply Law.foldl_third
    | (intro _ _; try dsimp only)
    | (split <;> try dsimp only)
    | ((with_reducible apply Law.of_snd); (assumption))

theorem law_execTripRelease (m : KdpReq) (s : State) : LawO 0x6efffffffff s (execTripRelease m s) := by
  unfold execTripRelease
  try dsimp only
  repeat' first
    | with_reducible apply Law.refl
    | with_reducible apply law_writeRow
    | with_reducible apply Law.ite
    | with_reducible apply LawO.ite
    | with_reducible apply Law.ite_snd
    | with_reducible apply Law.ite_fst
    | with_reducible apply LawO.next
    | with_reducible apply Law.cond
    | with_reducible apply Law.foldl
    | with_reducible apply Law.foldl_fst
    | with_reducible apply Law.foldl_snd
    | with_reducible apply Law.foldl_third
    | (intro _ _; try dsimp only)
    | (split <;> try dsimp only)
    | ((with_reducible apply Law.of_snd); (assumption))

theorem law_execUnknownOp (m : KdpReq) (s : State) : LawO 0x6efffffffff s (execUnknownOp m s) := by
  unfold execUnknownOp
  try dsimp only
  repeat' first
    | with_reducible apply Law.refl
    | with_reducible apply law_message
    | with_reducible apply Law.ite
    | with_reducible apply LawO.ite
    | with_reducible apply Law.ite_snd
    | with_reducible apply Law.ite_fst
    | with_reducible apply LawO.next
    | with_reducible apply Law.cond
    | with_reducible apply Law.foldl
    | with_reducible apply Law.foldl_fst
    | with_reducible apply Law.foldl_snd
    | with_reducible apply Law.foldl_third
    | (intro _ _; try dsimp only)
    | (split <;> try dsimp only)
    | ((with_reducible apply Law.of_snd); (assumption))

theorem law_execUpdateBlock (m : KdpReq) (s : State) : LawO 0x6efffffffff s (execUpdateBlock m s) := by
  unfold execUpdateBlock
  try dsimp only
  repeat' first
    | with_reducible apply Law.refl
    | with_reducible apply law_writeRow
    | with_reducible apply Law.ite
    | with_reducible apply LawO.ite
    | with_reducible apply Law.ite_snd
    | with_reducible apply Law.ite_fst
    | with_reducible apply LawO.next
    | with_reducible apply Law.cond
    | with_reducible apply Law.foldl
    | with_reducible apply Law.foldl_fst
    | with_reducible apply Law.foldl_snd
    | with_reducible apply Law.foldl_third
    | (intro _ _; try dsimp only)
    | (split <;> try dsimp only)
    | ((with_reducible apply Law.of_snd); (assumption))

theorem law_execUpdateCancel (m : KdpReq) (s : State) : LawO 0x6efffffffff s (execUpdateCancel m s) := by
  unfold execUpdateCancel
  try dsimp only
  repeat' first
    | with_reducible apply Law.refl
    | with_reducible apply law_writeRow
    | with_reducible apply Law.ite
    | with_reducible apply LawO.ite
    | with_reducible apply Law.ite_snd
    | with_reducible apply Law.ite_fst
    | with_reducible apply LawO.next
    | with_reducible apply Law.cond
    | with_reducible apply Law.foldl
    | with_reducible apply Law.foldl_fst
    | with_reducible apply Law.foldl_snd
    | with_reducible apply Law.foldl_third
    | (intro _ _; try dsimp only)
    | (split <;> try dsimp only)
    | ((with_reducible apply Law.of_snd); (assumption))

theorem law_execUpdateRequest (m : KdpReq) (s : State) : LawO 0x6efffffffff s (execUpdateRequest m s) := by
  unfold execUpdateRequest
  try dsimp only
  repeat' first
    | with_reducible apply Law.refl
    | with_reducible apply law_writeRow
    | with_reducible apply Law.ite
    | with_reducible apply LawO.ite
    | with_reducible apply Law.ite_snd
    | with_reducible apply Law.ite_fst
    | with_reducible apply LawO.next
    | with_reducible apply Law.cond
    | with_reducible apply Law.foldl
    | with_reducible apply Law.foldl_fst
    | with_reducible apply Law.foldl_snd
    | with_reducible apply Law.foldl_third
    | (intro _ _; try dsimp only)
    | (split <;> try dsimp only)
    | ((with_reducible apply Law.of_snd); (assumption))

theorem law_execWindowUpdate (m : KdpReq) (s : State) : LawO 0x6efffffffff s (execWindowUpdate m s) := by
  unfold execWindowUpdate
  try dsimp only
  repeat' first
    | with_reducible apply Law.refl
    | with_reducible apply law_writeRow
    | with_reducible apply Law.ite
    | with_reducible apply LawO.ite
    | with_reducible apply Law.ite_snd
    | with_reducible apply Law.ite_fst
    | with_reducible apply LawO.next
    | with_reducible apply Law.cond
    | with_reducible apply Law.foldl
    | with_reducible apply Law.foldl_fst
    | with_reducible apply Law.foldl_snd
    | with_reducible apply Law.foldl_third
    | (intro _ _; try dsimp only)
    | (split <;> try dsimp only)
    | ((with_reducible apply Law.of_snd); (assumption))

theorem law_execWrite (m : KdpReq) (s : State) : LawO 0x6efffffffff s (execWrite m s) := by
  unfold execWrite
  try dsimp only
  repeat' first
    | with_reducible apply Law.refl
    | with_reducible apply law_message
    | with_reducible apply Law.ite
    | with_reducible apply LawO.ite
    | with_reducible apply Law.ite_snd
    | with_reducible apply Law.ite_fst
    | with_reducible apply LawO.next
    | with_reducible apply Law.cond
    | with_reducible apply Law.foldl
    | with_reducible apply Law.foldl_fst
    | with_reducible apply Law.foldl_snd
    | with_reducible apply Law.foldl_third
    | (intro _ _; try dsimp only)
    | (split <;> try dsimp only)
    | ((with_reducible apply Law.of_snd); (assumption))

theorem law_execWriteInitiate (m : KdpReq) (s : State) : LawO 0x6efffffffff s (execWriteInitiate m s) := by
  unfold execWriteInitiate
  try dsimp only
  repeat' first
    | with_reducible apply Law.refl
    | with_reducible apply law_message
    | with_reducible apply Law.ite
    | with_reducible apply LawO.ite
    | with_reducible apply Law.ite_snd
    | with_reducible apply Law.ite_fst
    | with_reducible apply LawO.next
    | with_reducible apply Law.cond
    | with_reducible apply Law.foldl
    | with_reducible apply Law.foldl_fst
    | with_reducible apply Law.foldl_snd
    | with_reducible apply Law.foldl_third
    | (intro _ _; try dsimp only)
    | (split <;> try dsimp only)
    | ((with_reducible apply Law.of_snd); (assumption))

theorem law_execZeroFlowCapture (m : KdpReq) (s : State) : LawO 0x6efffffffff s (execZeroFlowCapture m s) := by
  unfold execZeroFlowCapture
  try dsimp only
  repeat' first
    | with_reducible apply Law.refl
    | with_reducible apply law_writeRow
    | with_reducible apply Law.ite
    | with_reducible apply LawO.ite
    | with_reducible apply Law.ite_snd
    | with_reducible apply Law.ite_fst
    | with_reducible apply LawO.next
    | with_reducible apply Law.cond
    | with_reducible apply Law.foldl
    | with_reducible apply Law.foldl_fst
    | with_reducible apply Law.foldl_snd
    | with_reducible apply Law.foldl_third
    | (intro _ _; try dsimp only)
    | (split <;> try dsimp only)
    | ((with_reducible apply Law.of_snd); (assumption))

theorem law_execZoneBoostStart (m : KdpReq) (s : State) : LawO 0x6efffffffff s (execZoneBoostStart m s) := by
  unfold execZoneBoostStart
  try dsimp only
  repeat' first
    | with_reducible apply Law.refl
    | with_reducible apply law_writeRow
    | with_reducible apply Law.ite
    | with_reducible apply LawO.ite
    | with_reducible apply Law.ite_snd
    | with_reducible apply Law.ite_fst
    | with_reducible apply LawO.next
    | with_reducible apply Law.cond
    | with_reducible apply Law.foldl
    | with_reducible apply Law.foldl_fst
    | with_reducible apply Law.foldl_snd
    | with_reducible apply Law.foldl_third
    | (intro _ _; try dsimp only)
    | (split <;> try dsimp only)
    | ((with_reducible apply Law.of_snd); (assumption))

theorem law_execZoneEnable (m : KdpReq) (s : State) : LawO 0x6efffffffff s (execZoneEnable m s) := by
  unfold execZoneEnable
  try dsimp only
  repeat' first
    | with_reducible apply Law.refl
    | with_reducible apply law_writeRow
    | with_reducible apply Law.ite
    | with_reducible apply LawO.ite
    | with_reducible apply Law.ite_snd
    | with_reducible apply Law.ite_fst
    | with_reducible apply LawO.next
    | with_reducible apply Law.cond
    | with_reducible apply Law.foldl
    | with_reducible apply Law.foldl_fst
    | with_reducible apply Law.foldl_snd
    | with_reducible apply Law.foldl_third
    | (intro _ _; try dsimp only)
    | (split <;> try dsimp only)
    | ((with_reducible apply Law.of_snd); (assumption))

theorem law_execZoneModeRequest (m : KdpReq) (s : State) : LawO 0x6efffffffff s (execZoneModeRequest m s) := by
  unfold execZoneModeRequest
  try dsimp only
  repeat' first
    | with_reducible apply Law.refl
    | with_reducible apply law_writeRow
    | with_reducible apply Law.ite
    | with_reducible apply LawO.ite
    | with_reducible apply Law.ite_snd
    | with_reducible apply Law.ite_fst
    | with_reducible apply LawO.next
    | with_reducible apply Law.cond
    | with_reducible apply Law.foldl
    | with_reducible apply Law.foldl_fst
    | with_reducible apply Law.foldl_snd
    | with_reducible apply Law.foldl_third
    | (intro _ _; try dsimp only)
    | (split <;> try dsimp only)
    | ((with_reducible apply Law.of_snd); (assumption))

theorem law_execZoneRequestEnd (m : KdpReq) (s : State) : LawO 0x6efffffffff s (execZoneRequestEnd m s) := by
  unfold execZoneRequestEnd
  try dsimp only
  repeat' first
    | with_reducible apply Law.refl
    | with_reducible apply law_writeRow
    | with_reducible apply Law.ite
    | with_reducible apply LawO.ite
    | with_reducible apply Law.ite_snd
    | with_reducible apply Law.ite_fst
    | with_reducible apply LawO.next
    | with_reducible apply Law.cond
    | with_reducible apply Law.foldl
    | with_reducible apply Law.foldl_fst
    | with_reducible apply Law.foldl_snd
    | with_reducible apply Law.foldl_third
    | (intro _ _; try dsimp only)
    | (split <;> try dsimp only)
    | ((with_reducible apply Law.of_snd); (assumption))

theorem law_execZoneTripReset (m : KdpReq) (s : State) : LawO 0x6efffffffff s (execZoneTripReset m s) := by
  unfold execZoneTripReset
  try dsimp only
  repeat' first
    | with_reducible apply Law.refl
    | with_reducible apply law_writeRow
    | with_reducible apply Law.ite
    | with_reducible apply LawO.ite
    | with_reducible apply Law.ite_snd
    | with_reducible apply Law.ite_fst
    | with_reducible apply LawO.next
    | with_reducible apply Law.cond
    | with_reducible apply Law.foldl
    | with_reducible apply Law.foldl_fst
    | with_reducible apply Law.foldl_snd
    | with_reducible apply Law.foldl_third
    | (intro _ _; try dsimp only)
    | (split <;> try dsimp only)
    | ((with_reducible apply Law.of_snd); (assumption))

end Sys2Proof.Machine
end

