-- ==== Sys2Proof/Laws/Entries.lean ====
section
/-! SUPPORT. Reading an entry after a write, what a chain of functions may write, and conditions after raises and clears. -/

namespace Sys2Proof.Machine

/-! ## One write -/

theorem setBytes_ents (s : State) (i j : Nat) (v : Bytes) :
    (setBytes s i j v).ents = if v = dfltBytes i j then mapDel s.ents (keyOf i j) else mapSet s.ents (keyOf i j) v := by
  unfold setBytes; split <;> rfl

/-- An entry reads what was written to it. -/
theorem getBytes_setBytes (s : State) (i j : Nat) (v : Bytes) (h : s.entriesWf) : getBytes (setBytes s i j v) i j = v := by
  unfold getBytes
  rw [setBytes_ents]
  split
  · rename_i e
    rw [mapGet_del _ _ h, e]; rfl
  · rw [mapGet_set]; rfl

/-- Entries agree on a key. -/
def agree (k : Nat) (s t : State) : Prop := mapGet t.ents k = mapGet s.ents k

theorem agree_setBytes {k : Nat} (s : State) (i j : Nat) (v : Bytes) (h : keyOf i j ≠ k) : agree k s (setBytes s i j v) := by
  unfold agree
  rw [setBytes_ents]
  split
  · exact mapGet_del_ne _ h
  · exact mapGet_set_ne _ _ h

theorem agree.bytes {s t : State} {i j : Nat} (h : agree (keyOf i j) s t) : getBytes t i j = getBytes s i j := by
  unfold getBytes; rw [h]

theorem agree.trans {k : Nat} {s t u : State} (h : agree k s t) (g : agree k t u) : agree k s u := Eq.trans g h

theorem agree_of_ents {k : Nat} {s t : State} (h : t.ents = s.ents) : agree k s t := by unfold agree; rw [h]

theorem getBytes_of_ents {s t : State} (h : t.ents = s.ents) (i j : Nat) : getBytes t i j = getBytes s i j := (agree_of_ents h).bytes

theorem getN_of_bytes {s t : State} {i j : Nat} (h : getBytes t i j = getBytes s i j) : getN t i j = getN s i j := by
  unfold getN; rw [h]

/-! ## What may be written -/

/-- Only keys of the list may differ. -/
def Writes (ks : List Nat) (s t : State) : Prop := ∀ k, k ∉ ks → agree k s t

theorem Writes.refl (ks : List Nat) (s : State) : Writes ks s s := fun _ _ => rfl

theorem Writes.trans {ks : List Nat} {s t u : State} (h : Writes ks s t) (g : Writes ks t u) : Writes ks s u :=
  fun k m => (h k m).trans (g k m)

theorem Writes.mono {ks ls : List Nat} {s t : State} (h : Writes ks s t) (m : ∀ k ∈ ks, k ∈ ls) : Writes ls s t :=
  fun k n => h k fun e => n (m k e)

/-- One more function. -/
theorem Writes.step {ks ls : List Nat} {s t u : State} (h : Writes ls s t) (g : Writes ks t u) (m : ∀ k ∈ ks, k ∈ ls) : Writes ls s u :=
  h.trans (g.mono m)

/-- One more function that writes no entry. -/
theorem Writes.ents {ls : List Nat} {s t u : State} (h : Writes ls s t) (g : u.ents = t.ents) : Writes ls s u :=
  fun k m => (h k m).trans (agree_of_ents g)

theorem Writes.ite {ks : List Nat} {s a b : State} {c : Prop} [Decidable c] (h : Writes ks s a) (g : Writes ks s b) :
    Writes ks s (if c then a else b) := by split <;> assumption

theorem Writes.foldl {ks : List Nat} {α : Type} {s i : State} {f : State → α → State} {l : List α} (h : Writes ks s i)
    (g : ∀ a, ∀ x ∈ l, Writes ks a (f a x)) : Writes ks s (l.foldl f i) := by
  induction l generalizing i with
  | nil => exact h
  | cons x r ih => exact ih (h.trans (g i x (List.mem_cons_self ..))) fun a y m => g a y (List.mem_cons_of_mem _ m)

theorem Writes.only {ks : List (Nat × Nat)} {s t : State} (h : Writes (ks.map fun k => keyOf k.1 k.2) s t) : onlyEntries ks s t := by
  intro i j n
  refine (h (keyOf i j) ?_).bytes
  intro m
  obtain ⟨k, hk, e⟩ := List.mem_map.mp m
  exact n k hk e

theorem writes_setBytes (s : State) (i j : Nat) (v : Bytes) : Writes [keyOf i j] s (setBytes s i j v) :=
  fun _ m => agree_setBytes s i j v fun e => m (e ▸ List.mem_singleton.mpr rfl)
theorem writes_setN (s : State) (i j n : Nat) : Writes [keyOf i j] s (setN s i j n) := writes_setBytes _ _ _ _
theorem writes_setB (s : State) (i j : Nat) (b : Bool) : Writes [keyOf i j] s (setB s i j b) := writes_setBytes _ _ _ _
theorem writes_setF (s : State) (i j : Nat) (x : F32) : Writes [keyOf i j] s (setF s i j x) := writes_setBytes _ _ _ _
theorem writes_setI (s : State) (i j : Nat) (x : Int) : Writes [keyOf i j] s (setI s i j x) := writes_setBytes _ _ _ _
theorem writes_addN (s : State) (i j n : Nat) : Writes [keyOf i j] s (addN s i j n) := writes_setBytes _ _ _ _
theorem writes_setBit (s : State) (i j n : Nat) (b : Bool) : Writes [keyOf i j] s (setBit s i j n b) := writes_setBytes _ _ _ _

/-! ## Values -/

theorem holds_setN (s : State) (i j n : Nat) (h : s.entriesWf) : holds (setN s i j n) i j n := getBytes_setBytes s i j _ h
theorem holds_setB (s : State) (i j : Nat) (b : Bool) (h : s.entriesWf) : holds (setB s i j b) i j b.toNat := getBytes_setBytes s i j _ h
theorem holds_setF (s : State) (i j : Nat) (x : F32) (h : s.entriesWf) : holds (setF s i j x) i j x.toNat := getBytes_setBytes s i j _ h
theorem holds_setI (s : State) (i j : Nat) (x : Int) (h : s.entriesWf) : holds (setI s i j x) i j (ofSigned (8 * entSize i j) x) :=
  getBytes_setBytes s i j _ h
theorem holds_addN (s : State) (i j n : Nat) (h : s.entriesWf) : holds (addN s i j n) i j (getN s i j + n) := getBytes_setBytes s i j _ h
theorem holds_setBit (s : State) (i j n : Nat) (b : Bool) (h : s.entriesWf) : holds (setBit s i j n b) i j (putBit (getN s i j) n b) :=
  getBytes_setBytes s i j _ h

/-- A value stays through functions that do not write its entry. -/
theorem holds.keep {ks : List Nat} {s t : State} {i j n : Nat} (h : holds s i j n) (g : Writes ks s t) (m : keyOf i j ∉ ks) :
    holds t i j n := (g _ m).bytes.trans h

theorem Law.wf {T : Nat} {s t : State} (h : Law T s t) (k : s.entriesWf) : t.entriesWf := h.evolves.ents k

theorem leNat_leBytes (k n : Nat) : leNat (leBytes k n) = n % 256 ^ k := by
  induction k generalizing n with
  | zero => simp [leBytes, leNat, Nat.mod_one]
  | succ k ih =>
    have e : 256 ^ (k + 1) = 256 * 256 ^ k := by rw [Nat.pow_succ, Nat.mul_comm]
    simp only [leBytes, leNat, ih, byte, BitVec.toNat_ofNat]
    rw [e, Nat.mod_mul]

/-- The number an entry that holds n reads as. -/
theorem holds.read {s : State} {i j n : Nat} (h : holds s i j n) : getN s i j = n % 256 ^ entSize i j := by
  unfold getN; rw [h, leNat_leBytes]

/-! ## Conditions -/

theorem raised_of_conds {s t : State} (h : t.conds = s.conds) (c : Nat) : raised t c = raised s c := by unfold raised; rw [h]

theorem raised_noteEvent (s : State) (c d : Nat) : raised (noteEvent s c) d = raised s d := by
  unfold noteEvent; dsimp only; split <;> rfl

theorem raised_raiseWith (s : State) (c : Nat) (b : Bool) (d : Nat) : raised (raiseWith s c b) d = (d == c || raised s d) := by
  unfold raiseWith
  dsimp only
  split
  · rename_i h
    show (List.any (List.map _ s.conds) _) = _
    by_cases e : d = c
    · subst e
      unfold raised at h
      simp only [beq_self_eq_true, Bool.true_or, List.any_map, List.any_eq_true, Function.comp] at h ⊢
      obtain ⟨x, hx, hc⟩ := h
      refine ⟨x, hx, ?_⟩
      split <;> simp_all
    · simp only [Bool.false_or, List.any_map, beq_eq_false_iff_ne.mpr e]
      unfold raised
      congr 1
      funext x
      simp only [Function.comp]
      split
      · rename_i h2; simp [h2]
      · rfl
  · rw [raised_noteEvent]
    show (List.any (_ :: s.conds) _) = _
    simp only [List.any_cons, raised]
    congr 1
    rw [Bool.eq_iff_iff, beq_iff_eq, beq_iff_eq]; exact eq_comm

theorem raised_raise (s : State) (c d : Nat) : raised (raise s c) d = (d == c || raised s d) := raised_raiseWith s c false d
theorem raised_raiseHeld (s : State) (c d : Nat) : raised (raiseHeld s c) d = (d == c || raised s d) := raised_raiseWith s c true d

theorem raised_causeGone (s : State) (c d : Nat) : raised (causeGone s c) d = raised s d := by
  unfold causeGone raised
  simp only [List.any_map]
  congr 1
  funext x
  simp only [Function.comp]
  split
  · rename_i h; rw [h.1]
  · rfl

theorem raised_dropCond (s : State) (c d : Nat) : raised (dropCond s c) d = (d != c && raised s d) := by
  unfold dropCond
  split
  · rw [raised_noteEvent]
    show (List.any (List.filter _ s.conds) _) = _
    unfold raised
    rw [List.any_filter]
    by_cases e : d = c
    · subst e; simp
    · have : (d != c) = true := by simpa using e
      rw [this, Bool.true_and]
      congr 1
      funext x
      by_cases q : x.code = d
      · rw [q]; simp [e]
      · simp [q]
  · rename_i h
    by_cases e : d = c
    · subst e; simp_all
    · have : (d != c) = true := by simpa using e
      rw [this, Bool.true_and]

theorem raised_judge (s : State) (c : Nat) (b : Bool) (d : Nat) : raised (judge s c b) d = ((d == c && b) || raised s d) := by
  unfold judge
  split
  · rename_i h; rw [raised_raiseHeld, h, Bool.and_true]
  · rename_i h; rw [raised_causeGone]; simp [h]

theorem raised_follow (s : State) (c : Nat) (b : Bool) (d : Nat) : raised (follow s c b) d = if d = c then b else raised s d := by
  unfold follow
  split
  · rename_i h
    rw [raised_raiseHeld]
    split <;> simp_all
  · rename_i h
    rw [raised_dropCond]
    split <;> simp_all

theorem onlyConds.refl (cs : List Nat) (s : State) : onlyConds cs s s := fun _ _ => rfl

theorem onlyConds.trans {cs : List Nat} {s t u : State} (h : onlyConds cs s t) (g : onlyConds cs t u) : onlyConds cs s u :=
  fun c m => (g c m).trans (h c m)

end Sys2Proof.Machine
end

