-- ==== Sys2Proof/Laws/State.lean ====
section
/-! SUPPORT. What the writers of the state leave: one lemma per field and writer, and reads of an instance bank after a change. -/

namespace Sys2Proof.Machine

/-! ## Instance banks -/

@[simp] theorem vAt_vUpd_same {α : Type} {n : Nat} (v : Vector α n) (i : Nat) (f : α → α) (d : α) (h : i < n) : vAt (vUpd v i f) i d = f (vAt v i d) := by
  unfold vAt vUpd; simp [h]

@[simp] theorem vAt_vUpd_ne {α : Type} {n : Nat} (v : Vector α n) (i j : Nat) (f : α → α) (d : α) (h : j ≠ i) : vAt (vUpd v i f) j d = vAt v j d := by
  unfold vAt vUpd
  by_cases hi : i < n
  · by_cases hj : j < n
    · simp only [hi, hj, dif_pos]; exact Vector.getElem_set_ne _ _ (Ne.symm h)
    · simp [hj]
  · simp [hi]

theorem vAt_map {α β : Type} {n : Nat} (v : Vector α n) (f : α → β) (i : Nat) (d : α) (e : β) (h : i < n) : vAt (v.map f) i e = f (vAt v i d) := by
  unfold vAt; simp [h]

/-! ## Entries -/

@[simp] theorem setBytes_pending (s : State) (i j : Nat) (v : Bytes) : (setBytes s i j v).pending = s.pending := by unfold setBytes; split <;> rfl
@[simp] theorem setBytes_power (s : State) (i j : Nat) (v : Bytes) : (setBytes s i j v).power = s.power := by unfold setBytes; split <;> rfl
@[simp] theorem setBytes_clock (s : State) (i j : Nat) (v : Bytes) : (setBytes s i j v).clock = s.clock := by unfold setBytes; split <;> rfl
@[simp] theorem setBytes_thermos (s : State) (i j : Nat) (v : Bytes) : (setBytes s i j v).thermos = s.thermos := by unfold setBytes; split <;> rfl
@[simp] theorem setBytes_stor (s : State) (i j : Nat) (v : Bytes) : (setBytes s i j v).stor = s.stor := by unfold setBytes; split <;> rfl
@[simp] theorem setBytes_conds (s : State) (i j : Nat) (v : Bytes) : (setBytes s i j v).conds = s.conds := by unfold setBytes; split <;> rfl
@[simp] theorem setBytes_kdp (s : State) (i j : Nat) (v : Bytes) : (setBytes s i j v).kdp = s.kdp := by unfold setBytes; split <;> rfl
@[simp] theorem setBytes_bus (s : State) (i j : Nat) (v : Bytes) : (setBytes s i j v).bus = s.bus := by unfold setBytes; split <;> rfl
@[simp] theorem setBytes_net (s : State) (i j : Nat) (v : Bytes) : (setBytes s i j v).net = s.net := by unfold setBytes; split <;> rfl
@[simp] theorem setBytes_alarms (s : State) (i j : Nat) (v : Bytes) : (setBytes s i j v).alarms = s.alarms := by unfold setBytes; split <;> rfl
@[simp] theorem setBytes_audit (s : State) (i j : Nat) (v : Bytes) : (setBytes s i j v).audit = s.audit := by unfold setBytes; split <;> rfl
@[simp] theorem setBytes_kiln (s : State) (i j : Nat) (v : Bytes) : (setBytes s i j v).kiln = s.kiln := by unfold setBytes; split <;> rfl
@[simp] theorem setBytes_update (s : State) (i j : Nat) (v : Bytes) : (setBytes s i j v).update = s.update := by unfold setBytes; split <;> rfl
@[simp] theorem setBytes_ports (s : State) (i j : Nat) (v : Bytes) : (setBytes s i j v).ports = s.ports := by unfold setBytes; split <;> rfl
@[simp] theorem setBytes_convs (s : State) (i j : Nat) (v : Bytes) : (setBytes s i j v).convs = s.convs := by unfold setBytes; split <;> rfl
@[simp] theorem setBytes_syncs (s : State) (i j : Nat) (v : Bytes) : (setBytes s i j v).syncs = s.syncs := by unfold setBytes; split <;> rfl
@[simp] theorem setBytes_lanes (s : State) (i j : Nat) (v : Bytes) : (setBytes s i j v).lanes = s.lanes := by unfold setBytes; split <;> rfl
@[simp] theorem setBytes_cal (s : State) (i j : Nat) (v : Bytes) : (setBytes s i j v).cal = s.cal := by unfold setBytes; split <;> rfl
@[simp] theorem setBytes_meters (s : State) (i j : Nat) (v : Bytes) : (setBytes s i j v).meters = s.meters := by unfold setBytes; split <;> rfl
@[simp] theorem setBytes_counters (s : State) (i j : Nat) (v : Bytes) : (setBytes s i j v).counters = s.counters := by unfold setBytes; split <;> rfl
@[simp] theorem setBytes_interval (s : State) (i j : Nat) (v : Bytes) : (setBytes s i j v).interval = s.interval := by unfold setBytes; split <;> rfl
@[simp] theorem setBytes_loops (s : State) (i j : Nat) (v : Bytes) : (setBytes s i j v).loops = s.loops := by unfold setBytes; split <;> rfl
@[simp] theorem setBytes_reps (s : State) (i j : Nat) (v : Bytes) : (setBytes s i j v).reps = s.reps := by unfold setBytes; split <;> rfl
@[simp] theorem setBytes_groups (s : State) (i j : Nat) (v : Bytes) : (setBytes s i j v).groups = s.groups := by unfold setBytes; split <;> rfl
@[simp] theorem setBytes_traces (s : State) (i j : Nat) (v : Bytes) : (setBytes s i j v).traces = s.traces := by unfold setBytes; split <;> rfl
@[simp] theorem setBytes_zones (s : State) (i j : Nat) (v : Bytes) : (setBytes s i j v).zones = s.zones := by unfold setBytes; split <;> rfl
@[simp] theorem setBytes_display (s : State) (i j : Nat) (v : Bytes) : (setBytes s i j v).display = s.display := by unfold setBytes; split <;> rfl
@[simp] theorem setBytes_indicators (s : State) (i j : Nat) (v : Bytes) : (setBytes s i j v).indicators = s.indicators := by unfold setBytes; split <;> rfl
@[simp] theorem setBytes_health (s : State) (i j : Nat) (v : Bytes) : (setBytes s i j v).health = s.health := by unfold setBytes; split <;> rfl
@[simp] theorem setBytes_used (s : State) (i j : Nat) (v : Bytes) : (setBytes s i j v).used = s.used := by unfold setBytes; split <;> rfl
@[simp] theorem setN_pending (s : State) (i j n : Nat) : (setN s i j n).pending = s.pending := setBytes_pending ..
@[simp] theorem setN_power (s : State) (i j n : Nat) : (setN s i j n).power = s.power := setBytes_power ..
@[simp] theorem setN_clock (s : State) (i j n : Nat) : (setN s i j n).clock = s.clock := setBytes_clock ..
@[simp] theorem setN_thermos (s : State) (i j n : Nat) : (setN s i j n).thermos = s.thermos := setBytes_thermos ..
@[simp] theorem setN_stor (s : State) (i j n : Nat) : (setN s i j n).stor = s.stor := setBytes_stor ..
@[simp] theorem setN_conds (s : State) (i j n : Nat) : (setN s i j n).conds = s.conds := setBytes_conds ..
@[simp] theorem setN_kdp (s : State) (i j n : Nat) : (setN s i j n).kdp = s.kdp := setBytes_kdp ..
@[simp] theorem setN_bus (s : State) (i j n : Nat) : (setN s i j n).bus = s.bus := setBytes_bus ..
@[simp] theorem setN_net (s : State) (i j n : Nat) : (setN s i j n).net = s.net := setBytes_net ..
@[simp] theorem setN_alarms (s : State) (i j n : Nat) : (setN s i j n).alarms = s.alarms := setBytes_alarms ..
@[simp] theorem setN_audit (s : State) (i j n : Nat) : (setN s i j n).audit = s.audit := setBytes_audit ..
@[simp] theorem setN_kiln (s : State) (i j n : Nat) : (setN s i j n).kiln = s.kiln := setBytes_kiln ..
@[simp] theorem setN_update (s : State) (i j n : Nat) : (setN s i j n).update = s.update := setBytes_update ..
@[simp] theorem setN_ports (s : State) (i j n : Nat) : (setN s i j n).ports = s.ports := setBytes_ports ..
@[simp] theorem setN_convs (s : State) (i j n : Nat) : (setN s i j n).convs = s.convs := setBytes_convs ..
@[simp] theorem setN_syncs (s : State) (i j n : Nat) : (setN s i j n).syncs = s.syncs := setBytes_syncs ..
@[simp] theorem setN_lanes (s : State) (i j n : Nat) : (setN s i j n).lanes = s.lanes := setBytes_lanes ..
@[simp] theorem setN_cal (s : State) (i j n : Nat) : (setN s i j n).cal = s.cal := setBytes_cal ..
@[simp] theorem setN_meters (s : State) (i j n : Nat) : (setN s i j n).meters = s.meters := setBytes_meters ..
@[simp] theorem setN_counters (s : State) (i j n : Nat) : (setN s i j n).counters = s.counters := setBytes_counters ..
@[simp] theorem setN_interval (s : State) (i j n : Nat) : (setN s i j n).interval = s.interval := setBytes_interval ..
@[simp] theorem setN_loops (s : State) (i j n : Nat) : (setN s i j n).loops = s.loops := setBytes_loops ..
@[simp] theorem setN_reps (s : State) (i j n : Nat) : (setN s i j n).reps = s.reps := setBytes_reps ..
@[simp] theorem setN_groups (s : State) (i j n : Nat) : (setN s i j n).groups = s.groups := setBytes_groups ..
@[simp] theorem setN_traces (s : State) (i j n : Nat) : (setN s i j n).traces = s.traces := setBytes_traces ..
@[simp] theorem setN_zones (s : State) (i j n : Nat) : (setN s i j n).zones = s.zones := setBytes_zones ..
@[simp] theorem setN_display (s : State) (i j n : Nat) : (setN s i j n).display = s.display := setBytes_display ..
@[simp] theorem setN_indicators (s : State) (i j n : Nat) : (setN s i j n).indicators = s.indicators := setBytes_indicators ..
@[simp] theorem setN_health (s : State) (i j n : Nat) : (setN s i j n).health = s.health := setBytes_health ..
@[simp] theorem setN_used (s : State) (i j n : Nat) : (setN s i j n).used = s.used := setBytes_used ..
@[simp] theorem setB_pending (s : State) (i j : Nat) (b : Bool) : (setB s i j b).pending = s.pending := setBytes_pending ..
@[simp] theorem setB_power (s : State) (i j : Nat) (b : Bool) : (setB s i j b).power = s.power := setBytes_power ..
@[simp] theorem setB_clock (s : State) (i j : Nat) (b : Bool) : (setB s i j b).clock = s.clock := setBytes_clock ..
@[simp] theorem setB_thermos (s : State) (i j : Nat) (b : Bool) : (setB s i j b).thermos = s.thermos := setBytes_thermos ..
@[simp] theorem setB_stor (s : State) (i j : Nat) (b : Bool) : (setB s i j b).stor = s.stor := setBytes_stor ..
@[simp] theorem setB_conds (s : State) (i j : Nat) (b : Bool) : (setB s i j b).conds = s.conds := setBytes_conds ..
@[simp] theorem setB_kdp (s : State) (i j : Nat) (b : Bool) : (setB s i j b).kdp = s.kdp := setBytes_kdp ..
@[simp] theorem setB_bus (s : State) (i j : Nat) (b : Bool) : (setB s i j b).bus = s.bus := setBytes_bus ..
@[simp] theorem setB_net (s : State) (i j : Nat) (b : Bool) : (setB s i j b).net = s.net := setBytes_net ..
@[simp] theorem setB_alarms (s : State) (i j : Nat) (b : Bool) : (setB s i j b).alarms = s.alarms := setBytes_alarms ..
@[simp] theorem setB_audit (s : State) (i j : Nat) (b : Bool) : (setB s i j b).audit = s.audit := setBytes_audit ..
@[simp] theorem setB_kiln (s : State) (i j : Nat) (b : Bool) : (setB s i j b).kiln = s.kiln := setBytes_kiln ..
@[simp] theorem setB_update (s : State) (i j : Nat) (b : Bool) : (setB s i j b).update = s.update := setBytes_update ..
@[simp] theorem setB_ports (s : State) (i j : Nat) (b : Bool) : (setB s i j b).ports = s.ports := setBytes_ports ..
@[simp] theorem setB_convs (s : State) (i j : Nat) (b : Bool) : (setB s i j b).convs = s.convs := setBytes_convs ..
@[simp] theorem setB_syncs (s : State) (i j : Nat) (b : Bool) : (setB s i j b).syncs = s.syncs := setBytes_syncs ..
@[simp] theorem setB_lanes (s : State) (i j : Nat) (b : Bool) : (setB s i j b).lanes = s.lanes := setBytes_lanes ..
@[simp] theorem setB_cal (s : State) (i j : Nat) (b : Bool) : (setB s i j b).cal = s.cal := setBytes_cal ..
@[simp] theorem setB_meters (s : State) (i j : Nat) (b : Bool) : (setB s i j b).meters = s.meters := setBytes_meters ..
@[simp] theorem setB_counters (s : State) (i j : Nat) (b : Bool) : (setB s i j b).counters = s.counters := setBytes_counters ..
@[simp] theorem setB_interval (s : State) (i j : Nat) (b : Bool) : (setB s i j b).interval = s.interval := setBytes_interval ..
@[simp] theorem setB_loops (s : State) (i j : Nat) (b : Bool) : (setB s i j b).loops = s.loops := setBytes_loops ..
@[simp] theorem setB_reps (s : State) (i j : Nat) (b : Bool) : (setB s i j b).reps = s.reps := setBytes_reps ..
@[simp] theorem setB_groups (s : State) (i j : Nat) (b : Bool) : (setB s i j b).groups = s.groups := setBytes_groups ..
@[simp] theorem setB_traces (s : State) (i j : Nat) (b : Bool) : (setB s i j b).traces = s.traces := setBytes_traces ..
@[simp] theorem setB_zones (s : State) (i j : Nat) (b : Bool) : (setB s i j b).zones = s.zones := setBytes_zones ..
@[simp] theorem setB_display (s : State) (i j : Nat) (b : Bool) : (setB s i j b).display = s.display := setBytes_display ..
@[simp] theorem setB_indicators (s : State) (i j : Nat) (b : Bool) : (setB s i j b).indicators = s.indicators := setBytes_indicators ..
@[simp] theorem setB_health (s : State) (i j : Nat) (b : Bool) : (setB s i j b).health = s.health := setBytes_health ..
@[simp] theorem setB_used (s : State) (i j : Nat) (b : Bool) : (setB s i j b).used = s.used := setBytes_used ..
@[simp] theorem setF_pending (s : State) (i j : Nat) (x : F32) : (setF s i j x).pending = s.pending := setBytes_pending ..
@[simp] theorem setF_power (s : State) (i j : Nat) (x : F32) : (setF s i j x).power = s.power := setBytes_power ..
@[simp] theorem setF_clock (s : State) (i j : Nat) (x : F32) : (setF s i j x).clock = s.clock := setBytes_clock ..
@[simp] theorem setF_thermos (s : State) (i j : Nat) (x : F32) : (setF s i j x).thermos = s.thermos := setBytes_thermos ..
@[simp] theorem setF_stor (s : State) (i j : Nat) (x : F32) : (setF s i j x).stor = s.stor := setBytes_stor ..
@[simp] theorem setF_conds (s : State) (i j : Nat) (x : F32) : (setF s i j x).conds = s.conds := setBytes_conds ..
@[simp] theorem setF_kdp (s : State) (i j : Nat) (x : F32) : (setF s i j x).kdp = s.kdp := setBytes_kdp ..
@[simp] theorem setF_bus (s : State) (i j : Nat) (x : F32) : (setF s i j x).bus = s.bus := setBytes_bus ..
@[simp] theorem setF_net (s : State) (i j : Nat) (x : F32) : (setF s i j x).net = s.net := setBytes_net ..
@[simp] theorem setF_alarms (s : State) (i j : Nat) (x : F32) : (setF s i j x).alarms = s.alarms := setBytes_alarms ..
@[simp] theorem setF_audit (s : State) (i j : Nat) (x : F32) : (setF s i j x).audit = s.audit := setBytes_audit ..
@[simp] theorem setF_kiln (s : State) (i j : Nat) (x : F32) : (setF s i j x).kiln = s.kiln := setBytes_kiln ..
@[simp] theorem setF_update (s : State) (i j : Nat) (x : F32) : (setF s i j x).update = s.update := setBytes_update ..
@[simp] theorem setF_ports (s : State) (i j : Nat) (x : F32) : (setF s i j x).ports = s.ports := setBytes_ports ..
@[simp] theorem setF_convs (s : State) (i j : Nat) (x : F32) : (setF s i j x).convs = s.convs := setBytes_convs ..
@[simp] theorem setF_syncs (s : State) (i j : Nat) (x : F32) : (setF s i j x).syncs = s.syncs := setBytes_syncs ..
@[simp] theorem setF_lanes (s : State) (i j : Nat) (x : F32) : (setF s i j x).lanes = s.lanes := setBytes_lanes ..
@[simp] theorem setF_cal (s : State) (i j : Nat) (x : F32) : (setF s i j x).cal = s.cal := setBytes_cal ..
@[simp] theorem setF_meters (s : State) (i j : Nat) (x : F32) : (setF s i j x).meters = s.meters := setBytes_meters ..
@[simp] theorem setF_counters (s : State) (i j : Nat) (x : F32) : (setF s i j x).counters = s.counters := setBytes_counters ..
@[simp] theorem setF_interval (s : State) (i j : Nat) (x : F32) : (setF s i j x).interval = s.interval := setBytes_interval ..
@[simp] theorem setF_loops (s : State) (i j : Nat) (x : F32) : (setF s i j x).loops = s.loops := setBytes_loops ..
@[simp] theorem setF_reps (s : State) (i j : Nat) (x : F32) : (setF s i j x).reps = s.reps := setBytes_reps ..
@[simp] theorem setF_groups (s : State) (i j : Nat) (x : F32) : (setF s i j x).groups = s.groups := setBytes_groups ..
@[simp] theorem setF_traces (s : State) (i j : Nat) (x : F32) : (setF s i j x).traces = s.traces := setBytes_traces ..
@[simp] theorem setF_zones (s : State) (i j : Nat) (x : F32) : (setF s i j x).zones = s.zones := setBytes_zones ..
@[simp] theorem setF_display (s : State) (i j : Nat) (x : F32) : (setF s i j x).display = s.display := setBytes_display ..
@[simp] theorem setF_indicators (s : State) (i j : Nat) (x : F32) : (setF s i j x).indicators = s.indicators := setBytes_indicators ..
@[simp] theorem setF_health (s : State) (i j : Nat) (x : F32) : (setF s i j x).health = s.health := setBytes_health ..
@[simp] theorem setF_used (s : State) (i j : Nat) (x : F32) : (setF s i j x).used = s.used := setBytes_used ..
@[simp] theorem setI_pending (s : State) (i j : Nat) (x : Int) : (setI s i j x).pending = s.pending := setBytes_pending ..
@[simp] theorem setI_power (s : State) (i j : Nat) (x : Int) : (setI s i j x).power = s.power := setBytes_power ..
@[simp] theorem setI_clock (s : State) (i j : Nat) (x : Int) : (setI s i j x).clock = s.clock := setBytes_clock ..
@[simp] theorem setI_thermos (s : State) (i j : Nat) (x : Int) : (setI s i j x).thermos = s.thermos := setBytes_thermos ..
@[simp] theorem setI_stor (s : State) (i j : Nat) (x : Int) : (setI s i j x).stor = s.stor := setBytes_stor ..
@[simp] theorem setI_conds (s : State) (i j : Nat) (x : Int) : (setI s i j x).conds = s.conds := setBytes_conds ..
@[simp] theorem setI_kdp (s : State) (i j : Nat) (x : Int) : (setI s i j x).kdp = s.kdp := setBytes_kdp ..
@[simp] theorem setI_bus (s : State) (i j : Nat) (x : Int) : (setI s i j x).bus = s.bus := setBytes_bus ..
@[simp] theorem setI_net (s : State) (i j : Nat) (x : Int) : (setI s i j x).net = s.net := setBytes_net ..
@[simp] theorem setI_alarms (s : State) (i j : Nat) (x : Int) : (setI s i j x).alarms = s.alarms := setBytes_alarms ..
@[simp] theorem setI_audit (s : State) (i j : Nat) (x : Int) : (setI s i j x).audit = s.audit := setBytes_audit ..
@[simp] theorem setI_kiln (s : State) (i j : Nat) (x : Int) : (setI s i j x).kiln = s.kiln := setBytes_kiln ..
@[simp] theorem setI_update (s : State) (i j : Nat) (x : Int) : (setI s i j x).update = s.update := setBytes_update ..
@[simp] theorem setI_ports (s : State) (i j : Nat) (x : Int) : (setI s i j x).ports = s.ports := setBytes_ports ..
@[simp] theorem setI_convs (s : State) (i j : Nat) (x : Int) : (setI s i j x).convs = s.convs := setBytes_convs ..
@[simp] theorem setI_syncs (s : State) (i j : Nat) (x : Int) : (setI s i j x).syncs = s.syncs := setBytes_syncs ..
@[simp] theorem setI_lanes (s : State) (i j : Nat) (x : Int) : (setI s i j x).lanes = s.lanes := setBytes_lanes ..
@[simp] theorem setI_cal (s : State) (i j : Nat) (x : Int) : (setI s i j x).cal = s.cal := setBytes_cal ..
@[simp] theorem setI_meters (s : State) (i j : Nat) (x : Int) : (setI s i j x).meters = s.meters := setBytes_meters ..
@[simp] theorem setI_counters (s : State) (i j : Nat) (x : Int) : (setI s i j x).counters = s.counters := setBytes_counters ..
@[simp] theorem setI_interval (s : State) (i j : Nat) (x : Int) : (setI s i j x).interval = s.interval := setBytes_interval ..
@[simp] theorem setI_loops (s : State) (i j : Nat) (x : Int) : (setI s i j x).loops = s.loops := setBytes_loops ..
@[simp] theorem setI_reps (s : State) (i j : Nat) (x : Int) : (setI s i j x).reps = s.reps := setBytes_reps ..
@[simp] theorem setI_groups (s : State) (i j : Nat) (x : Int) : (setI s i j x).groups = s.groups := setBytes_groups ..
@[simp] theorem setI_traces (s : State) (i j : Nat) (x : Int) : (setI s i j x).traces = s.traces := setBytes_traces ..
@[simp] theorem setI_zones (s : State) (i j : Nat) (x : Int) : (setI s i j x).zones = s.zones := setBytes_zones ..
@[simp] theorem setI_display (s : State) (i j : Nat) (x : Int) : (setI s i j x).display = s.display := setBytes_display ..
@[simp] theorem setI_indicators (s : State) (i j : Nat) (x : Int) : (setI s i j x).indicators = s.indicators := setBytes_indicators ..
@[simp] theorem setI_health (s : State) (i j : Nat) (x : Int) : (setI s i j x).health = s.health := setBytes_health ..
@[simp] theorem setI_used (s : State) (i j : Nat) (x : Int) : (setI s i j x).used = s.used := setBytes_used ..
@[simp] theorem addN_pending (s : State) (i j n : Nat) : (addN s i j n).pending = s.pending := setBytes_pending ..
@[simp] theorem addN_power (s : State) (i j n : Nat) : (addN s i j n).power = s.power := setBytes_power ..
@[simp] theorem addN_clock (s : State) (i j n : Nat) : (addN s i j n).clock = s.clock := setBytes_clock ..
@[simp] theorem addN_thermos (s : State) (i j n : Nat) : (addN s i j n).thermos = s.thermos := setBytes_thermos ..
@[simp] theorem addN_stor (s : State) (i j n : Nat) : (addN s i j n).stor = s.stor := setBytes_stor ..
@[simp] theorem addN_conds (s : State) (i j n : Nat) : (addN s i j n).conds = s.conds := setBytes_conds ..
@[simp] theorem addN_kdp (s : State) (i j n : Nat) : (addN s i j n).kdp = s.kdp := setBytes_kdp ..
@[simp] theorem addN_bus (s : State) (i j n : Nat) : (addN s i j n).bus = s.bus := setBytes_bus ..
@[simp] theorem addN_net (s : State) (i j n : Nat) : (addN s i j n).net = s.net := setBytes_net ..
@[simp] theorem addN_alarms (s : State) (i j n : Nat) : (addN s i j n).alarms = s.alarms := setBytes_alarms ..
@[simp] theorem addN_audit (s : State) (i j n : Nat) : (addN s i j n).audit = s.audit := setBytes_audit ..
@[simp] theorem addN_kiln (s : State) (i j n : Nat) : (addN s i j n).kiln = s.kiln := setBytes_kiln ..
@[simp] theorem addN_update (s : State) (i j n : Nat) : (addN s i j n).update = s.update := setBytes_update ..
@[simp] theorem addN_ports (s : State) (i j n : Nat) : (addN s i j n).ports = s.ports := setBytes_ports ..
@[simp] theorem addN_convs (s : State) (i j n : Nat) : (addN s i j n).convs = s.convs := setBytes_convs ..
@[simp] theorem addN_syncs (s : State) (i j n : Nat) : (addN s i j n).syncs = s.syncs := setBytes_syncs ..
@[simp] theorem addN_lanes (s : State) (i j n : Nat) : (addN s i j n).lanes = s.lanes := setBytes_lanes ..
@[simp] theorem addN_cal (s : State) (i j n : Nat) : (addN s i j n).cal = s.cal := setBytes_cal ..
@[simp] theorem addN_meters (s : State) (i j n : Nat) : (addN s i j n).meters = s.meters := setBytes_meters ..
@[simp] theorem addN_counters (s : State) (i j n : Nat) : (addN s i j n).counters = s.counters := setBytes_counters ..
@[simp] theorem addN_interval (s : State) (i j n : Nat) : (addN s i j n).interval = s.interval := setBytes_interval ..
@[simp] theorem addN_loops (s : State) (i j n : Nat) : (addN s i j n).loops = s.loops := setBytes_loops ..
@[simp] theorem addN_reps (s : State) (i j n : Nat) : (addN s i j n).reps = s.reps := setBytes_reps ..
@[simp] theorem addN_groups (s : State) (i j n : Nat) : (addN s i j n).groups = s.groups := setBytes_groups ..
@[simp] theorem addN_traces (s : State) (i j n : Nat) : (addN s i j n).traces = s.traces := setBytes_traces ..
@[simp] theorem addN_zones (s : State) (i j n : Nat) : (addN s i j n).zones = s.zones := setBytes_zones ..
@[simp] theorem addN_display (s : State) (i j n : Nat) : (addN s i j n).display = s.display := setBytes_display ..
@[simp] theorem addN_indicators (s : State) (i j n : Nat) : (addN s i j n).indicators = s.indicators := setBytes_indicators ..
@[simp] theorem addN_health (s : State) (i j n : Nat) : (addN s i j n).health = s.health := setBytes_health ..
@[simp] theorem addN_used (s : State) (i j n : Nat) : (addN s i j n).used = s.used := setBytes_used ..
@[simp] theorem setBit_pending (s : State) (i j n : Nat) (b : Bool) : (setBit s i j n b).pending = s.pending := setBytes_pending ..
@[simp] theorem setBit_power (s : State) (i j n : Nat) (b : Bool) : (setBit s i j n b).power = s.power := setBytes_power ..
@[simp] theorem setBit_clock (s : State) (i j n : Nat) (b : Bool) : (setBit s i j n b).clock = s.clock := setBytes_clock ..
@[simp] theorem setBit_thermos (s : State) (i j n : Nat) (b : Bool) : (setBit s i j n b).thermos = s.thermos := setBytes_thermos ..
@[simp] theorem setBit_stor (s : State) (i j n : Nat) (b : Bool) : (setBit s i j n b).stor = s.stor := setBytes_stor ..
@[simp] theorem setBit_conds (s : State) (i j n : Nat) (b : Bool) : (setBit s i j n b).conds = s.conds := setBytes_conds ..
@[simp] theorem setBit_kdp (s : State) (i j n : Nat) (b : Bool) : (setBit s i j n b).kdp = s.kdp := setBytes_kdp ..
@[simp] theorem setBit_bus (s : State) (i j n : Nat) (b : Bool) : (setBit s i j n b).bus = s.bus := setBytes_bus ..
@[simp] theorem setBit_net (s : State) (i j n : Nat) (b : Bool) : (setBit s i j n b).net = s.net := setBytes_net ..
@[simp] theorem setBit_alarms (s : State) (i j n : Nat) (b : Bool) : (setBit s i j n b).alarms = s.alarms := setBytes_alarms ..
@[simp] theorem setBit_audit (s : State) (i j n : Nat) (b : Bool) : (setBit s i j n b).audit = s.audit := setBytes_audit ..
@[simp] theorem setBit_kiln (s : State) (i j n : Nat) (b : Bool) : (setBit s i j n b).kiln = s.kiln := setBytes_kiln ..
@[simp] theorem setBit_update (s : State) (i j n : Nat) (b : Bool) : (setBit s i j n b).update = s.update := setBytes_update ..
@[simp] theorem setBit_ports (s : State) (i j n : Nat) (b : Bool) : (setBit s i j n b).ports = s.ports := setBytes_ports ..
@[simp] theorem setBit_convs (s : State) (i j n : Nat) (b : Bool) : (setBit s i j n b).convs = s.convs := setBytes_convs ..
@[simp] theorem setBit_syncs (s : State) (i j n : Nat) (b : Bool) : (setBit s i j n b).syncs = s.syncs := setBytes_syncs ..
@[simp] theorem setBit_lanes (s : State) (i j n : Nat) (b : Bool) : (setBit s i j n b).lanes = s.lanes := setBytes_lanes ..
@[simp] theorem setBit_cal (s : State) (i j n : Nat) (b : Bool) : (setBit s i j n b).cal = s.cal := setBytes_cal ..
@[simp] theorem setBit_meters (s : State) (i j n : Nat) (b : Bool) : (setBit s i j n b).meters = s.meters := setBytes_meters ..
@[simp] theorem setBit_counters (s : State) (i j n : Nat) (b : Bool) : (setBit s i j n b).counters = s.counters := setBytes_counters ..
@[simp] theorem setBit_interval (s : State) (i j n : Nat) (b : Bool) : (setBit s i j n b).interval = s.interval := setBytes_interval ..
@[simp] theorem setBit_loops (s : State) (i j n : Nat) (b : Bool) : (setBit s i j n b).loops = s.loops := setBytes_loops ..
@[simp] theorem setBit_reps (s : State) (i j n : Nat) (b : Bool) : (setBit s i j n b).reps = s.reps := setBytes_reps ..
@[simp] theorem setBit_groups (s : State) (i j n : Nat) (b : Bool) : (setBit s i j n b).groups = s.groups := setBytes_groups ..
@[simp] theorem setBit_traces (s : State) (i j n : Nat) (b : Bool) : (setBit s i j n b).traces = s.traces := setBytes_traces ..
@[simp] theorem setBit_zones (s : State) (i j n : Nat) (b : Bool) : (setBit s i j n b).zones = s.zones := setBytes_zones ..
@[simp] theorem setBit_display (s : State) (i j n : Nat) (b : Bool) : (setBit s i j n b).display = s.display := setBytes_display ..
@[simp] theorem setBit_indicators (s : State) (i j n : Nat) (b : Bool) : (setBit s i j n b).indicators = s.indicators := setBytes_indicators ..
@[simp] theorem setBit_health (s : State) (i j n : Nat) (b : Bool) : (setBit s i j n b).health = s.health := setBytes_health ..
@[simp] theorem setBit_used (s : State) (i j n : Nat) (b : Bool) : (setBit s i j n b).used = s.used := setBytes_used ..

/-! ## Conditions -/

@[simp] theorem noteEvent_pending (s : State) (c : Nat) : (noteEvent s c).pending = s.pending := by unfold noteEvent; dsimp only; split <;> rfl
@[simp] theorem noteEvent_power (s : State) (c : Nat) : (noteEvent s c).power = s.power := by unfold noteEvent; dsimp only; split <;> rfl
@[simp] theorem noteEvent_clock (s : State) (c : Nat) : (noteEvent s c).clock = s.clock := by unfold noteEvent; dsimp only; split <;> rfl
@[simp] theorem noteEvent_thermos (s : State) (c : Nat) : (noteEvent s c).thermos = s.thermos := by unfold noteEvent; dsimp only; split <;> rfl
@[simp] theorem noteEvent_ents (s : State) (c : Nat) : (noteEvent s c).ents = s.ents := by unfold noteEvent; dsimp only; split <;> rfl
@[simp] theorem noteEvent_stor (s : State) (c : Nat) : (noteEvent s c).stor = s.stor := by unfold noteEvent; dsimp only; split <;> rfl
@[simp] theorem noteEvent_bus (s : State) (c : Nat) : (noteEvent s c).bus = s.bus := by unfold noteEvent; dsimp only; split <;> rfl
@[simp] theorem noteEvent_net (s : State) (c : Nat) : (noteEvent s c).net = s.net := by unfold noteEvent; dsimp only; split <;> rfl
@[simp] theorem noteEvent_alarms (s : State) (c : Nat) : (noteEvent s c).alarms = s.alarms := by unfold noteEvent; dsimp only; split <;> rfl
@[simp] theorem noteEvent_audit (s : State) (c : Nat) : (noteEvent s c).audit = s.audit := by unfold noteEvent; dsimp only; split <;> rfl
@[simp] theorem noteEvent_kiln (s : State) (c : Nat) : (noteEvent s c).kiln = s.kiln := by unfold noteEvent; dsimp only; split <;> rfl
@[simp] theorem noteEvent_update (s : State) (c : Nat) : (noteEvent s c).update = s.update := by unfold noteEvent; dsimp only; split <;> rfl
@[simp] theorem noteEvent_ports (s : State) (c : Nat) : (noteEvent s c).ports = s.ports := by unfold noteEvent; dsimp only; split <;> rfl
@[simp] theorem noteEvent_convs (s : State) (c : Nat) : (noteEvent s c).convs = s.convs := by unfold noteEvent; dsimp only; split <;> rfl
@[simp] theorem noteEvent_syncs (s : State) (c : Nat) : (noteEvent s c).syncs = s.syncs := by unfold noteEvent; dsimp only; split <;> rfl
@[simp] theorem noteEvent_lanes (s : State) (c : Nat) : (noteEvent s c).lanes = s.lanes := by unfold noteEvent; dsimp only; split <;> rfl
@[simp] theorem noteEvent_cal (s : State) (c : Nat) : (noteEvent s c).cal = s.cal := by unfold noteEvent; dsimp only; split <;> rfl
@[simp] theorem noteEvent_meters (s : State) (c : Nat) : (noteEvent s c).meters = s.meters := by unfold noteEvent; dsimp only; split <;> rfl
@[simp] theorem noteEvent_counters (s : State) (c : Nat) : (noteEvent s c).counters = s.counters := by unfold noteEvent; dsimp only; split <;> rfl
@[simp] theorem noteEvent_interval (s : State) (c : Nat) : (noteEvent s c).interval = s.interval := by unfold noteEvent; dsimp only; split <;> rfl
@[simp] theorem noteEvent_loops (s : State) (c : Nat) : (noteEvent s c).loops = s.loops := by unfold noteEvent; dsimp only; split <;> rfl
@[simp] theorem noteEvent_reps (s : State) (c : Nat) : (noteEvent s c).reps = s.reps := by unfold noteEvent; dsimp only; split <;> rfl
@[simp] theorem noteEvent_groups (s : State) (c : Nat) : (noteEvent s c).groups = s.groups := by unfold noteEvent; dsimp only; split <;> rfl
@[simp] theorem noteEvent_traces (s : State) (c : Nat) : (noteEvent s c).traces = s.traces := by unfold noteEvent; dsimp only; split <;> rfl
@[simp] theorem noteEvent_zones (s : State) (c : Nat) : (noteEvent s c).zones = s.zones := by unfold noteEvent; dsimp only; split <;> rfl
@[simp] theorem noteEvent_display (s : State) (c : Nat) : (noteEvent s c).display = s.display := by unfold noteEvent; dsimp only; split <;> rfl
@[simp] theorem noteEvent_indicators (s : State) (c : Nat) : (noteEvent s c).indicators = s.indicators := by unfold noteEvent; dsimp only; split <;> rfl
@[simp] theorem noteEvent_health (s : State) (c : Nat) : (noteEvent s c).health = s.health := by unfold noteEvent; dsimp only; split <;> rfl
@[simp] theorem noteEvent_used (s : State) (c : Nat) : (noteEvent s c).used = s.used := by unfold noteEvent; dsimp only; split <;> rfl
@[simp] theorem raiseWith_pending (s : State) (c : Nat) (b : Bool) : (raiseWith s c b).pending = s.pending := by unfold raiseWith; dsimp only; split <;> simp
@[simp] theorem raiseWith_power (s : State) (c : Nat) (b : Bool) : (raiseWith s c b).power = s.power := by unfold raiseWith; dsimp only; split <;> simp
@[simp] theorem raiseWith_clock (s : State) (c : Nat) (b : Bool) : (raiseWith s c b).clock = s.clock := by unfold raiseWith; dsimp only; split <;> simp
@[simp] theorem raiseWith_thermos (s : State) (c : Nat) (b : Bool) : (raiseWith s c b).thermos = s.thermos := by unfold raiseWith; dsimp only; split <;> simp
@[simp] theorem raiseWith_ents (s : State) (c : Nat) (b : Bool) : (raiseWith s c b).ents = s.ents := by unfold raiseWith; dsimp only; split <;> simp
@[simp] theorem raiseWith_stor (s : State) (c : Nat) (b : Bool) : (raiseWith s c b).stor = s.stor := by unfold raiseWith; dsimp only; split <;> simp
@[simp] theorem raiseWith_bus (s : State) (c : Nat) (b : Bool) : (raiseWith s c b).bus = s.bus := by unfold raiseWith; dsimp only; split <;> simp
@[simp] theorem raiseWith_net (s : State) (c : Nat) (b : Bool) : (raiseWith s c b).net = s.net := by unfold raiseWith; dsimp only; split <;> simp
@[simp] theorem raiseWith_alarms (s : State) (c : Nat) (b : Bool) : (raiseWith s c b).alarms = s.alarms := by unfold raiseWith; dsimp only; split <;> simp
@[simp] theorem raiseWith_audit (s : State) (c : Nat) (b : Bool) : (raiseWith s c b).audit = s.audit := by unfold raiseWith; dsimp only; split <;> simp
@[simp] theorem raiseWith_kiln (s : State) (c : Nat) (b : Bool) : (raiseWith s c b).kiln = s.kiln := by unfold raiseWith; dsimp only; split <;> simp
@[simp] theorem raiseWith_update (s : State) (c : Nat) (b : Bool) : (raiseWith s c b).update = s.update := by unfold raiseWith; dsimp only; split <;> simp
@[simp] theorem raiseWith_ports (s : State) (c : Nat) (b : Bool) : (raiseWith s c b).ports = s.ports := by unfold raiseWith; dsimp only; split <;> simp
@[simp] theorem raiseWith_convs (s : State) (c : Nat) (b : Bool) : (raiseWith s c b).convs = s.convs := by unfold raiseWith; dsimp only; split <;> simp
@[simp] theorem raiseWith_syncs (s : State) (c : Nat) (b : Bool) : (raiseWith s c b).syncs = s.syncs := by unfold raiseWith; dsimp only; split <;> simp
@[simp] theorem raiseWith_lanes (s : State) (c : Nat) (b : Bool) : (raiseWith s c b).lanes = s.lanes := by unfold raiseWith; dsimp only; split <;> simp
@[simp] theorem raiseWith_cal (s : State) (c : Nat) (b : Bool) : (raiseWith s c b).cal = s.cal := by unfold raiseWith; dsimp only; split <;> simp
@[simp] theorem raiseWith_meters (s : State) (c : Nat) (b : Bool) : (raiseWith s c b).meters = s.meters := by unfold raiseWith; dsimp only; split <;> simp
@[simp] theorem raiseWith_counters (s : State) (c : Nat) (b : Bool) : (raiseWith s c b).counters = s.counters := by unfold raiseWith; dsimp only; split <;> simp
@[simp] theorem raiseWith_interval (s : State) (c : Nat) (b : Bool) : (raiseWith s c b).interval = s.interval := by unfold raiseWith; dsimp only; split <;> simp
@[simp] theorem raiseWith_loops (s : State) (c : Nat) (b : Bool) : (raiseWith s c b).loops = s.loops := by unfold raiseWith; dsimp only; split <;> simp
@[simp] theorem raiseWith_reps (s : State) (c : Nat) (b : Bool) : (raiseWith s c b).reps = s.reps := by unfold raiseWith; dsimp only; split <;> simp
@[simp] theorem raiseWith_groups (s : State) (c : Nat) (b : Bool) : (raiseWith s c b).groups = s.groups := by unfold raiseWith; dsimp only; split <;> simp
@[simp] theorem raiseWith_traces (s : State) (c : Nat) (b : Bool) : (raiseWith s c b).traces = s.traces := by unfold raiseWith; dsimp only; split <;> simp
@[simp] theorem raiseWith_zones (s : State) (c : Nat) (b : Bool) : (raiseWith s c b).zones = s.zones := by unfold raiseWith; dsimp only; split <;> simp
@[simp] theorem raiseWith_display (s : State) (c : Nat) (b : Bool) : (raiseWith s c b).display = s.display := by unfold raiseWith; dsimp only; split <;> simp
@[simp] theorem raiseWith_indicators (s : State) (c : Nat) (b : Bool) : (raiseWith s c b).indicators = s.indicators := by unfold raiseWith; dsimp only; split <;> simp
@[simp] theorem raiseWith_health (s : State) (c : Nat) (b : Bool) : (raiseWith s c b).health = s.health := by unfold raiseWith; dsimp only; split <;> simp
@[simp] theorem raiseWith_used (s : State) (c : Nat) (b : Bool) : (raiseWith s c b).used = s.used := by unfold raiseWith; dsimp only; split <;> simp
@[simp] theorem raise_pending (s : State) (c : Nat) : (raise s c).pending = s.pending := raiseWith_pending ..
@[simp] theorem raise_power (s : State) (c : Nat) : (raise s c).power = s.power := raiseWith_power ..
@[simp] theorem raise_clock (s : State) (c : Nat) : (raise s c).clock = s.clock := raiseWith_clock ..
@[simp] theorem raise_thermos (s : State) (c : Nat) : (raise s c).thermos = s.thermos := raiseWith_thermos ..
@[simp] theorem raise_ents (s : State) (c : Nat) : (raise s c).ents = s.ents := raiseWith_ents ..
@[simp] theorem raise_stor (s : State) (c : Nat) : (raise s c).stor = s.stor := raiseWith_stor ..
@[simp] theorem raise_bus (s : State) (c : Nat) : (raise s c).bus = s.bus := raiseWith_bus ..
@[simp] theorem raise_net (s : State) (c : Nat) : (raise s c).net = s.net := raiseWith_net ..
@[simp] theorem raise_alarms (s : State) (c : Nat) : (raise s c).alarms = s.alarms := raiseWith_alarms ..
@[simp] theorem raise_audit (s : State) (c : Nat) : (raise s c).audit = s.audit := raiseWith_audit ..
@[simp] theorem raise_kiln (s : State) (c : Nat) : (raise s c).kiln = s.kiln := raiseWith_kiln ..
@[simp] theorem raise_update (s : State) (c : Nat) : (raise s c).update = s.update := raiseWith_update ..
@[simp] theorem raise_ports (s : State) (c : Nat) : (raise s c).ports = s.ports := raiseWith_ports ..
@[simp] theorem raise_convs (s : State) (c : Nat) : (raise s c).convs = s.convs := raiseWith_convs ..
@[simp] theorem raise_syncs (s : State) (c : Nat) : (raise s c).syncs = s.syncs := raiseWith_syncs ..
@[simp] theorem raise_lanes (s : State) (c : Nat) : (raise s c).lanes = s.lanes := raiseWith_lanes ..
@[simp] theorem raise_cal (s : State) (c : Nat) : (raise s c).cal = s.cal := raiseWith_cal ..
@[simp] theorem raise_meters (s : State) (c : Nat) : (raise s c).meters = s.meters := raiseWith_meters ..
@[simp] theorem raise_counters (s : State) (c : Nat) : (raise s c).counters = s.counters := raiseWith_counters ..
@[simp] theorem raise_interval (s : State) (c : Nat) : (raise s c).interval = s.interval := raiseWith_interval ..
@[simp] theorem raise_loops (s : State) (c : Nat) : (raise s c).loops = s.loops := raiseWith_loops ..
@[simp] theorem raise_reps (s : State) (c : Nat) : (raise s c).reps = s.reps := raiseWith_reps ..
@[simp] theorem raise_groups (s : State) (c : Nat) : (raise s c).groups = s.groups := raiseWith_groups ..
@[simp] theorem raise_traces (s : State) (c : Nat) : (raise s c).traces = s.traces := raiseWith_traces ..
@[simp] theorem raise_zones (s : State) (c : Nat) : (raise s c).zones = s.zones := raiseWith_zones ..
@[simp] theorem raise_display (s : State) (c : Nat) : (raise s c).display = s.display := raiseWith_display ..
@[simp] theorem raise_indicators (s : State) (c : Nat) : (raise s c).indicators = s.indicators := raiseWith_indicators ..
@[simp] theorem raise_health (s : State) (c : Nat) : (raise s c).health = s.health := raiseWith_health ..
@[simp] theorem raise_used (s : State) (c : Nat) : (raise s c).used = s.used := raiseWith_used ..
@[simp] theorem raiseHeld_pending (s : State) (c : Nat) : (raiseHeld s c).pending = s.pending := raiseWith_pending ..
@[simp] theorem raiseHeld_power (s : State) (c : Nat) : (raiseHeld s c).power = s.power := raiseWith_power ..
@[simp] theorem raiseHeld_clock (s : State) (c : Nat) : (raiseHeld s c).clock = s.clock := raiseWith_clock ..
@[simp] theorem raiseHeld_thermos (s : State) (c : Nat) : (raiseHeld s c).thermos = s.thermos := raiseWith_thermos ..
@[simp] theorem raiseHeld_ents (s : State) (c : Nat) : (raiseHeld s c).ents = s.ents := raiseWith_ents ..
@[simp] theorem raiseHeld_stor (s : State) (c : Nat) : (raiseHeld s c).stor = s.stor := raiseWith_stor ..
@[simp] theorem raiseHeld_bus (s : State) (c : Nat) : (raiseHeld s c).bus = s.bus := raiseWith_bus ..
@[simp] theorem raiseHeld_net (s : State) (c : Nat) : (raiseHeld s c).net = s.net := raiseWith_net ..
@[simp] theorem raiseHeld_alarms (s : State) (c : Nat) : (raiseHeld s c).alarms = s.alarms := raiseWith_alarms ..
@[simp] theorem raiseHeld_audit (s : State) (c : Nat) : (raiseHeld s c).audit = s.audit := raiseWith_audit ..
@[simp] theorem raiseHeld_kiln (s : State) (c : Nat) : (raiseHeld s c).kiln = s.kiln := raiseWith_kiln ..
@[simp] theorem raiseHeld_update (s : State) (c : Nat) : (raiseHeld s c).update = s.update := raiseWith_update ..
@[simp] theorem raiseHeld_ports (s : State) (c : Nat) : (raiseHeld s c).ports = s.ports := raiseWith_ports ..
@[simp] theorem raiseHeld_convs (s : State) (c : Nat) : (raiseHeld s c).convs = s.convs := raiseWith_convs ..
@[simp] theorem raiseHeld_syncs (s : State) (c : Nat) : (raiseHeld s c).syncs = s.syncs := raiseWith_syncs ..
@[simp] theorem raiseHeld_lanes (s : State) (c : Nat) : (raiseHeld s c).lanes = s.lanes := raiseWith_lanes ..
@[simp] theorem raiseHeld_cal (s : State) (c : Nat) : (raiseHeld s c).cal = s.cal := raiseWith_cal ..
@[simp] theorem raiseHeld_meters (s : State) (c : Nat) : (raiseHeld s c).meters = s.meters := raiseWith_meters ..
@[simp] theorem raiseHeld_counters (s : State) (c : Nat) : (raiseHeld s c).counters = s.counters := raiseWith_counters ..
@[simp] theorem raiseHeld_interval (s : State) (c : Nat) : (raiseHeld s c).interval = s.interval := raiseWith_interval ..
@[simp] theorem raiseHeld_loops (s : State) (c : Nat) : (raiseHeld s c).loops = s.loops := raiseWith_loops ..
@[simp] theorem raiseHeld_reps (s : State) (c : Nat) : (raiseHeld s c).reps = s.reps := raiseWith_reps ..
@[simp] theorem raiseHeld_groups (s : State) (c : Nat) : (raiseHeld s c).groups = s.groups := raiseWith_groups ..
@[simp] theorem raiseHeld_traces (s : State) (c : Nat) : (raiseHeld s c).traces = s.traces := raiseWith_traces ..
@[simp] theorem raiseHeld_zones (s : State) (c : Nat) : (raiseHeld s c).zones = s.zones := raiseWith_zones ..
@[simp] theorem raiseHeld_display (s : State) (c : Nat) : (raiseHeld s c).display = s.display := raiseWith_display ..
@[simp] theorem raiseHeld_indicators (s : State) (c : Nat) : (raiseHeld s c).indicators = s.indicators := raiseWith_indicators ..
@[simp] theorem raiseHeld_health (s : State) (c : Nat) : (raiseHeld s c).health = s.health := raiseWith_health ..
@[simp] theorem raiseHeld_used (s : State) (c : Nat) : (raiseHeld s c).used = s.used := raiseWith_used ..
@[simp] theorem causeGone_pending (s : State) (c : Nat) : (causeGone s c).pending = s.pending := rfl
@[simp] theorem causeGone_power (s : State) (c : Nat) : (causeGone s c).power = s.power := rfl
@[simp] theorem causeGone_clock (s : State) (c : Nat) : (causeGone s c).clock = s.clock := rfl
@[simp] theorem causeGone_thermos (s : State) (c : Nat) : (causeGone s c).thermos = s.thermos := rfl
@[simp] theorem causeGone_ents (s : State) (c : Nat) : (causeGone s c).ents = s.ents := rfl
@[simp] theorem causeGone_stor (s : State) (c : Nat) : (causeGone s c).stor = s.stor := rfl
@[simp] theorem causeGone_bus (s : State) (c : Nat) : (causeGone s c).bus = s.bus := rfl
@[simp] theorem causeGone_net (s : State) (c : Nat) : (causeGone s c).net = s.net := rfl
@[simp] theorem causeGone_alarms (s : State) (c : Nat) : (causeGone s c).alarms = s.alarms := rfl
@[simp] theorem causeGone_audit (s : State) (c : Nat) : (causeGone s c).audit = s.audit := rfl
@[simp] theorem causeGone_kiln (s : State) (c : Nat) : (causeGone s c).kiln = s.kiln := rfl
@[simp] theorem causeGone_update (s : State) (c : Nat) : (causeGone s c).update = s.update := rfl
@[simp] theorem causeGone_ports (s : State) (c : Nat) : (causeGone s c).ports = s.ports := rfl
@[simp] theorem causeGone_convs (s : State) (c : Nat) : (causeGone s c).convs = s.convs := rfl
@[simp] theorem causeGone_syncs (s : State) (c : Nat) : (causeGone s c).syncs = s.syncs := rfl
@[simp] theorem causeGone_lanes (s : State) (c : Nat) : (causeGone s c).lanes = s.lanes := rfl
@[simp] theorem causeGone_cal (s : State) (c : Nat) : (causeGone s c).cal = s.cal := rfl
@[simp] theorem causeGone_meters (s : State) (c : Nat) : (causeGone s c).meters = s.meters := rfl
@[simp] theorem causeGone_counters (s : State) (c : Nat) : (causeGone s c).counters = s.counters := rfl
@[simp] theorem causeGone_interval (s : State) (c : Nat) : (causeGone s c).interval = s.interval := rfl
@[simp] theorem causeGone_loops (s : State) (c : Nat) : (causeGone s c).loops = s.loops := rfl
@[simp] theorem causeGone_reps (s : State) (c : Nat) : (causeGone s c).reps = s.reps := rfl
@[simp] theorem causeGone_groups (s : State) (c : Nat) : (causeGone s c).groups = s.groups := rfl
@[simp] theorem causeGone_traces (s : State) (c : Nat) : (causeGone s c).traces = s.traces := rfl
@[simp] theorem causeGone_zones (s : State) (c : Nat) : (causeGone s c).zones = s.zones := rfl
@[simp] theorem causeGone_display (s : State) (c : Nat) : (causeGone s c).display = s.display := rfl
@[simp] theorem causeGone_indicators (s : State) (c : Nat) : (causeGone s c).indicators = s.indicators := rfl
@[simp] theorem causeGone_health (s : State) (c : Nat) : (causeGone s c).health = s.health := rfl
@[simp] theorem causeGone_used (s : State) (c : Nat) : (causeGone s c).used = s.used := rfl
@[simp] theorem dropCond_pending (s : State) (c : Nat) : (dropCond s c).pending = s.pending := by unfold dropCond; split <;> simp
@[simp] theorem dropCond_power (s : State) (c : Nat) : (dropCond s c).power = s.power := by unfold dropCond; split <;> simp
@[simp] theorem dropCond_clock (s : State) (c : Nat) : (dropCond s c).clock = s.clock := by unfold dropCond; split <;> simp
@[simp] theorem dropCond_thermos (s : State) (c : Nat) : (dropCond s c).thermos = s.thermos := by unfold dropCond; split <;> simp
@[simp] theorem dropCond_ents (s : State) (c : Nat) : (dropCond s c).ents = s.ents := by unfold dropCond; split <;> simp
@[simp] theorem dropCond_stor (s : State) (c : Nat) : (dropCond s c).stor = s.stor := by unfold dropCond; split <;> simp
@[simp] theorem dropCond_bus (s : State) (c : Nat) : (dropCond s c).bus = s.bus := by unfold dropCond; split <;> simp
@[simp] theorem dropCond_net (s : State) (c : Nat) : (dropCond s c).net = s.net := by unfold dropCond; split <;> simp
@[simp] theorem dropCond_alarms (s : State) (c : Nat) : (dropCond s c).alarms = s.alarms := by unfold dropCond; split <;> simp
@[simp] theorem dropCond_audit (s : State) (c : Nat) : (dropCond s c).audit = s.audit := by unfold dropCond; split <;> simp
@[simp] theorem dropCond_kiln (s : State) (c : Nat) : (dropCond s c).kiln = s.kiln := by unfold dropCond; split <;> simp
@[simp] theorem dropCond_update (s : State) (c : Nat) : (dropCond s c).update = s.update := by unfold dropCond; split <;> simp
@[simp] theorem dropCond_ports (s : State) (c : Nat) : (dropCond s c).ports = s.ports := by unfold dropCond; split <;> simp
@[simp] theorem dropCond_convs (s : State) (c : Nat) : (dropCond s c).convs = s.convs := by unfold dropCond; split <;> simp
@[simp] theorem dropCond_syncs (s : State) (c : Nat) : (dropCond s c).syncs = s.syncs := by unfold dropCond; split <;> simp
@[simp] theorem dropCond_lanes (s : State) (c : Nat) : (dropCond s c).lanes = s.lanes := by unfold dropCond; split <;> simp
@[simp] theorem dropCond_cal (s : State) (c : Nat) : (dropCond s c).cal = s.cal := by unfold dropCond; split <;> simp
@[simp] theorem dropCond_meters (s : State) (c : Nat) : (dropCond s c).meters = s.meters := by unfold dropCond; split <;> simp
@[simp] theorem dropCond_counters (s : State) (c : Nat) : (dropCond s c).counters = s.counters := by unfold dropCond; split <;> simp
@[simp] theorem dropCond_interval (s : State) (c : Nat) : (dropCond s c).interval = s.interval := by unfold dropCond; split <;> simp
@[simp] theorem dropCond_loops (s : State) (c : Nat) : (dropCond s c).loops = s.loops := by unfold dropCond; split <;> simp
@[simp] theorem dropCond_reps (s : State) (c : Nat) : (dropCond s c).reps = s.reps := by unfold dropCond; split <;> simp
@[simp] theorem dropCond_groups (s : State) (c : Nat) : (dropCond s c).groups = s.groups := by unfold dropCond; split <;> simp
@[simp] theorem dropCond_traces (s : State) (c : Nat) : (dropCond s c).traces = s.traces := by unfold dropCond; split <;> simp
@[simp] theorem dropCond_zones (s : State) (c : Nat) : (dropCond s c).zones = s.zones := by unfold dropCond; split <;> simp
@[simp] theorem dropCond_display (s : State) (c : Nat) : (dropCond s c).display = s.display := by unfold dropCond; split <;> simp
@[simp] theorem dropCond_indicators (s : State) (c : Nat) : (dropCond s c).indicators = s.indicators := by unfold dropCond; split <;> simp
@[simp] theorem dropCond_health (s : State) (c : Nat) : (dropCond s c).health = s.health := by unfold dropCond; split <;> simp
@[simp] theorem dropCond_used (s : State) (c : Nat) : (dropCond s c).used = s.used := by unfold dropCond; split <;> simp
@[simp] theorem judge_pending (s : State) (c : Nat) (b : Bool) : (judge s c b).pending = s.pending := by unfold judge; split <;> simp
@[simp] theorem judge_power (s : State) (c : Nat) (b : Bool) : (judge s c b).power = s.power := by unfold judge; split <;> simp
@[simp] theorem judge_clock (s : State) (c : Nat) (b : Bool) : (judge s c b).clock = s.clock := by unfold judge; split <;> simp
@[simp] theorem judge_thermos (s : State) (c : Nat) (b : Bool) : (judge s c b).thermos = s.thermos := by unfold judge; split <;> simp
@[simp] theorem judge_ents (s : State) (c : Nat) (b : Bool) : (judge s c b).ents = s.ents := by unfold judge; split <;> simp
@[simp] theorem judge_stor (s : State) (c : Nat) (b : Bool) : (judge s c b).stor = s.stor := by unfold judge; split <;> simp
@[simp] theorem judge_bus (s : State) (c : Nat) (b : Bool) : (judge s c b).bus = s.bus := by unfold judge; split <;> simp
@[simp] theorem judge_net (s : State) (c : Nat) (b : Bool) : (judge s c b).net = s.net := by unfold judge; split <;> simp
@[simp] theorem judge_alarms (s : State) (c : Nat) (b : Bool) : (judge s c b).alarms = s.alarms := by unfold judge; split <;> simp
@[simp] theorem judge_audit (s : State) (c : Nat) (b : Bool) : (judge s c b).audit = s.audit := by unfold judge; split <;> simp
@[simp] theorem judge_kiln (s : State) (c : Nat) (b : Bool) : (judge s c b).kiln = s.kiln := by unfold judge; split <;> simp
@[simp] theorem judge_update (s : State) (c : Nat) (b : Bool) : (judge s c b).update = s.update := by unfold judge; split <;> simp
@[simp] theorem judge_ports (s : State) (c : Nat) (b : Bool) : (judge s c b).ports = s.ports := by unfold judge; split <;> simp
@[simp] theorem judge_convs (s : State) (c : Nat) (b : Bool) : (judge s c b).convs = s.convs := by unfold judge; split <;> simp
@[simp] theorem judge_syncs (s : State) (c : Nat) (b : Bool) : (judge s c b).syncs = s.syncs := by unfold judge; split <;> simp
@[simp] theorem judge_lanes (s : State) (c : Nat) (b : Bool) : (judge s c b).lanes = s.lanes := by unfold judge; split <;> simp
@[simp] theorem judge_cal (s : State) (c : Nat) (b : Bool) : (judge s c b).cal = s.cal := by unfold judge; split <;> simp
@[simp] theorem judge_meters (s : State) (c : Nat) (b : Bool) : (judge s c b).meters = s.meters := by unfold judge; split <;> simp
@[simp] theorem judge_counters (s : State) (c : Nat) (b : Bool) : (judge s c b).counters = s.counters := by unfold judge; split <;> simp
@[simp] theorem judge_interval (s : State) (c : Nat) (b : Bool) : (judge s c b).interval = s.interval := by unfold judge; split <;> simp
@[simp] theorem judge_loops (s : State) (c : Nat) (b : Bool) : (judge s c b).loops = s.loops := by unfold judge; split <;> simp
@[simp] theorem judge_reps (s : State) (c : Nat) (b : Bool) : (judge s c b).reps = s.reps := by unfold judge; split <;> simp
@[simp] theorem judge_groups (s : State) (c : Nat) (b : Bool) : (judge s c b).groups = s.groups := by unfold judge; split <;> simp
@[simp] theorem judge_traces (s : State) (c : Nat) (b : Bool) : (judge s c b).traces = s.traces := by unfold judge; split <;> simp
@[simp] theorem judge_zones (s : State) (c : Nat) (b : Bool) : (judge s c b).zones = s.zones := by unfold judge; split <;> simp
@[simp] theorem judge_display (s : State) (c : Nat) (b : Bool) : (judge s c b).display = s.display := by unfold judge; split <;> simp
@[simp] theorem judge_indicators (s : State) (c : Nat) (b : Bool) : (judge s c b).indicators = s.indicators := by unfold judge; split <;> simp
@[simp] theorem judge_health (s : State) (c : Nat) (b : Bool) : (judge s c b).health = s.health := by unfold judge; split <;> simp
@[simp] theorem judge_used (s : State) (c : Nat) (b : Bool) : (judge s c b).used = s.used := by unfold judge; split <;> simp
@[simp] theorem follow_pending (s : State) (c : Nat) (b : Bool) : (follow s c b).pending = s.pending := by unfold follow; split <;> simp
@[simp] theorem follow_power (s : State) (c : Nat) (b : Bool) : (follow s c b).power = s.power := by unfold follow; split <;> simp
@[simp] theorem follow_clock (s : State) (c : Nat) (b : Bool) : (follow s c b).clock = s.clock := by unfold follow; split <;> simp
@[simp] theorem follow_thermos (s : State) (c : Nat) (b : Bool) : (follow s c b).thermos = s.thermos := by unfold follow; split <;> simp
@[simp] theorem follow_ents (s : State) (c : Nat) (b : Bool) : (follow s c b).ents = s.ents := by unfold follow; split <;> simp
@[simp] theorem follow_stor (s : State) (c : Nat) (b : Bool) : (follow s c b).stor = s.stor := by unfold follow; split <;> simp
@[simp] theorem follow_bus (s : State) (c : Nat) (b : Bool) : (follow s c b).bus = s.bus := by unfold follow; split <;> simp
@[simp] theorem follow_net (s : State) (c : Nat) (b : Bool) : (follow s c b).net = s.net := by unfold follow; split <;> simp
@[simp] theorem follow_alarms (s : State) (c : Nat) (b : Bool) : (follow s c b).alarms = s.alarms := by unfold follow; split <;> simp
@[simp] theorem follow_audit (s : State) (c : Nat) (b : Bool) : (follow s c b).audit = s.audit := by unfold follow; split <;> simp
@[simp] theorem follow_kiln (s : State) (c : Nat) (b : Bool) : (follow s c b).kiln = s.kiln := by unfold follow; split <;> simp
@[simp] theorem follow_update (s : State) (c : Nat) (b : Bool) : (follow s c b).update = s.update := by unfold follow; split <;> simp
@[simp] theorem follow_ports (s : State) (c : Nat) (b : Bool) : (follow s c b).ports = s.ports := by unfold follow; split <;> simp
@[simp] theorem follow_convs (s : State) (c : Nat) (b : Bool) : (follow s c b).convs = s.convs := by unfold follow; split <;> simp
@[simp] theorem follow_syncs (s : State) (c : Nat) (b : Bool) : (follow s c b).syncs = s.syncs := by unfold follow; split <;> simp
@[simp] theorem follow_lanes (s : State) (c : Nat) (b : Bool) : (follow s c b).lanes = s.lanes := by unfold follow; split <;> simp
@[simp] theorem follow_cal (s : State) (c : Nat) (b : Bool) : (follow s c b).cal = s.cal := by unfold follow; split <;> simp
@[simp] theorem follow_meters (s : State) (c : Nat) (b : Bool) : (follow s c b).meters = s.meters := by unfold follow; split <;> simp
@[simp] theorem follow_counters (s : State) (c : Nat) (b : Bool) : (follow s c b).counters = s.counters := by unfold follow; split <;> simp
@[simp] theorem follow_interval (s : State) (c : Nat) (b : Bool) : (follow s c b).interval = s.interval := by unfold follow; split <;> simp
@[simp] theorem follow_loops (s : State) (c : Nat) (b : Bool) : (follow s c b).loops = s.loops := by unfold follow; split <;> simp
@[simp] theorem follow_reps (s : State) (c : Nat) (b : Bool) : (follow s c b).reps = s.reps := by unfold follow; split <;> simp
@[simp] theorem follow_groups (s : State) (c : Nat) (b : Bool) : (follow s c b).groups = s.groups := by unfold follow; split <;> simp
@[simp] theorem follow_traces (s : State) (c : Nat) (b : Bool) : (follow s c b).traces = s.traces := by unfold follow; split <;> simp
@[simp] theorem follow_zones (s : State) (c : Nat) (b : Bool) : (follow s c b).zones = s.zones := by unfold follow; split <;> simp
@[simp] theorem follow_display (s : State) (c : Nat) (b : Bool) : (follow s c b).display = s.display := by unfold follow; split <;> simp
@[simp] theorem follow_indicators (s : State) (c : Nat) (b : Bool) : (follow s c b).indicators = s.indicators := by unfold follow; split <;> simp
@[simp] theorem follow_health (s : State) (c : Nat) (b : Bool) : (follow s c b).health = s.health := by unfold follow; split <;> simp
@[simp] theorem follow_used (s : State) (c : Nat) (b : Bool) : (follow s c b).used = s.used := by unfold follow; split <;> simp

/-! ## Single instances -/

@[simp] theorem updPort_pending (s : State) (n : Nat) (f : PortSt → PortSt) : (updPort s n f).pending = s.pending := rfl
@[simp] theorem updPort_power (s : State) (n : Nat) (f : PortSt → PortSt) : (updPort s n f).power = s.power := rfl
@[simp] theorem updPort_clock (s : State) (n : Nat) (f : PortSt → PortSt) : (updPort s n f).clock = s.clock := rfl
@[simp] theorem updPort_thermos (s : State) (n : Nat) (f : PortSt → PortSt) : (updPort s n f).thermos = s.thermos := rfl
@[simp] theorem updPort_ents (s : State) (n : Nat) (f : PortSt → PortSt) : (updPort s n f).ents = s.ents := rfl
@[simp] theorem updPort_stor (s : State) (n : Nat) (f : PortSt → PortSt) : (updPort s n f).stor = s.stor := rfl
@[simp] theorem updPort_conds (s : State) (n : Nat) (f : PortSt → PortSt) : (updPort s n f).conds = s.conds := rfl
@[simp] theorem updPort_kdp (s : State) (n : Nat) (f : PortSt → PortSt) : (updPort s n f).kdp = s.kdp := rfl
@[simp] theorem updPort_bus (s : State) (n : Nat) (f : PortSt → PortSt) : (updPort s n f).bus = s.bus := rfl
@[simp] theorem updPort_net (s : State) (n : Nat) (f : PortSt → PortSt) : (updPort s n f).net = s.net := rfl
@[simp] theorem updPort_alarms (s : State) (n : Nat) (f : PortSt → PortSt) : (updPort s n f).alarms = s.alarms := rfl
@[simp] theorem updPort_audit (s : State) (n : Nat) (f : PortSt → PortSt) : (updPort s n f).audit = s.audit := rfl
@[simp] theorem updPort_kiln (s : State) (n : Nat) (f : PortSt → PortSt) : (updPort s n f).kiln = s.kiln := rfl
@[simp] theorem updPort_update (s : State) (n : Nat) (f : PortSt → PortSt) : (updPort s n f).update = s.update := rfl
@[simp] theorem updPort_convs (s : State) (n : Nat) (f : PortSt → PortSt) : (updPort s n f).convs = s.convs := rfl
@[simp] theorem updPort_syncs (s : State) (n : Nat) (f : PortSt → PortSt) : (updPort s n f).syncs = s.syncs := rfl
@[simp] theorem updPort_lanes (s : State) (n : Nat) (f : PortSt → PortSt) : (updPort s n f).lanes = s.lanes := rfl
@[simp] theorem updPort_cal (s : State) (n : Nat) (f : PortSt → PortSt) : (updPort s n f).cal = s.cal := rfl
@[simp] theorem updPort_meters (s : State) (n : Nat) (f : PortSt → PortSt) : (updPort s n f).meters = s.meters := rfl
@[simp] theorem updPort_counters (s : State) (n : Nat) (f : PortSt → PortSt) : (updPort s n f).counters = s.counters := rfl
@[simp] theorem updPort_interval (s : State) (n : Nat) (f : PortSt → PortSt) : (updPort s n f).interval = s.interval := rfl
@[simp] theorem updPort_loops (s : State) (n : Nat) (f : PortSt → PortSt) : (updPort s n f).loops = s.loops := rfl
@[simp] theorem updPort_reps (s : State) (n : Nat) (f : PortSt → PortSt) : (updPort s n f).reps = s.reps := rfl
@[simp] theorem updPort_groups (s : State) (n : Nat) (f : PortSt → PortSt) : (updPort s n f).groups = s.groups := rfl
@[simp] theorem updPort_traces (s : State) (n : Nat) (f : PortSt → PortSt) : (updPort s n f).traces = s.traces := rfl
@[simp] theorem updPort_zones (s : State) (n : Nat) (f : PortSt → PortSt) : (updPort s n f).zones = s.zones := rfl
@[simp] theorem updPort_display (s : State) (n : Nat) (f : PortSt → PortSt) : (updPort s n f).display = s.display := rfl
@[simp] theorem updPort_indicators (s : State) (n : Nat) (f : PortSt → PortSt) : (updPort s n f).indicators = s.indicators := rfl
@[simp] theorem updPort_health (s : State) (n : Nat) (f : PortSt → PortSt) : (updPort s n f).health = s.health := rfl
@[simp] theorem updPort_used (s : State) (n : Nat) (f : PortSt → PortSt) : (updPort s n f).used = s.used := rfl
@[simp] theorem portAt_updPort_same (s : State) (n : Nat) (f : PortSt → PortSt) (h : n < 64) : portAt (updPort s n f) n = f (portAt s n) := vAt_vUpd_same _ _ _ _ h
@[simp] theorem portAt_updPort_ne (s : State) (n m : Nat) (f : PortSt → PortSt) (h : m ≠ n) : portAt (updPort s n f) m = portAt s m := vAt_vUpd_ne _ _ _ _ _ h
@[simp] theorem updConv_pending (s : State) (n : Nat) (f : ConvSt → ConvSt) : (updConv s n f).pending = s.pending := rfl
@[simp] theorem updConv_power (s : State) (n : Nat) (f : ConvSt → ConvSt) : (updConv s n f).power = s.power := rfl
@[simp] theorem updConv_clock (s : State) (n : Nat) (f : ConvSt → ConvSt) : (updConv s n f).clock = s.clock := rfl
@[simp] theorem updConv_thermos (s : State) (n : Nat) (f : ConvSt → ConvSt) : (updConv s n f).thermos = s.thermos := rfl
@[simp] theorem updConv_ents (s : State) (n : Nat) (f : ConvSt → ConvSt) : (updConv s n f).ents = s.ents := rfl
@[simp] theorem updConv_stor (s : State) (n : Nat) (f : ConvSt → ConvSt) : (updConv s n f).stor = s.stor := rfl
@[simp] theorem updConv_conds (s : State) (n : Nat) (f : ConvSt → ConvSt) : (updConv s n f).conds = s.conds := rfl
@[simp] theorem updConv_kdp (s : State) (n : Nat) (f : ConvSt → ConvSt) : (updConv s n f).kdp = s.kdp := rfl
@[simp] theorem updConv_bus (s : State) (n : Nat) (f : ConvSt → ConvSt) : (updConv s n f).bus = s.bus := rfl
@[simp] theorem updConv_net (s : State) (n : Nat) (f : ConvSt → ConvSt) : (updConv s n f).net = s.net := rfl
@[simp] theorem updConv_alarms (s : State) (n : Nat) (f : ConvSt → ConvSt) : (updConv s n f).alarms = s.alarms := rfl
@[simp] theorem updConv_audit (s : State) (n : Nat) (f : ConvSt → ConvSt) : (updConv s n f).audit = s.audit := rfl
@[simp] theorem updConv_kiln (s : State) (n : Nat) (f : ConvSt → ConvSt) : (updConv s n f).kiln = s.kiln := rfl
@[simp] theorem updConv_update (s : State) (n : Nat) (f : ConvSt → ConvSt) : (updConv s n f).update = s.update := rfl
@[simp] theorem updConv_ports (s : State) (n : Nat) (f : ConvSt → ConvSt) : (updConv s n f).ports = s.ports := rfl
@[simp] theorem updConv_syncs (s : State) (n : Nat) (f : ConvSt → ConvSt) : (updConv s n f).syncs = s.syncs := rfl
@[simp] theorem updConv_lanes (s : State) (n : Nat) (f : ConvSt → ConvSt) : (updConv s n f).lanes = s.lanes := rfl
@[simp] theorem updConv_cal (s : State) (n : Nat) (f : ConvSt → ConvSt) : (updConv s n f).cal = s.cal := rfl
@[simp] theorem updConv_meters (s : State) (n : Nat) (f : ConvSt → ConvSt) : (updConv s n f).meters = s.meters := rfl
@[simp] theorem updConv_counters (s : State) (n : Nat) (f : ConvSt → ConvSt) : (updConv s n f).counters = s.counters := rfl
@[simp] theorem updConv_interval (s : State) (n : Nat) (f : ConvSt → ConvSt) : (updConv s n f).interval = s.interval := rfl
@[simp] theorem updConv_loops (s : State) (n : Nat) (f : ConvSt → ConvSt) : (updConv s n f).loops = s.loops := rfl
@[simp] theorem updConv_reps (s : State) (n : Nat) (f : ConvSt → ConvSt) : (updConv s n f).reps = s.reps := rfl
@[simp] theorem updConv_groups (s : State) (n : Nat) (f : ConvSt → ConvSt) : (updConv s n f).groups = s.groups := rfl
@[simp] theorem updConv_traces (s : State) (n : Nat) (f : ConvSt → ConvSt) : (updConv s n f).traces = s.traces := rfl
@[simp] theorem updConv_zones (s : State) (n : Nat) (f : ConvSt → ConvSt) : (updConv s n f).zones = s.zones := rfl
@[simp] theorem updConv_display (s : State) (n : Nat) (f : ConvSt → ConvSt) : (updConv s n f).display = s.display := rfl
@[simp] theorem updConv_indicators (s : State) (n : Nat) (f : ConvSt → ConvSt) : (updConv s n f).indicators = s.indicators := rfl
@[simp] theorem updConv_health (s : State) (n : Nat) (f : ConvSt → ConvSt) : (updConv s n f).health = s.health := rfl
@[simp] theorem updConv_used (s : State) (n : Nat) (f : ConvSt → ConvSt) : (updConv s n f).used = s.used := rfl
@[simp] theorem convAt_updConv_same (s : State) (n : Nat) (f : ConvSt → ConvSt) (h : n < 8) : convAt (updConv s n f) n = f (convAt s n) := vAt_vUpd_same _ _ _ _ h
@[simp] theorem convAt_updConv_ne (s : State) (n m : Nat) (f : ConvSt → ConvSt) (h : m ≠ n) : convAt (updConv s n f) m = convAt s m := vAt_vUpd_ne _ _ _ _ _ h
@[simp] theorem updLane_pending (s : State) (n : Nat) (f : LaneSt → LaneSt) : (updLane s n f).pending = s.pending := rfl
@[simp] theorem updLane_power (s : State) (n : Nat) (f : LaneSt → LaneSt) : (updLane s n f).power = s.power := rfl
@[simp] theorem updLane_clock (s : State) (n : Nat) (f : LaneSt → LaneSt) : (updLane s n f).clock = s.clock := rfl
@[simp] theorem updLane_thermos (s : State) (n : Nat) (f : LaneSt → LaneSt) : (updLane s n f).thermos = s.thermos := rfl
@[simp] theorem updLane_ents (s : State) (n : Nat) (f : LaneSt → LaneSt) : (updLane s n f).ents = s.ents := rfl
@[simp] theorem updLane_stor (s : State) (n : Nat) (f : LaneSt → LaneSt) : (updLane s n f).stor = s.stor := rfl
@[simp] theorem updLane_conds (s : State) (n : Nat) (f : LaneSt → LaneSt) : (updLane s n f).conds = s.conds := rfl
@[simp] theorem updLane_kdp (s : State) (n : Nat) (f : LaneSt → LaneSt) : (updLane s n f).kdp = s.kdp := rfl
@[simp] theorem updLane_bus (s : State) (n : Nat) (f : LaneSt → LaneSt) : (updLane s n f).bus = s.bus := rfl
@[simp] theorem updLane_net (s : State) (n : Nat) (f : LaneSt → LaneSt) : (updLane s n f).net = s.net := rfl
@[simp] theorem updLane_alarms (s : State) (n : Nat) (f : LaneSt → LaneSt) : (updLane s n f).alarms = s.alarms := rfl
@[simp] theorem updLane_audit (s : State) (n : Nat) (f : LaneSt → LaneSt) : (updLane s n f).audit = s.audit := rfl
@[simp] theorem updLane_kiln (s : State) (n : Nat) (f : LaneSt → LaneSt) : (updLane s n f).kiln = s.kiln := rfl
@[simp] theorem updLane_update (s : State) (n : Nat) (f : LaneSt → LaneSt) : (updLane s n f).update = s.update := rfl
@[simp] theorem updLane_ports (s : State) (n : Nat) (f : LaneSt → LaneSt) : (updLane s n f).ports = s.ports := rfl
@[simp] theorem updLane_convs (s : State) (n : Nat) (f : LaneSt → LaneSt) : (updLane s n f).convs = s.convs := rfl
@[simp] theorem updLane_syncs (s : State) (n : Nat) (f : LaneSt → LaneSt) : (updLane s n f).syncs = s.syncs := rfl
@[simp] theorem updLane_cal (s : State) (n : Nat) (f : LaneSt → LaneSt) : (updLane s n f).cal = s.cal := rfl
@[simp] theorem updLane_meters (s : State) (n : Nat) (f : LaneSt → LaneSt) : (updLane s n f).meters = s.meters := rfl
@[simp] theorem updLane_counters (s : State) (n : Nat) (f : LaneSt → LaneSt) : (updLane s n f).counters = s.counters := rfl
@[simp] theorem updLane_interval (s : State) (n : Nat) (f : LaneSt → LaneSt) : (updLane s n f).interval = s.interval := rfl
@[simp] theorem updLane_loops (s : State) (n : Nat) (f : LaneSt → LaneSt) : (updLane s n f).loops = s.loops := rfl
@[simp] theorem updLane_reps (s : State) (n : Nat) (f : LaneSt → LaneSt) : (updLane s n f).reps = s.reps := rfl
@[simp] theorem updLane_groups (s : State) (n : Nat) (f : LaneSt → LaneSt) : (updLane s n f).groups = s.groups := rfl
@[simp] theorem updLane_traces (s : State) (n : Nat) (f : LaneSt → LaneSt) : (updLane s n f).traces = s.traces := rfl
@[simp] theorem updLane_zones (s : State) (n : Nat) (f : LaneSt → LaneSt) : (updLane s n f).zones = s.zones := rfl
@[simp] theorem updLane_display (s : State) (n : Nat) (f : LaneSt → LaneSt) : (updLane s n f).display = s.display := rfl
@[simp] theorem updLane_indicators (s : State) (n : Nat) (f : LaneSt → LaneSt) : (updLane s n f).indicators = s.indicators := rfl
@[simp] theorem updLane_health (s : State) (n : Nat) (f : LaneSt → LaneSt) : (updLane s n f).health = s.health := rfl
@[simp] theorem updLane_used (s : State) (n : Nat) (f : LaneSt → LaneSt) : (updLane s n f).used = s.used := rfl
@[simp] theorem laneAt_updLane_same (s : State) (n : Nat) (f : LaneSt → LaneSt) (h : n < 8) : laneAt (updLane s n f) n = f (laneAt s n) := vAt_vUpd_same _ _ _ _ h
@[simp] theorem laneAt_updLane_ne (s : State) (n m : Nat) (f : LaneSt → LaneSt) (h : m ≠ n) : laneAt (updLane s n f) m = laneAt s m := vAt_vUpd_ne _ _ _ _ _ h
@[simp] theorem updMeter_pending (s : State) (n : Nat) (f : MeterSt → MeterSt) : (updMeter s n f).pending = s.pending := rfl
@[simp] theorem updMeter_power (s : State) (n : Nat) (f : MeterSt → MeterSt) : (updMeter s n f).power = s.power := rfl
@[simp] theorem updMeter_clock (s : State) (n : Nat) (f : MeterSt → MeterSt) : (updMeter s n f).clock = s.clock := rfl
@[simp] theorem updMeter_thermos (s : State) (n : Nat) (f : MeterSt → MeterSt) : (updMeter s n f).thermos = s.thermos := rfl
@[simp] theorem updMeter_ents (s : State) (n : Nat) (f : MeterSt → MeterSt) : (updMeter s n f).ents = s.ents := rfl
@[simp] theorem updMeter_stor (s : State) (n : Nat) (f : MeterSt → MeterSt) : (updMeter s n f).stor = s.stor := rfl
@[simp] theorem updMeter_conds (s : State) (n : Nat) (f : MeterSt → MeterSt) : (updMeter s n f).conds = s.conds := rfl
@[simp] theorem updMeter_kdp (s : State) (n : Nat) (f : MeterSt → MeterSt) : (updMeter s n f).kdp = s.kdp := rfl
@[simp] theorem updMeter_bus (s : State) (n : Nat) (f : MeterSt → MeterSt) : (updMeter s n f).bus = s.bus := rfl
@[simp] theorem updMeter_net (s : State) (n : Nat) (f : MeterSt → MeterSt) : (updMeter s n f).net = s.net := rfl
@[simp] theorem updMeter_alarms (s : State) (n : Nat) (f : MeterSt → MeterSt) : (updMeter s n f).alarms = s.alarms := rfl
@[simp] theorem updMeter_audit (s : State) (n : Nat) (f : MeterSt → MeterSt) : (updMeter s n f).audit = s.audit := rfl
@[simp] theorem updMeter_kiln (s : State) (n : Nat) (f : MeterSt → MeterSt) : (updMeter s n f).kiln = s.kiln := rfl
@[simp] theorem updMeter_update (s : State) (n : Nat) (f : MeterSt → MeterSt) : (updMeter s n f).update = s.update := rfl
@[simp] theorem updMeter_ports (s : State) (n : Nat) (f : MeterSt → MeterSt) : (updMeter s n f).ports = s.ports := rfl
@[simp] theorem updMeter_convs (s : State) (n : Nat) (f : MeterSt → MeterSt) : (updMeter s n f).convs = s.convs := rfl
@[simp] theorem updMeter_syncs (s : State) (n : Nat) (f : MeterSt → MeterSt) : (updMeter s n f).syncs = s.syncs := rfl
@[simp] theorem updMeter_lanes (s : State) (n : Nat) (f : MeterSt → MeterSt) : (updMeter s n f).lanes = s.lanes := rfl
@[simp] theorem updMeter_cal (s : State) (n : Nat) (f : MeterSt → MeterSt) : (updMeter s n f).cal = s.cal := rfl
@[simp] theorem updMeter_counters (s : State) (n : Nat) (f : MeterSt → MeterSt) : (updMeter s n f).counters = s.counters := rfl
@[simp] theorem updMeter_interval (s : State) (n : Nat) (f : MeterSt → MeterSt) : (updMeter s n f).interval = s.interval := rfl
@[simp] theorem updMeter_loops (s : State) (n : Nat) (f : MeterSt → MeterSt) : (updMeter s n f).loops = s.loops := rfl
@[simp] theorem updMeter_reps (s : State) (n : Nat) (f : MeterSt → MeterSt) : (updMeter s n f).reps = s.reps := rfl
@[simp] theorem updMeter_groups (s : State) (n : Nat) (f : MeterSt → MeterSt) : (updMeter s n f).groups = s.groups := rfl
@[simp] theorem updMeter_traces (s : State) (n : Nat) (f : MeterSt → MeterSt) : (updMeter s n f).traces = s.traces := rfl
@[simp] theorem updMeter_zones (s : State) (n : Nat) (f : MeterSt → MeterSt) : (updMeter s n f).zones = s.zones := rfl
@[simp] theorem updMeter_display (s : State) (n : Nat) (f : MeterSt → MeterSt) : (updMeter s n f).display = s.display := rfl
@[simp] theorem updMeter_indicators (s : State) (n : Nat) (f : MeterSt → MeterSt) : (updMeter s n f).indicators = s.indicators := rfl
@[simp] theorem updMeter_health (s : State) (n : Nat) (f : MeterSt → MeterSt) : (updMeter s n f).health = s.health := rfl
@[simp] theorem updMeter_used (s : State) (n : Nat) (f : MeterSt → MeterSt) : (updMeter s n f).used = s.used := rfl
@[simp] theorem meterAt_updMeter_same (s : State) (n : Nat) (f : MeterSt → MeterSt) (h : n < 16) : meterAt (updMeter s n f) n = f (meterAt s n) := vAt_vUpd_same _ _ _ _ h
@[simp] theorem meterAt_updMeter_ne (s : State) (n m : Nat) (f : MeterSt → MeterSt) (h : m ≠ n) : meterAt (updMeter s n f) m = meterAt s m := vAt_vUpd_ne _ _ _ _ _ h
@[simp] theorem updCounter_pending (s : State) (n : Nat) (f : CounterSt → CounterSt) : (updCounter s n f).pending = s.pending := rfl
@[simp] theorem updCounter_power (s : State) (n : Nat) (f : CounterSt → CounterSt) : (updCounter s n f).power = s.power := rfl
@[simp] theorem updCounter_clock (s : State) (n : Nat) (f : CounterSt → CounterSt) : (updCounter s n f).clock = s.clock := rfl
@[simp] theorem updCounter_thermos (s : State) (n : Nat) (f : CounterSt → CounterSt) : (updCounter s n f).thermos = s.thermos := rfl
@[simp] theorem updCounter_ents (s : State) (n : Nat) (f : CounterSt → CounterSt) : (updCounter s n f).ents = s.ents := rfl
@[simp] theorem updCounter_stor (s : State) (n : Nat) (f : CounterSt → CounterSt) : (updCounter s n f).stor = s.stor := rfl
@[simp] theorem updCounter_conds (s : State) (n : Nat) (f : CounterSt → CounterSt) : (updCounter s n f).conds = s.conds := rfl
@[simp] theorem updCounter_kdp (s : State) (n : Nat) (f : CounterSt → CounterSt) : (updCounter s n f).kdp = s.kdp := rfl
@[simp] theorem updCounter_bus (s : State) (n : Nat) (f : CounterSt → CounterSt) : (updCounter s n f).bus = s.bus := rfl
@[simp] theorem updCounter_net (s : State) (n : Nat) (f : CounterSt → CounterSt) : (updCounter s n f).net = s.net := rfl
@[simp] theorem updCounter_alarms (s : State) (n : Nat) (f : CounterSt → CounterSt) : (updCounter s n f).alarms = s.alarms := rfl
@[simp] theorem updCounter_audit (s : State) (n : Nat) (f : CounterSt → CounterSt) : (updCounter s n f).audit = s.audit := rfl
@[simp] theorem updCounter_kiln (s : State) (n : Nat) (f : CounterSt → CounterSt) : (updCounter s n f).kiln = s.kiln := rfl
@[simp] theorem updCounter_update (s : State) (n : Nat) (f : CounterSt → CounterSt) : (updCounter s n f).update = s.update := rfl
@[simp] theorem updCounter_ports (s : State) (n : Nat) (f : CounterSt → CounterSt) : (updCounter s n f).ports = s.ports := rfl
@[simp] theorem updCounter_convs (s : State) (n : Nat) (f : CounterSt → CounterSt) : (updCounter s n f).convs = s.convs := rfl
@[simp] theorem updCounter_syncs (s : State) (n : Nat) (f : CounterSt → CounterSt) : (updCounter s n f).syncs = s.syncs := rfl
@[simp] theorem updCounter_lanes (s : State) (n : Nat) (f : CounterSt → CounterSt) : (updCounter s n f).lanes = s.lanes := rfl
@[simp] theorem updCounter_cal (s : State) (n : Nat) (f : CounterSt → CounterSt) : (updCounter s n f).cal = s.cal := rfl
@[simp] theorem updCounter_meters (s : State) (n : Nat) (f : CounterSt → CounterSt) : (updCounter s n f).meters = s.meters := rfl
@[simp] theorem updCounter_interval (s : State) (n : Nat) (f : CounterSt → CounterSt) : (updCounter s n f).interval = s.interval := rfl
@[simp] theorem updCounter_loops (s : State) (n : Nat) (f : CounterSt → CounterSt) : (updCounter s n f).loops = s.loops := rfl
@[simp] theorem updCounter_reps (s : State) (n : Nat) (f : CounterSt → CounterSt) : (updCounter s n f).reps = s.reps := rfl
@[simp] theorem updCounter_groups (s : State) (n : Nat) (f : CounterSt → CounterSt) : (updCounter s n f).groups = s.groups := rfl
@[simp] theorem updCounter_traces (s : State) (n : Nat) (f : CounterSt → CounterSt) : (updCounter s n f).traces = s.traces := rfl
@[simp] theorem updCounter_zones (s : State) (n : Nat) (f : CounterSt → CounterSt) : (updCounter s n f).zones = s.zones := rfl
@[simp] theorem updCounter_display (s : State) (n : Nat) (f : CounterSt → CounterSt) : (updCounter s n f).display = s.display := rfl
@[simp] theorem updCounter_indicators (s : State) (n : Nat) (f : CounterSt → CounterSt) : (updCounter s n f).indicators = s.indicators := rfl
@[simp] theorem updCounter_health (s : State) (n : Nat) (f : CounterSt → CounterSt) : (updCounter s n f).health = s.health := rfl
@[simp] theorem updCounter_used (s : State) (n : Nat) (f : CounterSt → CounterSt) : (updCounter s n f).used = s.used := rfl
@[simp] theorem updLoop_pending (s : State) (n : Nat) (f : LoopSt → LoopSt) : (updLoop s n f).pending = s.pending := rfl
@[simp] theorem updLoop_power (s : State) (n : Nat) (f : LoopSt → LoopSt) : (updLoop s n f).power = s.power := rfl
@[simp] theorem updLoop_clock (s : State) (n : Nat) (f : LoopSt → LoopSt) : (updLoop s n f).clock = s.clock := rfl
@[simp] theorem updLoop_thermos (s : State) (n : Nat) (f : LoopSt → LoopSt) : (updLoop s n f).thermos = s.thermos := rfl
@[simp] theorem updLoop_ents (s : State) (n : Nat) (f : LoopSt → LoopSt) : (updLoop s n f).ents = s.ents := rfl
@[simp] theorem updLoop_stor (s : State) (n : Nat) (f : LoopSt → LoopSt) : (updLoop s n f).stor = s.stor := rfl
@[simp] theorem updLoop_conds (s : State) (n : Nat) (f : LoopSt → LoopSt) : (updLoop s n f).conds = s.conds := rfl
@[simp] theorem updLoop_kdp (s : State) (n : Nat) (f : LoopSt → LoopSt) : (updLoop s n f).kdp = s.kdp := rfl
@[simp] theorem updLoop_bus (s : State) (n : Nat) (f : LoopSt → LoopSt) : (updLoop s n f).bus = s.bus := rfl
@[simp] theorem updLoop_net (s : State) (n : Nat) (f : LoopSt → LoopSt) : (updLoop s n f).net = s.net := rfl
@[simp] theorem updLoop_alarms (s : State) (n : Nat) (f : LoopSt → LoopSt) : (updLoop s n f).alarms = s.alarms := rfl
@[simp] theorem updLoop_audit (s : State) (n : Nat) (f : LoopSt → LoopSt) : (updLoop s n f).audit = s.audit := rfl
@[simp] theorem updLoop_kiln (s : State) (n : Nat) (f : LoopSt → LoopSt) : (updLoop s n f).kiln = s.kiln := rfl
@[simp] theorem updLoop_update (s : State) (n : Nat) (f : LoopSt → LoopSt) : (updLoop s n f).update = s.update := rfl
@[simp] theorem updLoop_ports (s : State) (n : Nat) (f : LoopSt → LoopSt) : (updLoop s n f).ports = s.ports := rfl
@[simp] theorem updLoop_convs (s : State) (n : Nat) (f : LoopSt → LoopSt) : (updLoop s n f).convs = s.convs := rfl
@[simp] theorem updLoop_syncs (s : State) (n : Nat) (f : LoopSt → LoopSt) : (updLoop s n f).syncs = s.syncs := rfl
@[simp] theorem updLoop_lanes (s : State) (n : Nat) (f : LoopSt → LoopSt) : (updLoop s n f).lanes = s.lanes := rfl
@[simp] theorem updLoop_cal (s : State) (n : Nat) (f : LoopSt → LoopSt) : (updLoop s n f).cal = s.cal := rfl
@[simp] theorem updLoop_meters (s : State) (n : Nat) (f : LoopSt → LoopSt) : (updLoop s n f).meters = s.meters := rfl
@[simp] theorem updLoop_counters (s : State) (n : Nat) (f : LoopSt → LoopSt) : (updLoop s n f).counters = s.counters := rfl
@[simp] theorem updLoop_interval (s : State) (n : Nat) (f : LoopSt → LoopSt) : (updLoop s n f).interval = s.interval := rfl
@[simp] theorem updLoop_reps (s : State) (n : Nat) (f : LoopSt → LoopSt) : (updLoop s n f).reps = s.reps := rfl
@[simp] theorem updLoop_groups (s : State) (n : Nat) (f : LoopSt → LoopSt) : (updLoop s n f).groups = s.groups := rfl
@[simp] theorem updLoop_traces (s : State) (n : Nat) (f : LoopSt → LoopSt) : (updLoop s n f).traces = s.traces := rfl
@[simp] theorem updLoop_zones (s : State) (n : Nat) (f : LoopSt → LoopSt) : (updLoop s n f).zones = s.zones := rfl
@[simp] theorem updLoop_display (s : State) (n : Nat) (f : LoopSt → LoopSt) : (updLoop s n f).display = s.display := rfl
@[simp] theorem updLoop_indicators (s : State) (n : Nat) (f : LoopSt → LoopSt) : (updLoop s n f).indicators = s.indicators := rfl
@[simp] theorem updLoop_health (s : State) (n : Nat) (f : LoopSt → LoopSt) : (updLoop s n f).health = s.health := rfl
@[simp] theorem updLoop_used (s : State) (n : Nat) (f : LoopSt → LoopSt) : (updLoop s n f).used = s.used := rfl
@[simp] theorem loopAt_updLoop_same (s : State) (n : Nat) (f : LoopSt → LoopSt) (h : n < 96) : loopAt (updLoop s n f) n = f (loopAt s n) := vAt_vUpd_same _ _ _ _ h
@[simp] theorem loopAt_updLoop_ne (s : State) (n m : Nat) (f : LoopSt → LoopSt) (h : m ≠ n) : loopAt (updLoop s n f) m = loopAt s m := vAt_vUpd_ne _ _ _ _ _ h
@[simp] theorem updRep_pending (s : State) (n : Nat) (f : RepSt → RepSt) : (updRep s n f).pending = s.pending := rfl
@[simp] theorem updRep_power (s : State) (n : Nat) (f : RepSt → RepSt) : (updRep s n f).power = s.power := rfl
@[simp] theorem updRep_clock (s : State) (n : Nat) (f : RepSt → RepSt) : (updRep s n f).clock = s.clock := rfl
@[simp] theorem updRep_thermos (s : State) (n : Nat) (f : RepSt → RepSt) : (updRep s n f).thermos = s.thermos := rfl
@[simp] theorem updRep_ents (s : State) (n : Nat) (f : RepSt → RepSt) : (updRep s n f).ents = s.ents := rfl
@[simp] theorem updRep_stor (s : State) (n : Nat) (f : RepSt → RepSt) : (updRep s n f).stor = s.stor := rfl
@[simp] theorem updRep_conds (s : State) (n : Nat) (f : RepSt → RepSt) : (updRep s n f).conds = s.conds := rfl
@[simp] theorem updRep_kdp (s : State) (n : Nat) (f : RepSt → RepSt) : (updRep s n f).kdp = s.kdp := rfl
@[simp] theorem updRep_bus (s : State) (n : Nat) (f : RepSt → RepSt) : (updRep s n f).bus = s.bus := rfl
@[simp] theorem updRep_net (s : State) (n : Nat) (f : RepSt → RepSt) : (updRep s n f).net = s.net := rfl
@[simp] theorem updRep_alarms (s : State) (n : Nat) (f : RepSt → RepSt) : (updRep s n f).alarms = s.alarms := rfl
@[simp] theorem updRep_audit (s : State) (n : Nat) (f : RepSt → RepSt) : (updRep s n f).audit = s.audit := rfl
@[simp] theorem updRep_kiln (s : State) (n : Nat) (f : RepSt → RepSt) : (updRep s n f).kiln = s.kiln := rfl
@[simp] theorem updRep_update (s : State) (n : Nat) (f : RepSt → RepSt) : (updRep s n f).update = s.update := rfl
@[simp] theorem updRep_ports (s : State) (n : Nat) (f : RepSt → RepSt) : (updRep s n f).ports = s.ports := rfl
@[simp] theorem updRep_convs (s : State) (n : Nat) (f : RepSt → RepSt) : (updRep s n f).convs = s.convs := rfl
@[simp] theorem updRep_syncs (s : State) (n : Nat) (f : RepSt → RepSt) : (updRep s n f).syncs = s.syncs := rfl
@[simp] theorem updRep_lanes (s : State) (n : Nat) (f : RepSt → RepSt) : (updRep s n f).lanes = s.lanes := rfl
@[simp] theorem updRep_cal (s : State) (n : Nat) (f : RepSt → RepSt) : (updRep s n f).cal = s.cal := rfl
@[simp] theorem updRep_meters (s : State) (n : Nat) (f : RepSt → RepSt) : (updRep s n f).meters = s.meters := rfl
@[simp] theorem updRep_counters (s : State) (n : Nat) (f : RepSt → RepSt) : (updRep s n f).counters = s.counters := rfl
@[simp] theorem updRep_interval (s : State) (n : Nat) (f : RepSt → RepSt) : (updRep s n f).interval = s.interval := rfl
@[simp] theorem updRep_loops (s : State) (n : Nat) (f : RepSt → RepSt) : (updRep s n f).loops = s.loops := rfl
@[simp] theorem updRep_groups (s : State) (n : Nat) (f : RepSt → RepSt) : (updRep s n f).groups = s.groups := rfl
@[simp] theorem updRep_traces (s : State) (n : Nat) (f : RepSt → RepSt) : (updRep s n f).traces = s.traces := rfl
@[simp] theorem updRep_zones (s : State) (n : Nat) (f : RepSt → RepSt) : (updRep s n f).zones = s.zones := rfl
@[simp] theorem updRep_display (s : State) (n : Nat) (f : RepSt → RepSt) : (updRep s n f).display = s.display := rfl
@[simp] theorem updRep_indicators (s : State) (n : Nat) (f : RepSt → RepSt) : (updRep s n f).indicators = s.indicators := rfl
@[simp] theorem updRep_health (s : State) (n : Nat) (f : RepSt → RepSt) : (updRep s n f).health = s.health := rfl
@[simp] theorem updRep_used (s : State) (n : Nat) (f : RepSt → RepSt) : (updRep s n f).used = s.used := rfl
@[simp] theorem repAt_updRep_same (s : State) (n : Nat) (f : RepSt → RepSt) (h : n < 96) : repAt (updRep s n f) n = f (repAt s n) := vAt_vUpd_same _ _ _ _ h
@[simp] theorem repAt_updRep_ne (s : State) (n m : Nat) (f : RepSt → RepSt) (h : m ≠ n) : repAt (updRep s n f) m = repAt s m := vAt_vUpd_ne _ _ _ _ _ h
@[simp] theorem updTrace_pending (s : State) (n : Nat) (f : TraceSt → TraceSt) : (updTrace s n f).pending = s.pending := rfl
@[simp] theorem updTrace_power (s : State) (n : Nat) (f : TraceSt → TraceSt) : (updTrace s n f).power = s.power := rfl
@[simp] theorem updTrace_clock (s : State) (n : Nat) (f : TraceSt → TraceSt) : (updTrace s n f).clock = s.clock := rfl
@[simp] theorem updTrace_thermos (s : State) (n : Nat) (f : TraceSt → TraceSt) : (updTrace s n f).thermos = s.thermos := rfl
@[simp] theorem updTrace_ents (s : State) (n : Nat) (f : TraceSt → TraceSt) : (updTrace s n f).ents = s.ents := rfl
@[simp] theorem updTrace_stor (s : State) (n : Nat) (f : TraceSt → TraceSt) : (updTrace s n f).stor = s.stor := rfl
@[simp] theorem updTrace_conds (s : State) (n : Nat) (f : TraceSt → TraceSt) : (updTrace s n f).conds = s.conds := rfl
@[simp] theorem updTrace_kdp (s : State) (n : Nat) (f : TraceSt → TraceSt) : (updTrace s n f).kdp = s.kdp := rfl
@[simp] theorem updTrace_bus (s : State) (n : Nat) (f : TraceSt → TraceSt) : (updTrace s n f).bus = s.bus := rfl
@[simp] theorem updTrace_net (s : State) (n : Nat) (f : TraceSt → TraceSt) : (updTrace s n f).net = s.net := rfl
@[simp] theorem updTrace_alarms (s : State) (n : Nat) (f : TraceSt → TraceSt) : (updTrace s n f).alarms = s.alarms := rfl
@[simp] theorem updTrace_audit (s : State) (n : Nat) (f : TraceSt → TraceSt) : (updTrace s n f).audit = s.audit := rfl
@[simp] theorem updTrace_kiln (s : State) (n : Nat) (f : TraceSt → TraceSt) : (updTrace s n f).kiln = s.kiln := rfl
@[simp] theorem updTrace_update (s : State) (n : Nat) (f : TraceSt → TraceSt) : (updTrace s n f).update = s.update := rfl
@[simp] theorem updTrace_ports (s : State) (n : Nat) (f : TraceSt → TraceSt) : (updTrace s n f).ports = s.ports := rfl
@[simp] theorem updTrace_convs (s : State) (n : Nat) (f : TraceSt → TraceSt) : (updTrace s n f).convs = s.convs := rfl
@[simp] theorem updTrace_syncs (s : State) (n : Nat) (f : TraceSt → TraceSt) : (updTrace s n f).syncs = s.syncs := rfl
@[simp] theorem updTrace_lanes (s : State) (n : Nat) (f : TraceSt → TraceSt) : (updTrace s n f).lanes = s.lanes := rfl
@[simp] theorem updTrace_cal (s : State) (n : Nat) (f : TraceSt → TraceSt) : (updTrace s n f).cal = s.cal := rfl
@[simp] theorem updTrace_meters (s : State) (n : Nat) (f : TraceSt → TraceSt) : (updTrace s n f).meters = s.meters := rfl
@[simp] theorem updTrace_counters (s : State) (n : Nat) (f : TraceSt → TraceSt) : (updTrace s n f).counters = s.counters := rfl
@[simp] theorem updTrace_interval (s : State) (n : Nat) (f : TraceSt → TraceSt) : (updTrace s n f).interval = s.interval := rfl
@[simp] theorem updTrace_loops (s : State) (n : Nat) (f : TraceSt → TraceSt) : (updTrace s n f).loops = s.loops := rfl
@[simp] theorem updTrace_reps (s : State) (n : Nat) (f : TraceSt → TraceSt) : (updTrace s n f).reps = s.reps := rfl
@[simp] theorem updTrace_groups (s : State) (n : Nat) (f : TraceSt → TraceSt) : (updTrace s n f).groups = s.groups := rfl
@[simp] theorem updTrace_zones (s : State) (n : Nat) (f : TraceSt → TraceSt) : (updTrace s n f).zones = s.zones := rfl
@[simp] theorem updTrace_display (s : State) (n : Nat) (f : TraceSt → TraceSt) : (updTrace s n f).display = s.display := rfl
@[simp] theorem updTrace_indicators (s : State) (n : Nat) (f : TraceSt → TraceSt) : (updTrace s n f).indicators = s.indicators := rfl
@[simp] theorem updTrace_health (s : State) (n : Nat) (f : TraceSt → TraceSt) : (updTrace s n f).health = s.health := rfl
@[simp] theorem updTrace_used (s : State) (n : Nat) (f : TraceSt → TraceSt) : (updTrace s n f).used = s.used := rfl
@[simp] theorem traceAt_updTrace_same (s : State) (n : Nat) (f : TraceSt → TraceSt) (h : n < 8) : traceAt (updTrace s n f) n = f (traceAt s n) := vAt_vUpd_same _ _ _ _ h
@[simp] theorem traceAt_updTrace_ne (s : State) (n m : Nat) (f : TraceSt → TraceSt) (h : m ≠ n) : traceAt (updTrace s n f) m = traceAt s m := vAt_vUpd_ne _ _ _ _ _ h
@[simp] theorem updZone_pending (s : State) (n : Nat) (f : ZoneSt → ZoneSt) : (updZone s n f).pending = s.pending := rfl
@[simp] theorem updZone_power (s : State) (n : Nat) (f : ZoneSt → ZoneSt) : (updZone s n f).power = s.power := rfl
@[simp] theorem updZone_clock (s : State) (n : Nat) (f : ZoneSt → ZoneSt) : (updZone s n f).clock = s.clock := rfl
@[simp] theorem updZone_thermos (s : State) (n : Nat) (f : ZoneSt → ZoneSt) : (updZone s n f).thermos = s.thermos := rfl
@[simp] theorem updZone_ents (s : State) (n : Nat) (f : ZoneSt → ZoneSt) : (updZone s n f).ents = s.ents := rfl
@[simp] theorem updZone_stor (s : State) (n : Nat) (f : ZoneSt → ZoneSt) : (updZone s n f).stor = s.stor := rfl
@[simp] theorem updZone_conds (s : State) (n : Nat) (f : ZoneSt → ZoneSt) : (updZone s n f).conds = s.conds := rfl
@[simp] theorem updZone_kdp (s : State) (n : Nat) (f : ZoneSt → ZoneSt) : (updZone s n f).kdp = s.kdp := rfl
@[simp] theorem updZone_bus (s : State) (n : Nat) (f : ZoneSt → ZoneSt) : (updZone s n f).bus = s.bus := rfl
@[simp] theorem updZone_net (s : State) (n : Nat) (f : ZoneSt → ZoneSt) : (updZone s n f).net = s.net := rfl
@[simp] theorem updZone_alarms (s : State) (n : Nat) (f : ZoneSt → ZoneSt) : (updZone s n f).alarms = s.alarms := rfl
@[simp] theorem updZone_audit (s : State) (n : Nat) (f : ZoneSt → ZoneSt) : (updZone s n f).audit = s.audit := rfl
@[simp] theorem updZone_kiln (s : State) (n : Nat) (f : ZoneSt → ZoneSt) : (updZone s n f).kiln = s.kiln := rfl
@[simp] theorem updZone_update (s : State) (n : Nat) (f : ZoneSt → ZoneSt) : (updZone s n f).update = s.update := rfl
@[simp] theorem updZone_ports (s : State) (n : Nat) (f : ZoneSt → ZoneSt) : (updZone s n f).ports = s.ports := rfl
@[simp] theorem updZone_convs (s : State) (n : Nat) (f : ZoneSt → ZoneSt) : (updZone s n f).convs = s.convs := rfl
@[simp] theorem updZone_syncs (s : State) (n : Nat) (f : ZoneSt → ZoneSt) : (updZone s n f).syncs = s.syncs := rfl
@[simp] theorem updZone_lanes (s : State) (n : Nat) (f : ZoneSt → ZoneSt) : (updZone s n f).lanes = s.lanes := rfl
@[simp] theorem updZone_cal (s : State) (n : Nat) (f : ZoneSt → ZoneSt) : (updZone s n f).cal = s.cal := rfl
@[simp] theorem updZone_meters (s : State) (n : Nat) (f : ZoneSt → ZoneSt) : (updZone s n f).meters = s.meters := rfl
@[simp] theorem updZone_counters (s : State) (n : Nat) (f : ZoneSt → ZoneSt) : (updZone s n f).counters = s.counters := rfl
@[simp] theorem updZone_interval (s : State) (n : Nat) (f : ZoneSt → ZoneSt) : (updZone s n f).interval = s.interval := rfl
@[simp] theorem updZone_loops (s : State) (n : Nat) (f : ZoneSt → ZoneSt) : (updZone s n f).loops = s.loops := rfl
@[simp] theorem updZone_reps (s : State) (n : Nat) (f : ZoneSt → ZoneSt) : (updZone s n f).reps = s.reps := rfl
@[simp] theorem updZone_groups (s : State) (n : Nat) (f : ZoneSt → ZoneSt) : (updZone s n f).groups = s.groups := rfl
@[simp] theorem updZone_traces (s : State) (n : Nat) (f : ZoneSt → ZoneSt) : (updZone s n f).traces = s.traces := rfl
@[simp] theorem updZone_display (s : State) (n : Nat) (f : ZoneSt → ZoneSt) : (updZone s n f).display = s.display := rfl
@[simp] theorem updZone_indicators (s : State) (n : Nat) (f : ZoneSt → ZoneSt) : (updZone s n f).indicators = s.indicators := rfl
@[simp] theorem updZone_health (s : State) (n : Nat) (f : ZoneSt → ZoneSt) : (updZone s n f).health = s.health := rfl
@[simp] theorem updZone_used (s : State) (n : Nat) (f : ZoneSt → ZoneSt) : (updZone s n f).used = s.used := rfl
@[simp] theorem zoneAt_updZone_same (s : State) (n : Nat) (f : ZoneSt → ZoneSt) (h : n < 32) : zoneAt (updZone s n f) n = f (zoneAt s n) := vAt_vUpd_same _ _ _ _ h
@[simp] theorem zoneAt_updZone_ne (s : State) (n m : Nat) (f : ZoneSt → ZoneSt) (h : m ≠ n) : zoneAt (updZone s n f) m = zoneAt s m := vAt_vUpd_ne _ _ _ _ _ h
@[simp] theorem updAlarm_pending (s : State) (n : Nat) (f : AlarmSt → AlarmSt) : (updAlarm s n f).pending = s.pending := rfl
@[simp] theorem updAlarm_power (s : State) (n : Nat) (f : AlarmSt → AlarmSt) : (updAlarm s n f).power = s.power := rfl
@[simp] theorem updAlarm_clock (s : State) (n : Nat) (f : AlarmSt → AlarmSt) : (updAlarm s n f).clock = s.clock := rfl
@[simp] theorem updAlarm_thermos (s : State) (n : Nat) (f : AlarmSt → AlarmSt) : (updAlarm s n f).thermos = s.thermos := rfl
@[simp] theorem updAlarm_ents (s : State) (n : Nat) (f : AlarmSt → AlarmSt) : (updAlarm s n f).ents = s.ents := rfl
@[simp] theorem updAlarm_stor (s : State) (n : Nat) (f : AlarmSt → AlarmSt) : (updAlarm s n f).stor = s.stor := rfl
@[simp] theorem updAlarm_conds (s : State) (n : Nat) (f : AlarmSt → AlarmSt) : (updAlarm s n f).conds = s.conds := rfl
@[simp] theorem updAlarm_kdp (s : State) (n : Nat) (f : AlarmSt → AlarmSt) : (updAlarm s n f).kdp = s.kdp := rfl
@[simp] theorem updAlarm_bus (s : State) (n : Nat) (f : AlarmSt → AlarmSt) : (updAlarm s n f).bus = s.bus := rfl
@[simp] theorem updAlarm_net (s : State) (n : Nat) (f : AlarmSt → AlarmSt) : (updAlarm s n f).net = s.net := rfl
@[simp] theorem updAlarm_audit (s : State) (n : Nat) (f : AlarmSt → AlarmSt) : (updAlarm s n f).audit = s.audit := rfl
@[simp] theorem updAlarm_kiln (s : State) (n : Nat) (f : AlarmSt → AlarmSt) : (updAlarm s n f).kiln = s.kiln := rfl
@[simp] theorem updAlarm_update (s : State) (n : Nat) (f : AlarmSt → AlarmSt) : (updAlarm s n f).update = s.update := rfl
@[simp] theorem updAlarm_ports (s : State) (n : Nat) (f : AlarmSt → AlarmSt) : (updAlarm s n f).ports = s.ports := rfl
@[simp] theorem updAlarm_convs (s : State) (n : Nat) (f : AlarmSt → AlarmSt) : (updAlarm s n f).convs = s.convs := rfl
@[simp] theorem updAlarm_syncs (s : State) (n : Nat) (f : AlarmSt → AlarmSt) : (updAlarm s n f).syncs = s.syncs := rfl
@[simp] theorem updAlarm_lanes (s : State) (n : Nat) (f : AlarmSt → AlarmSt) : (updAlarm s n f).lanes = s.lanes := rfl
@[simp] theorem updAlarm_cal (s : State) (n : Nat) (f : AlarmSt → AlarmSt) : (updAlarm s n f).cal = s.cal := rfl
@[simp] theorem updAlarm_meters (s : State) (n : Nat) (f : AlarmSt → AlarmSt) : (updAlarm s n f).meters = s.meters := rfl
@[simp] theorem updAlarm_counters (s : State) (n : Nat) (f : AlarmSt → AlarmSt) : (updAlarm s n f).counters = s.counters := rfl
@[simp] theorem updAlarm_interval (s : State) (n : Nat) (f : AlarmSt → AlarmSt) : (updAlarm s n f).interval = s.interval := rfl
@[simp] theorem updAlarm_loops (s : State) (n : Nat) (f : AlarmSt → AlarmSt) : (updAlarm s n f).loops = s.loops := rfl
@[simp] theorem updAlarm_reps (s : State) (n : Nat) (f : AlarmSt → AlarmSt) : (updAlarm s n f).reps = s.reps := rfl
@[simp] theorem updAlarm_groups (s : State) (n : Nat) (f : AlarmSt → AlarmSt) : (updAlarm s n f).groups = s.groups := rfl
@[simp] theorem updAlarm_traces (s : State) (n : Nat) (f : AlarmSt → AlarmSt) : (updAlarm s n f).traces = s.traces := rfl
@[simp] theorem updAlarm_zones (s : State) (n : Nat) (f : AlarmSt → AlarmSt) : (updAlarm s n f).zones = s.zones := rfl
@[simp] theorem updAlarm_display (s : State) (n : Nat) (f : AlarmSt → AlarmSt) : (updAlarm s n f).display = s.display := rfl
@[simp] theorem updAlarm_indicators (s : State) (n : Nat) (f : AlarmSt → AlarmSt) : (updAlarm s n f).indicators = s.indicators := rfl
@[simp] theorem updAlarm_health (s : State) (n : Nat) (f : AlarmSt → AlarmSt) : (updAlarm s n f).health = s.health := rfl
@[simp] theorem updAlarm_used (s : State) (n : Nat) (f : AlarmSt → AlarmSt) : (updAlarm s n f).used = s.used := rfl
@[simp] theorem alarmAt_updAlarm_same (s : State) (n : Nat) (f : AlarmSt → AlarmSt) (h : n < 8) : alarmAt (updAlarm s n f) n = f (alarmAt s n) := vAt_vUpd_same _ _ _ _ h
@[simp] theorem alarmAt_updAlarm_ne (s : State) (n m : Nat) (f : AlarmSt → AlarmSt) (h : m ≠ n) : alarmAt (updAlarm s n f) m = alarmAt s m := vAt_vUpd_ne _ _ _ _ _ h
@[simp] theorem updSync_pending (s : State) (n : Nat) (f : SyncSt → SyncSt) : (updSync s n f).pending = s.pending := rfl
@[simp] theorem updSync_power (s : State) (n : Nat) (f : SyncSt → SyncSt) : (updSync s n f).power = s.power := rfl
@[simp] theorem updSync_clock (s : State) (n : Nat) (f : SyncSt → SyncSt) : (updSync s n f).clock = s.clock := rfl
@[simp] theorem updSync_thermos (s : State) (n : Nat) (f : SyncSt → SyncSt) : (updSync s n f).thermos = s.thermos := rfl
@[simp] theorem updSync_ents (s : State) (n : Nat) (f : SyncSt → SyncSt) : (updSync s n f).ents = s.ents := rfl
@[simp] theorem updSync_stor (s : State) (n : Nat) (f : SyncSt → SyncSt) : (updSync s n f).stor = s.stor := rfl
@[simp] theorem updSync_conds (s : State) (n : Nat) (f : SyncSt → SyncSt) : (updSync s n f).conds = s.conds := rfl
@[simp] theorem updSync_kdp (s : State) (n : Nat) (f : SyncSt → SyncSt) : (updSync s n f).kdp = s.kdp := rfl
@[simp] theorem updSync_bus (s : State) (n : Nat) (f : SyncSt → SyncSt) : (updSync s n f).bus = s.bus := rfl
@[simp] theorem updSync_net (s : State) (n : Nat) (f : SyncSt → SyncSt) : (updSync s n f).net = s.net := rfl
@[simp] theorem updSync_alarms (s : State) (n : Nat) (f : SyncSt → SyncSt) : (updSync s n f).alarms = s.alarms := rfl
@[simp] theorem updSync_audit (s : State) (n : Nat) (f : SyncSt → SyncSt) : (updSync s n f).audit = s.audit := rfl
@[simp] theorem updSync_kiln (s : State) (n : Nat) (f : SyncSt → SyncSt) : (updSync s n f).kiln = s.kiln := rfl
@[simp] theorem updSync_update (s : State) (n : Nat) (f : SyncSt → SyncSt) : (updSync s n f).update = s.update := rfl
@[simp] theorem updSync_ports (s : State) (n : Nat) (f : SyncSt → SyncSt) : (updSync s n f).ports = s.ports := rfl
@[simp] theorem updSync_convs (s : State) (n : Nat) (f : SyncSt → SyncSt) : (updSync s n f).convs = s.convs := rfl
@[simp] theorem updSync_lanes (s : State) (n : Nat) (f : SyncSt → SyncSt) : (updSync s n f).lanes = s.lanes := rfl
@[simp] theorem updSync_cal (s : State) (n : Nat) (f : SyncSt → SyncSt) : (updSync s n f).cal = s.cal := rfl
@[simp] theorem updSync_meters (s : State) (n : Nat) (f : SyncSt → SyncSt) : (updSync s n f).meters = s.meters := rfl
@[simp] theorem updSync_counters (s : State) (n : Nat) (f : SyncSt → SyncSt) : (updSync s n f).counters = s.counters := rfl
@[simp] theorem updSync_interval (s : State) (n : Nat) (f : SyncSt → SyncSt) : (updSync s n f).interval = s.interval := rfl
@[simp] theorem updSync_loops (s : State) (n : Nat) (f : SyncSt → SyncSt) : (updSync s n f).loops = s.loops := rfl
@[simp] theorem updSync_reps (s : State) (n : Nat) (f : SyncSt → SyncSt) : (updSync s n f).reps = s.reps := rfl
@[simp] theorem updSync_groups (s : State) (n : Nat) (f : SyncSt → SyncSt) : (updSync s n f).groups = s.groups := rfl
@[simp] theorem updSync_traces (s : State) (n : Nat) (f : SyncSt → SyncSt) : (updSync s n f).traces = s.traces := rfl
@[simp] theorem updSync_zones (s : State) (n : Nat) (f : SyncSt → SyncSt) : (updSync s n f).zones = s.zones := rfl
@[simp] theorem updSync_display (s : State) (n : Nat) (f : SyncSt → SyncSt) : (updSync s n f).display = s.display := rfl
@[simp] theorem updSync_indicators (s : State) (n : Nat) (f : SyncSt → SyncSt) : (updSync s n f).indicators = s.indicators := rfl
@[simp] theorem updSync_health (s : State) (n : Nat) (f : SyncSt → SyncSt) : (updSync s n f).health = s.health := rfl
@[simp] theorem updSync_used (s : State) (n : Nat) (f : SyncSt → SyncSt) : (updSync s n f).used = s.used := rfl

end Sys2Proof.Machine
end

