-- ==== Sys2Proof/Laws/Chains.lean ====
section
/-! SUPPORT. Reading entries through chains of writers, and through functions that write none. -/

namespace Sys2Proof.Machine

/-- Commands whose meaning ends in `doneIf` run when their test holds. -/
theorem runs_doneIf {c : Instr} {s u : State} (b : Bool) (e : exec c s = doneIf b s u) (h : b = true) : runs c s u := by
  unfold runs; rw [e]; unfold doneIf; rw [h]; rfl

/-- Where the test fails nothing happens. -/
theorem still_doneIf {c : Instr} {s u : State} (b : Bool) (e : exec c s = doneIf b s u) (h : b = false) : exec c s = .next s := by
  rw [e]; unfold doneIf; rw [h]; rfl

theorem holds_of_ents {s t : State} (h : t.ents = s.ents) (i j n : Nat) : holds t i j n ↔ holds s i j n := by
  unfold holds; rw [getBytes_of_ents h]

theorem getN_of_ents {s t : State} (h : t.ents = s.ents) (i j : Nat) : getN t i j = getN s i j := getN_of_bytes (getBytes_of_ents h i j)

theorem onlyEntries.refl (ks : List (Nat × Nat)) (s : State) : onlyEntries ks s s := fun _ _ _ => rfl

theorem onlyEntries.trans {ks : List (Nat × Nat)} {s t u : State} (h : onlyEntries ks s t) (g : onlyEntries ks t u) : onlyEntries ks s u :=
  fun i j n => (g i j n).trans (h i j n)

theorem onlyEntries.mono {ks ls : List (Nat × Nat)} {s t : State} (h : onlyEntries ks s t) (m : ∀ k ∈ ks, k ∈ ls) : onlyEntries ls s t :=
  fun i j n => h i j fun k hk => n k (m k hk)

theorem onlyEntries.of_ents {ks : List (Nat × Nat)} {s t u : State} (h : onlyEntries ks s t) (g : u.ents = t.ents) : onlyEntries ks s u :=
  fun i j n => (getBytes_of_ents g i j).trans (h i j n)

theorem onlyConds.of_conds {cs : List Nat} {s t u : State} (h : onlyConds cs s t) (g : u.conds = t.conds) : onlyConds cs s u :=
  fun c m => (raised_of_conds g c).trans (h c m)

theorem onlyConds.mono {cs ds : List Nat} {s t : State} (h : onlyConds cs s t) (m : ∀ c ∈ cs, c ∈ ds) : onlyConds ds s t :=
  fun c n => h c fun hc => n (m c hc)

/-! ## Writers of one entry -/

theorem getBytes_setBytes_ne (s : State) (i j a b : Nat) (v : Bytes) (h : keyOf i j ≠ keyOf a b) : getBytes (setBytes s i j v) a b = getBytes s a b :=
  (writes_setBytes s i j v _ fun e => h (List.mem_singleton.mp e).symm).bytes
theorem getN_setBytes_ne (s : State) (i j a b : Nat) (v : Bytes) (h : keyOf i j ≠ keyOf a b) : getN (setBytes s i j v) a b = getN s a b :=
  getN_of_bytes (getBytes_setBytes_ne s i j a b v h)
theorem holds_setBytes_ne (s : State) (i j a b m : Nat) (v : Bytes) (h : keyOf i j ≠ keyOf a b) : holds (setBytes s i j v) a b m ↔ holds s a b m := by
  unfold holds; rw [getBytes_setBytes_ne s i j a b v h]
theorem entriesWf_setBytes (s : State) (i j : Nat) (v : Bytes) (h : s.entriesWf) : (setBytes s i j v).entriesWf := (law_setBytes s i j v).wf h
theorem onlyEntries_setBytes {ks : List (Nat × Nat)} {s t : State} (i j : Nat) (v : Bytes) (m : (i, j) ∈ ks) (h : onlyEntries ks s t) :
    onlyEntries ks s (setBytes t i j v) := h.trans ((Writes.only (ks := [(i, j)]) (writes_setBytes t i j v)).mono (by simpa using m))

theorem getBytes_setN_ne (s : State) (i j a b : Nat) (n : Nat) (h : keyOf i j ≠ keyOf a b) : getBytes (setN s i j n) a b = getBytes s a b :=
  (writes_setN s i j n _ fun e => h (List.mem_singleton.mp e).symm).bytes
theorem getN_setN_ne (s : State) (i j a b : Nat) (n : Nat) (h : keyOf i j ≠ keyOf a b) : getN (setN s i j n) a b = getN s a b :=
  getN_of_bytes (getBytes_setN_ne s i j a b n h)
theorem holds_setN_ne (s : State) (i j a b m : Nat) (n : Nat) (h : keyOf i j ≠ keyOf a b) : holds (setN s i j n) a b m ↔ holds s a b m := by
  unfold holds; rw [getBytes_setN_ne s i j a b n h]
theorem entriesWf_setN (s : State) (i j : Nat) (n : Nat) (h : s.entriesWf) : (setN s i j n).entriesWf := (law_setN s i j n).wf h
theorem onlyEntries_setN {ks : List (Nat × Nat)} {s t : State} (i j : Nat) (n : Nat) (m : (i, j) ∈ ks) (h : onlyEntries ks s t) :
    onlyEntries ks s (setN t i j n) := h.trans ((Writes.only (ks := [(i, j)]) (writes_setN t i j n)).mono (by simpa using m))

theorem getBytes_setB_ne (s : State) (i j a b : Nat) (z : Bool) (h : keyOf i j ≠ keyOf a b) : getBytes (setB s i j z) a b = getBytes s a b :=
  (writes_setB s i j z _ fun e => h (List.mem_singleton.mp e).symm).bytes
theorem getN_setB_ne (s : State) (i j a b : Nat) (z : Bool) (h : keyOf i j ≠ keyOf a b) : getN (setB s i j z) a b = getN s a b :=
  getN_of_bytes (getBytes_setB_ne s i j a b z h)
theorem holds_setB_ne (s : State) (i j a b m : Nat) (z : Bool) (h : keyOf i j ≠ keyOf a b) : holds (setB s i j z) a b m ↔ holds s a b m := by
  unfold holds; rw [getBytes_setB_ne s i j a b z h]
theorem entriesWf_setB (s : State) (i j : Nat) (b : Bool) (h : s.entriesWf) : (setB s i j b).entriesWf := (law_setB s i j b).wf h
theorem onlyEntries_setB {ks : List (Nat × Nat)} {s t : State} (i j : Nat) (b : Bool) (m : (i, j) ∈ ks) (h : onlyEntries ks s t) :
    onlyEntries ks s (setB t i j b) := h.trans ((Writes.only (ks := [(i, j)]) (writes_setB t i j b)).mono (by simpa using m))

theorem getBytes_setF_ne (s : State) (i j a b : Nat) (x : F32) (h : keyOf i j ≠ keyOf a b) : getBytes (setF s i j x) a b = getBytes s a b :=
  (writes_setF s i j x _ fun e => h (List.mem_singleton.mp e).symm).bytes
theorem getN_setF_ne (s : State) (i j a b : Nat) (x : F32) (h : keyOf i j ≠ keyOf a b) : getN (setF s i j x) a b = getN s a b :=
  getN_of_bytes (getBytes_setF_ne s i j a b x h)
theorem holds_setF_ne (s : State) (i j a b m : Nat) (x : F32) (h : keyOf i j ≠ keyOf a b) : holds (setF s i j x) a b m ↔ holds s a b m := by
  unfold holds; rw [getBytes_setF_ne s i j a b x h]
theorem entriesWf_setF (s : State) (i j : Nat) (x : F32) (h : s.entriesWf) : (setF s i j x).entriesWf := (law_setF s i j x).wf h
theorem onlyEntries_setF {ks : List (Nat × Nat)} {s t : State} (i j : Nat) (x : F32) (m : (i, j) ∈ ks) (h : onlyEntries ks s t) :
    onlyEntries ks s (setF t i j x) := h.trans ((Writes.only (ks := [(i, j)]) (writes_setF t i j x)).mono (by simpa using m))

theorem getBytes_setI_ne (s : State) (i j a b : Nat) (x : Int) (h : keyOf i j ≠ keyOf a b) : getBytes (setI s i j x) a b = getBytes s a b :=
  (writes_setI s i j x _ fun e => h (List.mem_singleton.mp e).symm).bytes
theorem getN_setI_ne (s : State) (i j a b : Nat) (x : Int) (h : keyOf i j ≠ keyOf a b) : getN (setI s i j x) a b = getN s a b :=
  getN_of_bytes (getBytes_setI_ne s i j a b x h)
theorem holds_setI_ne (s : State) (i j a b m : Nat) (x : Int) (h : keyOf i j ≠ keyOf a b) : holds (setI s i j x) a b m ↔ holds s a b m := by
  unfold holds; rw [getBytes_setI_ne s i j a b x h]
theorem entriesWf_setI (s : State) (i j : Nat) (x : Int) (h : s.entriesWf) : (setI s i j x).entriesWf := (law_setI s i j x).wf h
theorem onlyEntries_setI {ks : List (Nat × Nat)} {s t : State} (i j : Nat) (x : Int) (m : (i, j) ∈ ks) (h : onlyEntries ks s t) :
    onlyEntries ks s (setI t i j x) := h.trans ((Writes.only (ks := [(i, j)]) (writes_setI t i j x)).mono (by simpa using m))

theorem getBytes_addN_ne (s : State) (i j a b : Nat) (n : Nat) (h : keyOf i j ≠ keyOf a b) : getBytes (addN s i j n) a b = getBytes s a b :=
  (writes_addN s i j n _ fun e => h (List.mem_singleton.mp e).symm).bytes
theorem getN_addN_ne (s : State) (i j a b : Nat) (n : Nat) (h : keyOf i j ≠ keyOf a b) : getN (addN s i j n) a b = getN s a b :=
  getN_of_bytes (getBytes_addN_ne s i j a b n h)
theorem holds_addN_ne (s : State) (i j a b m : Nat) (n : Nat) (h : keyOf i j ≠ keyOf a b) : holds (addN s i j n) a b m ↔ holds s a b m := by
  unfold holds; rw [getBytes_addN_ne s i j a b n h]
theorem entriesWf_addN (s : State) (i j : Nat) (n : Nat) (h : s.entriesWf) : (addN s i j n).entriesWf := (law_addN s i j n).wf h
theorem onlyEntries_addN {ks : List (Nat × Nat)} {s t : State} (i j : Nat) (n : Nat) (m : (i, j) ∈ ks) (h : onlyEntries ks s t) :
    onlyEntries ks s (addN t i j n) := h.trans ((Writes.only (ks := [(i, j)]) (writes_addN t i j n)).mono (by simpa using m))

theorem getBytes_setBit_ne (s : State) (i j a b : Nat) (n : Nat) (z : Bool) (h : keyOf i j ≠ keyOf a b) : getBytes (setBit s i j n z) a b = getBytes s a b :=
  (writes_setBit s i j n z _ fun e => h (List.mem_singleton.mp e).symm).bytes
theorem getN_setBit_ne (s : State) (i j a b : Nat) (n : Nat) (z : Bool) (h : keyOf i j ≠ keyOf a b) : getN (setBit s i j n z) a b = getN s a b :=
  getN_of_bytes (getBytes_setBit_ne s i j a b n z h)
theorem holds_setBit_ne (s : State) (i j a b m : Nat) (n : Nat) (z : Bool) (h : keyOf i j ≠ keyOf a b) : holds (setBit s i j n z) a b m ↔ holds s a b m := by
  unfold holds; rw [getBytes_setBit_ne s i j a b n z h]
theorem entriesWf_setBit (s : State) (i j : Nat) (n : Nat) (b : Bool) (h : s.entriesWf) : (setBit s i j n b).entriesWf := (law_setBit s i j n b).wf h
theorem onlyEntries_setBit {ks : List (Nat × Nat)} {s t : State} (i j : Nat) (n : Nat) (b : Bool) (m : (i, j) ∈ ks) (h : onlyEntries ks s t) :
    onlyEntries ks s (setBit t i j n b) := h.trans ((Writes.only (ks := [(i, j)]) (writes_setBit t i j n b)).mono (by simpa using m))

/-! ## Conditions write no entry -/

@[simp] theorem getBytes_raise (s : State) (i j : Nat) (c : Nat) : getBytes (raise s c) i j = getBytes s i j := getBytes_of_ents (raise_ents ..) i j
@[simp] theorem getN_raise (s : State) (i j : Nat) (c : Nat) : getN (raise s c) i j = getN s i j := getN_of_ents (raise_ents ..) i j
@[simp] theorem holds_raise (s : State) (i j n : Nat) (c : Nat) : holds (raise s c) i j n ↔ holds s i j n := holds_of_ents (raise_ents ..) i j n
@[simp] theorem entriesWf_raise (s : State) (c : Nat) : (raise s c).entriesWf ↔ s.entriesWf := by unfold State.entriesWf; rw [raise_ents]
@[simp] theorem getBytes_raiseHeld (s : State) (i j : Nat) (c : Nat) : getBytes (raiseHeld s c) i j = getBytes s i j := getBytes_of_ents (raiseHeld_ents ..) i j
@[simp] theorem getN_raiseHeld (s : State) (i j : Nat) (c : Nat) : getN (raiseHeld s c) i j = getN s i j := getN_of_ents (raiseHeld_ents ..) i j
@[simp] theorem holds_raiseHeld (s : State) (i j n : Nat) (c : Nat) : holds (raiseHeld s c) i j n ↔ holds s i j n := holds_of_ents (raiseHeld_ents ..) i j n
@[simp] theorem entriesWf_raiseHeld (s : State) (c : Nat) : (raiseHeld s c).entriesWf ↔ s.entriesWf := by unfold State.entriesWf; rw [raiseHeld_ents]
@[simp] theorem getBytes_causeGone (s : State) (i j : Nat) (c : Nat) : getBytes (causeGone s c) i j = getBytes s i j := getBytes_of_ents (causeGone_ents ..) i j
@[simp] theorem getN_causeGone (s : State) (i j : Nat) (c : Nat) : getN (causeGone s c) i j = getN s i j := getN_of_ents (causeGone_ents ..) i j
@[simp] theorem holds_causeGone (s : State) (i j n : Nat) (c : Nat) : holds (causeGone s c) i j n ↔ holds s i j n := holds_of_ents (causeGone_ents ..) i j n
@[simp] theorem entriesWf_causeGone (s : State) (c : Nat) : (causeGone s c).entriesWf ↔ s.entriesWf := by unfold State.entriesWf; rw [causeGone_ents]
@[simp] theorem getBytes_dropCond (s : State) (i j : Nat) (c : Nat) : getBytes (dropCond s c) i j = getBytes s i j := getBytes_of_ents (dropCond_ents ..) i j
@[simp] theorem getN_dropCond (s : State) (i j : Nat) (c : Nat) : getN (dropCond s c) i j = getN s i j := getN_of_ents (dropCond_ents ..) i j
@[simp] theorem holds_dropCond (s : State) (i j n : Nat) (c : Nat) : holds (dropCond s c) i j n ↔ holds s i j n := holds_of_ents (dropCond_ents ..) i j n
@[simp] theorem entriesWf_dropCond (s : State) (c : Nat) : (dropCond s c).entriesWf ↔ s.entriesWf := by unfold State.entriesWf; rw [dropCond_ents]
@[simp] theorem getBytes_judge (s : State) (i j : Nat) (c : Nat) (z : Bool) : getBytes (judge s c z) i j = getBytes s i j := getBytes_of_ents (judge_ents ..) i j
@[simp] theorem getN_judge (s : State) (i j : Nat) (c : Nat) (z : Bool) : getN (judge s c z) i j = getN s i j := getN_of_ents (judge_ents ..) i j
@[simp] theorem holds_judge (s : State) (i j n : Nat) (c : Nat) (z : Bool) : holds (judge s c z) i j n ↔ holds s i j n := holds_of_ents (judge_ents ..) i j n
@[simp] theorem entriesWf_judge (s : State) (c : Nat) (z : Bool) : (judge s c z).entriesWf ↔ s.entriesWf := by unfold State.entriesWf; rw [judge_ents]
@[simp] theorem getBytes_follow (s : State) (i j : Nat) (c : Nat) (z : Bool) : getBytes (follow s c z) i j = getBytes s i j := getBytes_of_ents (follow_ents ..) i j
@[simp] theorem getN_follow (s : State) (i j : Nat) (c : Nat) (z : Bool) : getN (follow s c z) i j = getN s i j := getN_of_ents (follow_ents ..) i j
@[simp] theorem holds_follow (s : State) (i j n : Nat) (c : Nat) (z : Bool) : holds (follow s c z) i j n ↔ holds s i j n := holds_of_ents (follow_ents ..) i j n
@[simp] theorem entriesWf_follow (s : State) (c : Nat) (z : Bool) : (follow s c z).entriesWf ↔ s.entriesWf := by unfold State.entriesWf; rw [follow_ents]

/-! ## Writers of entries leave conditions -/

@[simp] theorem raised_setBytes (s : State) (i j : Nat) (v : Bytes) (c : Nat) : raised (setBytes s i j v) c = raised s c := raised_of_conds (setBytes_conds ..) c
@[simp] theorem raised_setN (s : State) (i j : Nat) (n : Nat) (c : Nat) : raised (setN s i j n) c = raised s c := raised_of_conds (setN_conds ..) c
@[simp] theorem raised_setB (s : State) (i j : Nat) (z : Bool) (c : Nat) : raised (setB s i j z) c = raised s c := raised_of_conds (setB_conds ..) c
@[simp] theorem raised_setF (s : State) (i j : Nat) (x : F32) (c : Nat) : raised (setF s i j x) c = raised s c := raised_of_conds (setF_conds ..) c
@[simp] theorem raised_setI (s : State) (i j : Nat) (x : Int) (c : Nat) : raised (setI s i j x) c = raised s c := raised_of_conds (setI_conds ..) c
@[simp] theorem raised_addN (s : State) (i j : Nat) (n : Nat) (c : Nat) : raised (addN s i j n) c = raised s c := raised_of_conds (addN_conds ..) c
@[simp] theorem raised_setBit (s : State) (i j : Nat) (n : Nat) (z : Bool) (c : Nat) : raised (setBit s i j n z) c = raised s c := raised_of_conds (setBit_conds ..) c

/-! ## The clock of a tick -/

theorem rtcTick_tick (s : State) (c n : Nat) : (rtcTick s c n).clock.tick = s.clock.tick := by
  unfold rtcTick
  split
  · rfl
  · simp only [apply_ite State.clock, apply_ite Clock.tick, setI_clock, ite_self]

theorem growBound_tick (s : State) : (growBound s).clock.tick = s.clock.tick := by unfold growBound; split <;> rfl

theorem rtcTick_ref (s : State) (c n : Nat) : (rtcTick s c n).clock.ref = s.clock.ref := by
  unfold rtcTick
  split
  · rfl
  · simp only [apply_ite State.clock, apply_ite Clock.ref, setI_clock, ite_self]

theorem growBound_ref (s : State) : (growBound s).clock.ref = s.clock.ref := by unfold growBound; split <;> rfl


end Sys2Proof.Machine
end

