-- ==== Sys2Proof/Laws/Touch.lean ====
section
/-! SUPPORT. From the masks of the frame lemmas to the parts that claims name. -/

namespace Sys2Proof.Machine

/-- The place of a part in a mask. -/
def Part.bit (p : Part) : Nat :=
  match p with
  | .power => 0
  | .clock => 1
  | .thermos => 2
  | .entries => 3
  | .memory => 4
  | .records => 5
  | .journal => 6
  | .pending => 7
  | .remap => 8
  | .conditions => 9
  | .snapshots => 10
  | .transfers => 11
  | .waiting => 12
  | .servicePort => 13
  | .publications => 14
  | .kdpRest => 15
  | .paths => 16
  | .pairs => 17
  | .trips => 18
  | .network => 19
  | .alarms => 20
  | .audit => 21
  | .sealQueue => 22
  | .seals => 23
  | .kilnRest => 24
  | .update => 25
  | .ports => 26
  | .converters => 27
  | .syncSets => 28
  | .lanes => 29
  | .calibration => 30
  | .meters => 31
  | .counters => 32
  | .interval => 33
  | .loops => 34
  | .repetitive => 35
  | .groups => 36
  | .traces => 37
  | .zones => 38
  | .display => 39
  | .indicators => 40
  | .health => 41
  | .freeValues => 42

/-- What a law does not touch stays. -/
theorem Law.same {T : Nat} {s t : State} (h : Law T s t) (p : Part) (hT : T.testBit p.bit = false) : p.same s t := by
  cases p with
  | power => exact h.power_eq hT
  | clock => exact h.clock_eq hT
  | thermos => exact h.thermos_eq hT
  | entries => exact h.ents_eq hT
  | memory => exact h.mem_eq hT
  | records => exact h.recs_eq hT
  | journal => exact h.journal_eq hT
  | pending => exact h.pend_eq hT
  | remap => exact ⟨h.remap_eq hT, h.bad_eq hT, h.scrubHits_eq hT, h.scrubStart_eq hT, h.scrubHours_eq hT, h.scrubDue_eq hT,
      h.tape_eq hT, h.shows_eq hT, h.storUpdate_eq hT, h.cut_eq hT, h.marks_eq hT⟩
  | conditions => exact h.conds_eq hT
  | snapshots => exact ⟨h.snaps_eq hT, h.ended_eq hT⟩
  | transfers => exact h.transfers_eq hT
  | waiting => exact h.wait_eq hT
  | servicePort => exact ⟨h.serviceQ_eq hT, h.serviceWait_eq hT⟩
  | publications => exact h.pubs_eq hT
  | kdpRest => exact ⟨h.discards_eq hT, h.subs_eq hT, h.events_eq hT⟩
  | paths => exact h.paths_eq hT
  | pairs => exact h.pairs_eq hT
  | trips => exact ⟨h.bridging_eq hT, h.resetNeeded_eq hT, h.remotes_eq hT, h.stuck_eq hT, h.tripCounter_eq hT, h.localTags_eq hT, h.refreshAt_eq hT, h.tripOrder_eq hT⟩
  | network => exact h.net_eq hT
  | alarms => exact h.alarms_eq hT
  | audit => exact h.audit_eq hT
  | sealQueue => exact h.queue_eq hT
  | seals => exact h.seals_eq hT
  | kilnRest => exact ⟨h.statements_eq hT, h.onDemand_eq hT, h.trngHalted_eq hT, h.keyFault_eq hT, h.billingOmitted_eq hT, h.recordsLost_eq hT, h.counter_eq hT⟩
  | update => exact h.update_eq hT
  | ports => exact h.ports_eq hT
  | converters => exact h.convs_eq hT
  | syncSets => exact h.syncs_eq hT
  | lanes => exact h.lanes_eq hT
  | calibration => exact h.cal_eq hT
  | meters => exact h.meters_eq hT
  | counters => exact h.counters_eq hT
  | interval => exact h.interval_eq hT
  | loops => exact h.loops_eq hT
  | repetitive => exact h.reps_eq hT
  | groups => exact h.groups_eq hT
  | traces => exact h.traces_eq hT
  | zones => exact h.zones_eq hT
  | display => exact h.display_eq hT
  | indicators => exact h.indicators_eq hT
  | health => exact h.health_eq hT
  | freeValues => exact h.used_eq hT

theorem mem_everyPart (p : Part) : p ∈ everyPart := by cases p <;> decide

/-- A list of parts covers a mask. -/
def covers (L : List Part) (T : Nat) : Bool := everyPart.all fun p => L.contains p || !T.testBit p.bit

theorem covers_bit {L : List Part} {T : Nat} (h : covers L T = true) (p : Part) (n : p ∉ L) : T.testBit p.bit = false := by
  have k := List.all_eq_true.mp h p (mem_everyPart p)
  simpa [n] using k

/-- What a covered law does not list stays. -/
theorem LawO.same {T : Nat} {s t : State} {o : Out} (h : LawO T s o) (e : o = .next t) {L : List Part} (c : covers L T = true) (p : Part)
    (n : p ∉ L) : p.same s t := (h.out e).same p (covers_bit c p n)

end Sys2Proof.Machine
end

