-- ==== Sys2Proof/WellFormed.lean ====
section
/-! DEFINITION. Well-formed commands: instance numbers exist (R82, R113, R146, R190, R201, R217, R261, R326, R385), header and
identifier fields fit their bits (R57, R331), a frame's data fit a CAN FD frame (R58). -/

namespace Sys2Proof

namespace Machine

/-- The fields of a KDP message fit (R57, R58, R331). -/
def KdpReq.wf (m : KdpReq) : Bool :=
  (match m.addr.chan with | .service => true | .bus p => decide (p < 4))
    && decide (m.addr.cls < 8 ∧ m.addr.svc < 16 ∧ m.addr.dst < 128 ∧ m.addr.src < 128)
    && decide (m.addr.tag < 256 ∧ m.addr.flags < 256 ∧ m.op < 256 ∧ m.index < 65536)
    && decide (m.sub < 256 ∧ m.seq < 256 ∧ m.len < 65536 ∧ m.body.length ≤ 56)
    && decide (m.badPage < 2 ^ 256 ∧ m.ecc < 2 ^ 256)

/-- The fields of a received frame fit (R327, R331). -/
def RxFrame.wf (f : RxFrame) : Bool :=
  decide (f.path < 4) && decide (f.id < 2 ^ (if f.ext then 29 else 11)) && decide (f.data.length ≤ if f.fd then 64 else 8)

/-- A requester's segment and node exist (R49, R331). -/
def Requester.wf (r : Requester) : Bool :=
  match r with | .node seg id => decide (seg < 65536 ∧ id < 128) | .service => true | .device => true

end Machine

/-- A command is well formed. -/
def Instr.wf (i : Instr) : Bool :=
  match i with
  | .tick index _ _ => decide (index < 65536)
  | .coreSupplyAdjust => true
  | .conditionClear code => decide (code < 65536)
  | .referenceOscillatorFault => true
  | .referenceRestart _ => true
  | .hamperPageWrite _ => true
  | .scrubPage ecc _ => decide (ecc < 16)
  | .read m => m.wf
  | .snapshotExpiry => true
  | .write m => m.wf
  | .readSnapshot m => m.wf
  | .writeInitiate m => m.wf
  | .segment m => m.wf
  | .segmentAcknowledgement m => m.wf
  | .segmentWaitTimeout who tag => who.wf && decide (tag < 256)
  | .abortTransfer m => m.wf
  | .transferTimeout who tag => who.wf && decide (tag < 256)
  | .describe m => m.wf
  | .unknownOp m => m.wf
  | .publicationReceived f badPage _ => f.wf && decide (badPage < 2 ^ 256)
  | .subscriptionTimeout n => decide (n < 64)
  | .publicationPeriodTrigger n => decide (n < 64)
  | .publicationChangeTrigger n => decide (n < 64)
  | .inhibitTimeEnd n => decide (n < 64)
  | .publicationMapEnable m => m.wf
  | .servicePortSelection bytes badPage _ ecc => decide (bytes.length < 65536) && decide (badPage < 2 ^ 256) && decide (ecc < 2 ^ 256)
  | .portModeWrite m => m.wf
  | .portModeEnable n => decide (n < 64)
  | .digitalFilterChange n _ _ => decide (n < 64)
  | .gateWindowEnd n => decide (n < 64)
  | .stallTimeout n => decide (n < 64)
  | .presenceWindowEnd n => decide (n < 64)
  | .shuntOverload n => decide (n < 64)
  | .shuntReclose n => decide (n < 64)
  | .pwmPeriodBoundary n => decide (n < 64)
  | .outputOverloadTimeout n => decide (n < 64)
  | .switchOvercurrent n => decide (n < 64)
  | .switchRetry n => decide (n < 64)
  | .switchRetrySuccess n => decide (n < 64)
  | .faultReset m => m.wf
  | .driverOverTemperature n => decide (n < 64)
  | .driverRestart n _ => decide (n < 64)
  | .actuatorRunEnd n => decide (n < 64)
  | .portFaultClear n t => decide (n < 64) && decide (1 ≤ t ∧ t ≤ 8)
  | .tripRelease m => m.wf
  | .converterTimerTrigger _ i => decide (i < 8)
  | .pwmEventTrigger n ev _ => decide (n < 64) && decide (ev < 2)
  | .softwareTrigger m => m.wf
  | .triggerDelayEnd k => decide (k < 8)
  | .slotEnd k _ _ => decide (k < 8)
  | .converterRun m => m.wf
  | .injectChannel m => m.wf
  | .rawMode m => m.wf
  | .metrologyTakesResult k _ => decide (k < 8)
  | .referenceOutOfTolerance k _ => decide (k < 8)
  | .settlingComplete k => decide (k < 8)
  | .laneMeasurementStart k => decide (k < 8)
  | .laneShot k _ => decide (k < 8)
  | .laneMeasurementEnd k => decide (k < 8)
  | .laneResultTaken k => decide (k < 8)
  | .laneRun m => m.wf
  | .zeroFlowCapture m => m.wf
  | .calNChange _ => true
  | .sessionOpen m => m.wf
  | .sessionClose m => m.wf
  | .sessionTimeout => true
  | .captureStart m => m.wf
  | .meterEnable m => m.wf
  | .counterEnable m => m.wf
  | .meteringPeriodEnd m => decide (m < 16)
  | .pulseCounterSecond q => decide (q < 32)
  | .intervalEnd => true
  | .loopSampleInstant l => decide (l < 96)
  | .loopRelease l => decide (l < 96)
  | .loopJobEnd l => decide (l < 96)
  | .loopOutputInstant l => decide (l < 96)
  | .loopModeOff m => m.wf
  | .loopModeManual m => m.wf
  | .loopModeAuto m => m.wf
  | .loopModeHold m => m.wf
  | .loopModeSafe m => m.wf
  | .groupEnable m => m.wf
  | .groupMemberWrite m => m.wf
  | .repetitiveEnable m => m.wf
  | .clearMemory m => m.wf
  | .highWaterFlush l => decide (l < 96)
  | .zoneEvaluation z => decide (z < 32)
  | .zoneEnable m => m.wf
  | .presenceSample z => decide (z < 32)
  | .occupiedSet z => decide (z < 32)
  | .occupiedClear z => decide (z < 32)
  | .zoneModeRequest m => m.wf
  | .zoneBoostStart m => m.wf
  | .zoneRequestEnd m => m.wf
  | .requestExpiry z => decide (z < 32)
  | .boostEnd z => decide (z < 32)
  | .zoneTripReset m => m.wf
  | .traceArm m => m.wf
  | .traceDisarm m => m.wf
  | .traceManualTrigger m => m.wf
  | .onDemandSeal m => m.wf
  | .signingStart => true
  | .signingComplete _ => true
  | .signingRetry => true
  | .attestationChallenge m => m.wf
  | .attestationStatementRead m => m.wf
  | .statementExpiry who => who.wf
  | .trngHealthFailure => true
  | .trngRetest _ => true
  | .tamperActivation i _ => decide (i < 2)
  | .tamperRearm i => decide (i < 2)
  | .tamperLog i => decide (i < 2)
  | .updateRequest m => m.wf
  | .updateBlock m => m.wf
  | .updateCancel m => m.wf
  | .activate m => m.wf
  | .activationReset _ => true
  | .confirm m => m.wf
  | .confirmationTimeout => true
  | .acknowledgeFallback m => m.wf
  | .tripFrameReceived f => f.wf
  | .kdpForward f => f.wf
  | .rawFrameReceived f => f.wf
  | .remoteFrameReceived p => decide (p < 4)
  | .frameCompleted p _ _ => decide (p < 4)
  | .transmissionError p _ => decide (p < 4)
  | .busOffRecovery p => decide (p < 4)
  | .transceiverFault p bits => decide (p < 4) && decide (bits < 256)
  | .errorPassiveLimit p => decide (p < 4)
  | .quietPath p => decide (p < 4)
  | .leaseExpiry i => decide (i < 2)
  | .heartbeatDue i => decide (i < 2)
  | .pairJoin i => decide (i < 2)
  | .tripRefresh => true
  | .clearRemoteSources m => m.wf
  | .mailboxSend m => m.wf
  | .mailboxCancel m => m.wf
  | .rtcWindow _ => true
  | .halt m => m.wf
  | .haltRelease m => m.wf
  | .haltTimeout => true
  | .timeReferenceSend i => decide (i < 2)
  | .timeFollowUpSend i => decide (i < 2)
  | .timeReferenceReceived f => f.wf
  | .timeFollowUpReceived f => f.wf
  | .holdover => true
  | .masterResume i => decide (i < 2)
  | .scheduleMinute => true
  | .daylightSavingChange => true
  | .userAlarm a => decide (a < 8)
  | .testWrite m => m.wf
  | .pageInspect m => m.wf
  | .displayEnable m => m.wf
  | .displayDisable m => m.wf
  | .windowUpdate m => m.wf
  | .displayFrameBoundary _ => true
  | .imageCheck _ => true
  | .metrologyPageChange => true
  | .railFault => true
  | .railRecovery => true
  | .indicatorStep i => decide (i < 4)
  | .indicatorFault i kind => decide (i < 4) && decide (kind < 3)
  | .healthHour => true
  | .pathLossTimeout i => decide (i < 2)
  | .pathLossClear i => decide (i < 2)
  | .histogramSample => true
  | .lifetimeFlush _ => true
  | .dieTemperatureInject => true
  | .acknowledgeDeadlineMiss m => m.wf
  | .refusedHamperWriteRead m => m.wf
  | .powerFailWarning _ _ => true
  | .brownOutEnd _ => true
  | .powerDownReset _ => true
  | .warningTimeout _ => true
  | .stateRequest m => m.wf
  | .supplyWarning _ => true
  | .overVoltage _ => true
  | .portRailLimit _ => true
  | .dieOverTemperature _ => true
  | .thermalShutdown _ _ => true
  | .thermosSwitchToBackup _ => true
  | .thermosSwitchToMain _ => true
  | .backupMeasurement _ => true
  | .oscillatorStopped => true
  | .startUp _ _ _ => true
  | .metrologyValid => true
  | .metrologyValidTimeout _ => true
  | .externalReset _ => true
  | .watchdogExpiry _ => true
  | .resetEntryEnd => true
  | .heartbeatLosesArbitration i => decide (i < 2)
  | .receiveError p _ => decide (p < 4)
  | .transceiverFaultCleared p => decide (p < 4)
  | .currentLimitActs n _ => decide (n < 64)
  | .thermalRestart _ _ _ _ => true

end Sys2Proof
end

