-- ==== Sys2Proof/Tests/Slice0.lean ====
section
/-! SUPPORT. Checks of the model on small states, and a witness for the hypotheses of every statement. -/

namespace Sys2Proof.Tests.Slice0
open Sys2Proof Sys2Proof.Machine
set_option Elab.async false

/-! ## Small states -/

/-- The firmware runs. -/
def base : State := { State.reset with power := { State.reset.power with phase := .up } }
/-- Some entries have a value: index, subindex, value. -/
def ents (l : List (Nat × Nat × Nat)) (s : State := base) : State := l.foldl (fun a e => setN a e.1 e.2.1 e.2.2) s
/-- A tick after the start. -/
def atTick (n : Nat) (s : State := base) : State := { s with clock := { s.clock with tick := n, ref := 24000 * n } }
/-- A condition is raised, its cause absent since the given tick. -/
def cond (code since : Nat) (s : State := base) : State := { s with conds := [⟨code, false, since⟩] }
/-- The next state of a command. -/
def after (c : Instr) (s : State) : State := match exec c s with | .next t => t | _ => s
/-- Changes of the parts of a state. -/
def pow (f : Power → Power) (s : State := base) : State := { s with power := f s.power }
def thm (f : Thermos → Thermos) (s : State := base) : State := { s with thermos := f s.thermos }
def sto (f : Storage → Storage) (s : State := base) : State := { s with stor := f s.stor }
/-- No spare page is free. -/
def noSpares (s : State := base) : State := sto (fun t => { t with remap := { t.remap with table := List.replicate 8192 none } }) s
def kln (f : Kiln → Kiln) (s : State := base) : State := { s with kiln := f s.kiln }
def clk (f : Clock → Clock) (s : State := base) : State := { s with clock := f s.clock }
def hlt (f : HealthSt → HealthSt) (s : State := base) : State := { s with health := f s.health }
def netw (f : NetTime → NetTime) (s : State := base) : State := { s with net := f s.net }
def dsp (f : DisplaySt → DisplaySt) (s : State := base) : State := updDisplay s f

/-! ## Whole device, ticks, conditions, power (O1 to O20) -/

theorem witness_StepRunsFront : ({ base with pending := [.tick 1000 33 true] } : State).pending = .tick 1000 33 true :: [] ∧
    base.pending = [] := by decide +kernel
theorem witness_CommandsTouchOnlyTheirParts : exec (.boostEnd 0) base = .next base ∧ Part.memory ∉ touched (.boostEnd 0) :=
  ⟨rfl, by decide⟩
theorem witness_StepKeepsGoodStates : Memory.wf base.stor.mem = true ∧ mapWf base.ents = true ∧ base.kdp.snaps.length ≤ 8 ∧
    base.stor.remap.fits = true ∧ step base = .next base := ⟨by decide, by decide, by decide, by decide, rfl⟩
theorem witness_TickAdvances : coreRuns base = true ∧ base.power.refFault = false ∧
    (clk (fun c => { c with halt := some (10000, 0, 0) })).clock.halt.isSome = true := by decide +kernel
theorem test_reset_is_off : coreRuns State.reset = false ∧ exec (.tick 1000 33 true) State.reset = .next State.reset :=
  ⟨by decide, rfl⟩
theorem test_tick : (after (.tick 1000 33 true) (atTick 7)).clock.tick = 8 ∧ (after (.tick 1000 33 true) (atTick 7)).clock.ref = 192000 := by decide +kernel
theorem witness_ConditionsClear : clearDue (atTick 10000 (cond 0x0010 0)) 0x0010 = true ∧ 0x0010 / 4096 ≠ 1 ∧
    clearDue (atTick 1000 (cond 0x1043 0)) 0x1043 = true ∧ faultCode 1 3 = 0x1043 ∧
    (∀ c ∈ (atTick 9999 (cond 0x0010 0)).conds, c.code = 0x0010 → c.cause = true ∨ 9999 < c.since + clearMs 0x0010) := by decide +kernel
theorem test_condition_clears : raised (after (.conditionClear 0x0010) (atTick 10000 (cond 0x0010 0))) 0x0010 = false ∧
    raised (after (.conditionClear 0x0010) (atTick 9999 (cond 0x0010 0))) 0x0010 = true := by decide +kernel
theorem witness_WarningStopsWrites : coreRuns base = true ∧ base.power.warning = none ∧ base.clock.ref ≤ 23999 ∧ dueRef base 23999 = true := by decide +kernel
theorem test_warning : (after (.powerFailWarning 23999 false) base).power.warning = some 23999 ∧
    raised (after (.powerFailWarning 23999 false) base) 0xF001 = true := by decide +kernel
/-- In a warning since the start. -/
def warned : State := pow fun p => { p with warning := some 0 }
theorem witness_BrownOutCounts : coreRuns (atTick 100 warned) = true ∧ (atTick 100 warned).power.warning = some 0 ∧
    (atTick 100 warned).clock.ref ≤ 2400000 ∧ dueRef (atTick 100 warned) 2400000 = true ∧ 2400000 ≤ 0 + 2400000 ∧
    mapWf (atTick 100 warned).ents = true ∧ coreRuns (pow (fun p => { p with warning := some 0 }) State.reset) = false := by decide +kernel
theorem test_brown_out : (after (.brownOutEnd 240) warned).power.warning = none ∧
    getN (after (.brownOutEnd 240) warned) 0x3000 0x0C = 1 ∧ getN (after (.brownOutEnd 240) warned) 0x3000 0x0D = 10 := by decide +kernel
theorem witness_PowerDownKeepsStorage : coreRuns warned = true ∧ warned.power.warning.isSome = true ∧
    dueRef (atTick 100 warned) (0 + 2400000) = true ∧ (145000 : Int) ≤ (⟨24000, 24000, 24000, 0, 145000⟩ : SupplyIn).temp := by decide +kernel
theorem test_power_down : (after (.powerDownReset true) warned).power.phase = .backup ∧
    (after (.powerDownReset false) warned).power.phase = .off := by decide +kernel
/-- Each reset has its cause. -/
def resetReady : State := { pow (fun p => { p with watchdog := 2000 }) with update := { base.update with resetAt := some 0 } }
theorem witness_ResetEntries : coreRuns resetReady = true ∧ resetReady.power.entry = none ∧ 2000 ≤ resetReady.power.watchdog ∧
    resetReady.update.resetAt = some 0 ∧ 0 ≤ resetReady.clock.tick ∧
    (pow fun p => { p with entry := some (0, 3) }).power.entry = some (0, 3) ∧ dueRef (pow fun p => { p with entry := some (0, 3) }) (0 + 9600) = true := by decide +kernel
theorem witness_ResetEntries_recovery : coreRuns (pow fun p => { p with phase := .recovery, watchdog := 5000 }) = true ∧
    (if (pow fun p => { p with phase := .recovery, watchdog := 5000 }).power.phase = .recovery then 5000 else 2000) ≤ 5000 ∧
    resetReady.stor.cut = none := by decide +kernel
theorem test_reset_entry : (after (.externalReset false) base).power.entry = some (0, 3) ∧
    (after .resetEntryEnd (pow fun p => { p with entry := some (0, 3) })).power.phase = .held := by decide +kernel
/-- Supply in order, die at 25 degrees. -/
def calm : SupplyIn := ⟨24000, 24000, 24000, 1000, 25000⟩
theorem witness_SupplyMonitor : isUp base = true ∧ mapWf base.ents = true ∧ 60000 < ({ calm with vhold := 60001 } : SupplyIn).vhold ∧
    3000 < ({ calm with pport := 3001 } : SupplyIn).pport ∧ (125000 : Int) < ({ calm with temp := 125001 } : SupplyIn).temp ∧
    (atTick 1000 (pow fun p => { p with supplyLow := some 0 })).power.supplyLow = some 0 ∧
    flt (f32 ({ calm with vhold := 0 } : SupplyIn).vhold 1000) (getF base 0x3000 0x09) = true ∧
    flt (f32 calm.vhold 1000) (getF base 0x3000 0x09) = false ∧
    getN (ents [(0x3001, 1, 1)] (atTick 60000)) 0x3001 0x01 ≠ 0 ∧ (ents [(0x3001, 1, 1)] (atTick 60000)).clock.tick % 60000 = 0 := by decide +kernel
theorem test_over_voltage : raised (after (.overVoltage { calm with vhold := 60001 }) base) 0xF011 = true ∧
    raised (after (.overVoltage { calm with vhold := 60000 }) base) 0xF011 = false := by decide +kernel
theorem test_backup_measurement : raised (after (.backupMeasurement 999) (ents [(0x3001, 1, 1)] (atTick 60000))) 0xF031 = true ∧
    raised (after (.backupMeasurement 1000) (ents [(0x3001, 1, 1)] (atTick 60000))) 0xF031 = false := by decide +kernel
/-- Tamper input 0 is enabled; input 1 is active. -/
def tampered : State := updTamper (updTamper base 0 fun t => { t with enable := true }) 1 fun t => { t with active := true }
theorem witness_ThermosDomain : thermosLives tampered = true ∧ tampered.thermos.onBackup = false ∧ tampered.thermos.firstSwitch = none ∧
    (thm fun t => { t with onBackup := true, firstSwitch := some (0, true) }).thermos.onBackup = true ∧
    (tamperAt tampered 0).enable = true ∧ (tamperAt tampered 0).active = false ∧ (tamperAt tampered 1).active = true ∧
    coreRuns tampered = true ∧ base.power.phase ≠ .backup ∧ (pow fun p => { p with phase := .backup }).power.phase = .backup := by decide +kernel
theorem test_tamper_activation : (tamperAt (after (.tamperActivation 0 0) tampered) 0).count = 1 ∧
    (tamperAt (after (.tamperRearm 1) tampered) 1).active = false := by decide +kernel
theorem witness_StartUpRuns : coreRuns State.reset = false ∧ State.reset.power.thermal = false ∧
    coreRuns (pow (fun p => { p with thermal := true }) State.reset) = false ∧
    (pow (fun p => { p with thermal := true }) State.reset).power.thermal = true ∧ (125000 : Int) ≤ 125000 := by decide +kernel
theorem witness_MetrologyBecomesValid : islandsRun base = true ∧ base.power.step8 = false ∧ referencesSettled base = true ∧
    hamperFree base = true ∧ base.interval.running = false ∧ hamperFree warned = false ∧ islandsRun warned = true ∧
    referencesSettled warned = true ∧ base.power.limitJudged = false ∧ base.power.refFault = false ∧ 2000 ≤ (atTick 1984).clock.tick + 16 ∧
    2000 ≤ (atTick 1997).clock.tick + 3 := by decide +kernel
theorem test_metrology_valid : (after .metrologyValid base).power.metrologyValid = true ∧ (after .metrologyValid base).interval.running = true := by decide +kernel
theorem witness_ReferenceFault : islandsRun base = true ∧ isUp (pow fun p => { p with refFault := true }) = true ∧
    (pow fun p => { p with refFault := true }).power.refFault = true ∧
    (pairAt (updPair (pow fun p => { p with refFault := true }) 0 fun x => { x with enabled := true }) 0).enabled = true := by decide +kernel
theorem test_reference_fault : raised (after .referenceOscillatorFault base) 0x0003 = true ∧
    (after (.referenceRestart 0) (after .referenceOscillatorFault base)).power.refFault = false := by decide +kernel
/-- The mean speed index of 1 000 ticks. -/
def speed (sum n mv : Nat) : State := pow (fun p => { p with coreMv := mv }) (clk (fun c => { c with speedRing := [sum / n] }) (atTick n))
theorem witness_SpeedAndSupply : isUp base = true ∧ speedMean base = ((speedMean base).1, (speedMean base).2) ∧
    base.health.lastSecond < (atTick 1000).clock.tick / 1000 ∧ hamperFree base = true ∧
    base.health.lastFlush + 600 ≤ getN (ents [(0x2F10, 1, 600)]) 0x2F10 0x01 ∧ freshBanks base = [] ∧
    base.health.dieInject + 60000 ≤ (atTick 60000).clock.tick ∧ (convAt base 0).inject.length < 2 := by decide +kernel
theorem witness_HealthCriteria : getBit (ents [(0x2F00, 2, 1)]) 0x2F00 0x02 0 = true ∧ getBit base 0x2F00 0x02 6 = false ∧
    getBit (ents [(0x2F00, 2, 32)]) 0x2F00 0x02 (5 + 0) = true ∧
    base.health.lastHour < getN (ents [(0x2F10, 1, 3600)]) 0x2F10 0x01 / 3600 := by decide +kernel
/-! ## Messages (O21 to O33) -/

/-- A message on the service port. -/
def msg (op i j : Nat) (body : Bytes := []) (tag : Nat := 1) (flags : Nat := 1) (seq : Nat := 0) : KdpReq :=
  ⟨⟨.service, 4, 1, 0, 0, tag, flags, 0, false, false⟩, op, i, j, seq, body.length, body, 0, false, 0⟩
/-- A transfer with tag 1 over the service port. -/
def xfer (i j : Nat) (kind : TransferKind) (s : State := base) : State :=
  { s with kdp := { s.kdp with transfers := [exchange s (msg 1 i j) kind] } }
/-- The data of the last frame that waits at the service port. -/
def reply (c : Instr) (s : State) : Bytes := (((after c s).kdp.serviceQ.getLast?).map (·.data)).getD []
/-- A frame received on a path. -/
def frm (path id : Nat) (data : Bytes) : RxFrame := ⟨path, id, true, true, false, false, data, 0⟩
/-- Pair 0 is enabled with both paths, node 1 of segment 1; path 0 holds the Basket, and the lease has a second. -/
def onBus (s : State := base) : State :=
  updPair s 0 fun x => { x with enabled := true, mask := 3, nodeId := 1, segment := 1, holder := some 0, lease := 1000, expiry := 1000 }

theorem witness_MessagesAreTaken : messageOf (.read (msg 1 0x1000 0)) = some (msg 1 0x1000 0) ∧ fits (.read (msg 1 0x1000 0)) base = true ∧
    takenNow base (msg 1 0x1000 0) = true ∧ fits (.read (msg 2 0x1000 0)) base = false ∧ coreRuns State.reset = false := by decide +kernel
/-- A write of 1 to Run of converter 0. -/
def runWrite : KdpReq := msg 2 0x2100 1 [1]
theorem witness_WriteRequestsTakeEffect : received base runWrite = base ∧ messageOf (.converterRun runWrite) = some runWrite ∧ fits (.converterRun runWrite) base = true ∧
    takenNow base runWrite = true ∧ runWrite.op = 2 ∧
    transferAbort base (requesterOf base runWrite) 1 = none ∧ indexServed base 0x2100 = true ∧
    (judged base runWrite).toOption = rowAt 0x2100 1 ∧ (rowAt 0x2100 1).isSome = true ∧
    ((rowAt 0x2100 1).map fun r => (programWrite (marked (loadTape base (bitList runWrite.badPage)) runWrite) .service r runWrite runWrite.payload).1) = some true ∧
    runWrite.hwFault = false ∧ special runWrite = false := ⟨rfl, by decide +kernel⟩
theorem test_converter_run : getN (after (.converterRun runWrite) base) 0x2100 1 = 1 := by decide +kernel
theorem witness_WriteRequestsAreRefused :
    transferAbort (xfer 0x1000 0 (.reading [] 0 0 8)) .service 1 = some 0x0702 ∧
    takenNow (xfer 0x1000 0 (.reading [] 0 0 8)) (msg 2 0x1000 0 [0]) = true ∧
    transferAbort (pow fun p => { p with phase := .recovery }) .service 1 = none ∧
    indexServed (pow fun p => { p with phase := .recovery }) 0x2100 = false ∧
    (match judged base (msg 2 0x2100 2 [0]) with | .error e => e | .ok _ => 0) = 0x0201 ∧
    ((rowAt 0x2100 1).map fun r => (programWrite (loadTape noSpares (bitList 1)) .service r { runWrite with badPage := 1 } [1]).1) = some false := by
  decide +kernel
theorem witness_ChecksGoInOrder : objAt 0x7000 = none ∧ (objAt 0x2100).isSome = true ∧
    ((objAt 0x2100).map fun o => ((findRow o.1.rows 0xFF).isNone, (findRow o.1.rows 1).isSome)) = some (true, true) ∧
    ((rowAt 0x2100 1).map fun r => (lengthFits r 1, lengthFits r 2, (typeAbort r [2]).isSome, typeAbort r [1], rangeAbort r [1]))
      = some (true, false, true, none, none) ∧ valueAbort base 0x2100 1 [1] = none ∧ stateAbort base .service 0x2100 1 [1] = none := by
  decide +kernel
/-- Two channels wait at the inject entry of converter 0. -/
def injectFull : State := updConv base 0 fun x => { x with inject := [1, 2] }
/-- The transmit queue of pair 0 is full. -/
def queueFull : State := updPath onBus 0 fun x => { x with queue := List.replicate 64 (heartbeat base 0) }
theorem witness_ChecksGoInOrder_state : stateAbort injectFull .service 0x2108 9 [3] = some 0x0501 ∧ injectEntry 0x2108 9 = true ∧
    valueAbort injectFull 0x2108 9 [3] = none ∧ stateAbort queueFull .service 0x1410 4 [1] = some 0x0501 ∧
    stateAbort (ents [(0x1410, 1, 0)]) .service 0x1410 4 [1] = some 0x0401 ∧ injectEntry 0x1410 4 = false ∧ valueAbort base 0x1410 4 [1] = none ∧
    ((rowAt 0x1410 4).map fun r => (r.isM, needsHamper 0x1410 4 r, lengthFits r 1, typeAbort r [1], rangeAbort r [1])) = some (false, false, true, none, none) ∧
    hamperFree warned = false ∧ ((rowAt 0x2100 1).map fun r => needsHamper 0x2100 1 r) = some true := by
  decide +kernel
theorem test_refusal : reply (.write (msg 2 0x7000 0 [0])) base = [0x02, 0x06, 0x00, 0x70, 0x00, 0x00, 0x02, 0x00, 0x01, 0x01] := by decide +kernel
theorem test_page_refused : (reply (.converterRun { runWrite with badPage := 1 }) noSpares).drop 8 = [0x02, 0x08] := by
  decide +kernel
theorem witness_ReadsAnswer : takenNow base (msg 1 0x1000 0) = true ∧ fits (.read (msg 1 0x1000 0)) base = true ∧
    transferAbort base .service 1 = none ∧ indexServed base 0x1000 = true ∧
    (match (kdpRead base .service 0x1000 0 0).1 with | .ok v => decide (v.length ≤ 52) | .error _ => false) = true ∧
    (match (kdpRead base .service 0x7000 0 0).1 with | .ok _ => false | .error e => e == 0x0101) = true ∧
    groupMembersOf 0x1000 0 = [] ∧ pagesBehind (expireSnaps base) 0x2C20 5 ≠ [] ∧ groupMembersOf 0x2C20 5 = [] ∧
    (readRuns (pagesBehind (expireSnaps base) 0x2C20 5) (loadShows base 0)).1 = false ∧
    (readRuns (pagesBehind (expireSnaps base) 0x2C20 5) (loadShows base 2)).1 = true ∧ pagesBehind (expireSnaps base) 0x1000 0 = [] ∧ eccBad 0 = false ∧
    (match (kdpRead base .service 0x2F00 0x0A 0).1 with | .ok v => v.length == 4 | .error _ => false) = true ∧
    (match (kdpRead base .service 0x2901 0x07 0).1 with | .ok v => decide (56 < v.length) | .error _ => false) = true := by decide +kernel
/-- A snapshot of the data register of converter 0, frozen at tick 0. -/
def snapped (who : Requester) : Snap := ⟨who, keyOf 0x2100 3, [[1, 0, 0, 0], [2, 0], [3, 0, 0, 0]], 0, 0⟩
def withSnaps (l : List Snap) (e : List SnapEnd := []) : State := { base with kdp := { base.kdp with snaps := l, ended := e } }
theorem witness_SnapshotGroups : groupMembersOf 0x2100 3 ≠ [] ∧ groupKey (groupMembersOf 0x2100 3) = keyOf 0x2100 3 ∧
    (match readWire (expireSnaps base) .service 0x2100 3 with | .ok _ => true | .error _ => false) = true ∧
    (withSnaps ((List.range 8).map fun i => snapped (.node 1 i))).kdp.snaps.length = 8 ∧
    groupKey (groupMembersOf 0x2100 5) ≠ keyOf 0x2100 5 ∧ (groupMembersOf 0x2100 5).getLast? = some (0x2100, 5) ∧
    snapOf (withSnaps [snapped .service]) .service (keyOf 0x2100 3) = some (snapped .service) ∧
    ((withSnaps [] [⟨.service, keyOf 0x2100 3, true⟩]).kdp.ended.find? (fun e => e.who == .service && e.group == keyOf 0x2100 3)) =
      some ⟨.service, keyOf 0x2100 3, true⟩ ∧
    (snapped .service).tick + 250 ≤ (atTick 250).clock.tick ∧ takenNow base (msg 3 0x2100 3) = true := by decide +kernel
theorem test_frozen : (match (kdpRead (withSnaps [snapped .service]) .service 0x2100 4 0).1 with | .ok v => v | .error _ => []) = [2, 0] := by
  decide +kernel
theorem test_snapshot_expires : (after .snapshotExpiry (atTick 250 (withSnaps [snapped .service]))).kdp.snaps = [] ∧
    (after .snapshotExpiry (atTick 249 (withSnaps [snapped .service]))).kdp.snaps = [snapped .service] := by decide +kernel
theorem witness_DescribeAndUnknown : takenNow base (msg 8 0x2100 3) = true ∧ transferAbort base .service 1 = none ∧ indexServed base 0x2100 = true ∧
    takenNow base (msg 9 0x2100 3) = true ∧ takenNow base (msg 0 0x2100 3) = true := by decide +kernel
theorem test_describe : (reply (.describe (msg 8 0x2100 3)) base).take 16 =
    [0x08, 0x02, 0x00, 0x21, 0x03, 0x00, 0x0A, 0x00, 0x08, 0x00, 0x10, 0x00, 0x04, 0x00, 0x00, 0x00] := by decide +kernel
/-- A segmented write of 5 bytes, of which the first 4 are there. -/
def writing (since last : Nat) (gap : Option (Nat × Nat)) : TransferKind := .writing 5 (crc32c [1, 2, 3, 4, 5]) [1, 2, 3, 4] 2 8 since last gap
theorem witness_SegmentedWrites : takenNow base (msg 4 0x2901 7 (leBytes 4 64 ++ leBytes 4 0)) = true ∧
    fits (.segment (msg 5 0 0 [5] 1 0x10 2)) (xfer 0x2A08 1 (writing 1 0 none)) = true ∧
    takenNow (xfer 0x2A08 1 (writing 1 0 none)) (msg 5 0 0 [5] 1 0x10 2) = true ∧
    (transferOf (xfer 0x2A08 1 (writing 1 0 none)) .service 1).isSome = true ∧ (msg 5 0 0 [5] 1 0x10 2).addr.flags.testBit 4 = true ∧
    crc32c ([1, 2, 3, 4] ++ (msg 5 0 0 [5] 1 0x10 2).payload) = crc32c [1, 2, 3, 4, 5] := by decide +kernel
theorem witness_TransfersEnd : takenNow (xfer 0x2A08 1 (.reading (List.replicate 100 0) 0 2 8)) (msg 6 0 0 [] 1 1 1) = true ∧
    (transferOf (xfer 0x2A08 1 (.reading (List.replicate 100 0) 0 2 8)) .service 1).isSome = true ∧
    1 + 20 ≤ (atTick 21 (xfer 0x2A08 1 (writing 1 1 none))).clock.tick ∧
    (∀ t ∈ (xfer 0x2A08 1 (writing 1 1 none)).kdp.transfers, t.deadline ≤ (atTick 2000 (xfer 0x2A08 1 (writing 1 1 none))).clock.tick) ∧
    takenNow (xfer 0x2A08 1 (writing 1 1 none)) (msg 7 0 0) = true := by decide +kernel
theorem test_transfer_timeout : (after (.transferTimeout .service 1) (atTick 2000 (xfer 0x2A08 1 (writing 1 1 none)))).kdp.transfers = [] := by
  decide +kernel
theorem witness_ServicePort : coreRuns base = true ∧ fromStart [0, 0] = [] ∧ fromStart [0, 0x5A, 1] ≠ [] ∧
    serviceFrameGood (fromStart [0, 0x5A, 1]) = false ∧ (pushService base ⟨.heartbeat, 0, true, true, true, [0], 0⟩).kdp.serviceQ ≠ [] ∧
    9 ≤ ((List.replicate 9 0).filter fun t => decide (base.clock.tick < t + 1000)).length := by decide +kernel
theorem witness_PublicationsFire : mapWf (ents [(0x1200, 1, 1), (0x1200, 2, 1), (0x1200, 3, 10)]).ents = true ∧
    pubLive base 0 = false ∧ pubLive (ents [(0x1200, 1, 1)]) 0 = true ∧ inhibited (ents [(0x1200, 1, 1)]) 0 = false ∧
    inhibited { ents [(0x1200, 1, 1), (0x1200, 4, 10)] with kdp := { base.kdp with pubs := vUpd base.kdp.pubs 0 fun x => { x with lastTx := some 0 } } } 0 = true ∧
    triggers (atTick 10 (ents [(0x1200, 1, 1), (0x1200, 2, 1), (0x1200, 3, 10)])) 0 0 = true ∧
    (pubAt base 0).fired < periodsPassed (atTick 10 (ents [(0x1200, 1, 1), (0x1200, 2, 1), (0x1200, 3, 10)])) 0 ∧
    (∀ n, n < 64 → eventHits base n = false) ∧ pubPlace onBus 0 0 = true ∧ pubPlace queueFull 0 0 = false ∧ sendPath queueFull 0 = 0 ∧
    mapWf queueFull.ents = true := by decide +kernel
theorem test_period_trigger :
    (pubAt (after (.publicationPeriodTrigger 0) (atTick 10 (ents [(0x1200, 1, 1), (0x1200, 2, 1), (0x1200, 3, 10)]))) 0).lastTx = some 10 := by
  decide +kernel
/-- An enabled subscription map with a timeout of 10 ms. -/
def subscribed : State := atTick 10 (ents [(0x1240, 1, 1), (0x1240, 2, 1), (0x1240, 3, 2), (0x1240, 4, 3), (0x1240, 6, 10)])
theorem witness_SubscriptionsWrite : isService (frm 0 (frameId 2 2 0 2 0) (List.replicate 8 0)) 2 = true ∧
    (receiveFrame (onBus) (frm 0 (frameId 2 2 0 2 0) (List.replicate 8 0)) 2).1 = true ∧
    (receiveFrame base (frm 0 (frameId 2 2 0 2 0) (List.replicate 8 0)) 2).1 = false ∧
    mapWf subscribed.ents = true ∧ 1 ≠ getN subscribed 0x1240 5 ∧ getB subscribed 0x1240 1 = true ∧ 0 < getN subscribed 0x1240 6 ∧
    0 = getN subscribed 0x1240 5 ∧ ([] : Bytes).length = (mapItems subscribed 0x1240 0x07).foldl (fun a it => a + it.2.2) 0 ∧
    ([1] : Bytes).length ≠ (mapItems subscribed 0x1240 0x07).foldl (fun a it => a + it.2.2) 0 ∧
    getN subscribed 0x1240 8 ≠ 3 ∧ (subAt subscribed 0).last + getN subscribed 0x1240 6 ≤ subscribed.clock.tick := by decide +kernel
theorem test_subscription_timeout : getN (after (.subscriptionTimeout 0) subscribed) 0x1240 8 = 3 ∧
    raised (after (.subscriptionTimeout 0) subscribed) 0x0010 = true := by decide +kernel
/-- An update of an image of 4 bytes is in progress. -/
def receiving : State :=
  sto fun t => { t with recs := [⟨recSlot 1, none, some ⟨1, slotBytes ⟨1, 4, List.replicate 32 0, 0, 1, 7, 4, 0, false⟩, true⟩, 2⟩] }
theorem witness_SpecialWrites_update : targetSlot receiving = 1 ∧ (slotInfo receiving 1).state = 1 ∧
    (judged receiving (msg 2 0x2D10 2 [0, 0, 0, 0, 1, 2, 3, 4])).toOption = rowAt 0x2D10 2 ∧
    takenNow receiving (msg 2 0x2D10 2 [0, 0, 0, 0, 1, 2, 3, 4]) = true ∧
    (judged base (msg 2 0x2E10 1 (leBytes 4 0x09FFC00 ++ [1]) 1 1)).toOption = rowAt 0x2E10 1 ∧
    takenNow base (msg 2 0x2E10 1 (leBytes 4 0x09FFC00 ++ [1]) 1 1) = true := by decide +kernel
/-- Port 0 waits for its new mode. -/
def changing : State := updPort (atTick 2) 0 fun p => { p with modeAt := some 2, modeReq := some (msg 2 0x2000 1 [5]) }
theorem witness_SpecialWrites : takenNow base (msg 2 0x2000 1 [5]) = true ∧ (judged base (msg 2 0x2000 1 [5])).toOption = rowAt 0x2000 1 ∧
    isPortMode 0x2000 1 = true ∧ isUp changing = true ∧ changing.power.refFault = false ∧ (portAt changing 0).modeAt = some 2 ∧
    2 ≤ changing.clock.tick ∧ (portAt changing 0).modeReq = some (msg 2 0x2000 1 [5]) := by decide +kernel

/-! ## Storage and ports (O34 to O38) -/

/-- A page write waits: 2 bytes at 0x100, issued by an engine. -/
def pendBytes (w : Writer) (cls : Nat) (s : State := base) : State :=
  { s with stor := { s.stor with pend := [⟨w, cls, .bytes 0x100 [1, 2]⟩] } }
theorem witness_PageWritesLand : isUp (pendBytes .core 4) = true ∧ nextPend (pendBytes .core 4) = some ⟨.core, 4, .bytes 0x100 [1, 2]⟩ ∧
    hamperFree (pendBytes .core 4) = true ∧ hamperFree (pendBytes .core 0 warned) = false ∧
    nextPend (pendBytes .core 0 warned) = some ⟨.core, 0, .bytes 0x100 [1, 2]⟩ ∧ targetWriter (.bytes 0x100 [1, 2]) = .core ∧
    Memory.wf (pendBytes .core 4).stor.mem = true ∧ sparesFree base = 8192 ∧ sparesFree noSpares = 0 ∧
    (pendBytes .core 4).stor.tape = [] ∧ targetWriter (.cell 95 3 (f32 1) (f32 0)) = .loop ∧ 0 < placedPages (resolve base (.bytes 0x100 [1, 2])) ∧
    (∀ r, r < 10 → (0 : Nat) ≠ keyOf (0x2F18 + r) 1) ∧
    targetWriter (.record 0 [1]) = .core ∧ targetWriter (.bytes 0x100 [1, 2]) ≠ .kiln ∧ mapWf (pendBytes .kiln 4).ents = true := by
  decide +kernel
theorem test_page_write : (after (.hamperPageWrite false) (pendBytes .core 4)).stor.mem = [(0x100, 1), (0x101, 2)] ∧
    (after (.hamperPageWrite false) (pendBytes .kiln 2)).stor.mem = [] ∧ raised (after (.hamperPageWrite false) (pendBytes .kiln 2)) 0x0004 = true ∧
    getN (after (.hamperPageWrite false) (pendBytes .kiln 2)) 0x2F00 0x0A = 0x30000100 := by decide +kernel
theorem test_page_remapped : (after (.hamperPageWrite true) (pendBytes .core 4)).stor.remap.table = [some 2] ∧
    raised (after (.hamperPageWrite true) (pendBytes .core 4)) 0xC021 = true := by decide +kernel
/-- A record whose copy of sequence 2 in slot 0 is in use, with an older one in slot 1. -/
def twoCopies : Rec := ⟨0, some ⟨2, [1], true⟩, some ⟨1, [2], true⟩, 1⟩
theorem witness_RecordsAlternate : (twoCopies.seqInUse + 1).toNat % 2 = 1 ∧ ((⟨0, none, none, 0⟩ : Rec).seqInUse + 1).toNat % 2 = 1 ∧
    ((⟨0, twoCopies.slot0, some ⟨0xFFFFFFFF, [], true⟩, 2⟩ : Rec).seqInUse + 1).toNat % 2 = 0 ∧
    (twoCopies.use = 1 → twoCopies.seqInUse.toNat % 2 = 0) ∧ (twoCopies.use = 2 → twoCopies.seqInUse.toNat % 2 = 1) ∧
    copyValid twoCopies.slot0 = some ⟨2, [1], true⟩ ∧ copyValid twoCopies.slot1 = some ⟨1, [2], true⟩ ∧ (2 : BitVec 32) ≠ 1 ∧
    copyValid (some ⟨2, [1], false⟩) = none ∧ copyValid none = none := by decide +kernel
theorem test_record_wraps : ((⟨0, twoCopies.slot0, some ⟨0xFFFFFFFF, [], true⟩, 2⟩ : Rec).write [7] true).slot0 = some ⟨0, [7], true⟩ ∧
    newer 0 0xFFFFFFFF = true := by decide +kernel
theorem witness_ScrubAndInspection : isUp base = true ∧ hamperFree base = true ∧ scrubOpen base = true ∧ mapWf base.ents = true ∧
    getN (ents [(0x2E00, 4, 524287)]) 0x2E00 4 = 524287 ∧ scrubOpen (ents [(0x2E00, 4, 524287)]) = true ∧ getN base 0x2E00 4 ≠ 524287 ∧
    eccBad 2 = true ∧ eccBad 8 = true ∧ base.stor.pend = [] ∧ base.stor.tape = [] ∧ base.stor.scrubDue = none ∧
    (sto fun t => { t with scrubDue := some 41 }).stor.scrubDue = some 41 ∧
    2 ≤ ((([(7, 0), (7, 5)] : List (Nat × Nat)).filter fun h => decide (devTime base < h.2 + 2592000000)).filter fun h => h.1 == 7).length ∧
    sparesFree base ≠ 0 ∧ getN (ents [(0x2E20, 1, 524287)]) 0x2E20 1 < 524288 := by decide +kernel
theorem test_scrub_rewrite : (after (.scrubPage 1 false) (ents [(0x2E00, 4, 41)])).stor.scrubDue = some 41 ∧
    (after (.scrubPage 0 false) (sto (fun t => { t with scrubDue := some 41 }) (ents [(0x2E00, 4, 42)]))).stor.scrubDue = none ∧
    getN (after (.scrubPage 0 false) (sto (fun t => { t with scrubDue := some 41 }) (ents [(0x2E00, 4, 42)]))) 0x2E00 4 = 42 := by decide +kernel
theorem test_scrub : getN (after (.scrubPage 0 false) (ents [(0x2E00, 4, 41)])) 0x2E00 4 = 42 ∧
    raised (after (.scrubPage 2 false) (ents [(0x2E00, 4, 41)])) 0xC020 = true ∧ (after (.scrubPage 2 false) (ents [(0x2E00, 4, 41)])).stor.bad = [41] ∧
    getN (inspectPage (ents [(0x2E20, 1, 9)]) 9 1) 0x2E20 3 = 1 := by decide +kernel

/-- Port n has a mode. -/
def moded (n m : Nat) (s : State := base) : State := setN s (0x2000 + n) 1 m
/-- Port 0 has a mode and a run-time part. -/
def port0 (m : Nat) (f : PortSt → PortSt) (s : State := base) : State := updPort (moded 0 m s) 0 f
/-- A filter time of 500 microseconds on port 0. -/
def filtered : State := ents [(0x2000, 9, 500)]
theorem witness_PortInputs : (portAt filtered 0).changed + filterPeriods filtered 0 = 12000 ∧ 12000 ≤ 23999 ∧ 11999 < 12000 ∧ islandsRun (moded 0 5) = true ∧ isDigital (portMode (moded 0 5) 0) = true ∧ (portAt (moded 0 5) 0).modeAt = none ∧
    dueRef (moded 0 5) 23999 = true ∧ (portAt (moded 0 5) 0).known = false ∧
    getN (port0 5 fun p => { p with known := true }) 0x2000 0x0A ≠ true.toNat ∧ mapWf (moded 63 15).ents = true ∧ edgeCounts 0 true = true ∧ edgeCounts 1 true = false ∧
    isDigital (portMode (moded 63 15) 63) = true ∧ portMode (moded 63 6) 63 = 6 ∧ (atTick 10000).clock.tick % getN (moded 63 6) (0x2040 + 63) 0x0B = 0 ∧
    (portAt (moded 63 6) 63).window ≠ some 10000 ∧ (portAt (port0 7 fun p => { p with window := some 0 }) 0).window.isSome = true ∧
    (portAt (moded 63 15) 63).lastEdgeTick + getN (moded 63 15) (0x2040 + 63) 0x0D ≤ 600000 ∧
    getB (ents [(0x203F, 1, 8), (0x203F, 0x0A, 1)]) 0x203F 0x0A = true ∧ portMode (ents [(0x203F, 1, 8), (0x203F, 0x0A, 1)]) 63 = 8 ∧
    (portAt base 63).pulses.foldl max 0 + getN base 0x207F 0x12 ≤ 7200000 ∧ portMode (moded 63 2) 63 = 2 ∧
    (portAt (moded 63 2) 63).shuntTill = none ∧ (portAt (port0 2 fun p => { p with shuntTill := some 1000 }) 0).shuntTill = some 1000 := by
  decide +kernel
theorem test_edge : getN (after (.digitalFilterChange 0 true 12000) (port0 6 (fun p => { p with known := true }) filtered)) 0x2000 0x0B = 1 ∧
    getN (after (.digitalFilterChange 0 true 12000) (moded 0 6 filtered)) 0x2000 0x0B = 0 ∧
    getN (after (.digitalFilterChange 0 true 11999) (port0 6 (fun p => { p with known := true }) filtered)) 0x2000 0x0A = 0 := by decide +kernel
theorem test_gate_window : getF (after (.gateWindowEnd 0) (atTick 1000 (port0 6 fun p => { p with window := some 0, accepted := 7 }))) 0x2000 2 = f32 7 ∧
    (portAt (after (.gateWindowEnd 0) (atTick 1000 (port0 6 fun p => { p with window := some 0, accepted := 7 }))) 0).accepted = 0 := by decide +kernel
theorem test_stall : raised (after (.stallTimeout 3) (atTick 600000 (moded 3 15))) 0x11C3 = true := by decide +kernel
theorem test_presence_ends : getN (after (.presenceWindowEnd 0) (atTick 7200000 (ents [(0x2000, 1, 8), (0x2000, 0x0A, 1)]))) 0x2000 0x0A = 0 := by decide +kernel
theorem test_shunt : raised (after (.shuntOverload 0) (moded 0 2)) 0x10C0 = true ∧ (portAt (after (.shuntOverload 0) (moded 0 2)) 0).shuntTill = some 1000 ∧
    (portAt (after (.shuntReclose 0) (atTick 1000 (port0 2 fun p => { p with shuntTill := some 1000 }))) 0).shuntTill = none := by decide +kernel
theorem witness_PortOutputs : islandsRun (moded 63 12) = true ∧ portMode (moded 63 12) 63 = 12 ∧ portMode (moded 63 13) 63 = 13 ∧
    (portAt (moded 63 12) 63).modeAt = none ∧ dueRef (moded 63 12) (portAt (moded 63 12) 63).pwmAt = true ∧
    (portAt (port0 12 fun p => { p with dutyStaged := some (f32 50) }) 0).dutyStaged = some (f32 50) ∧
    (portAt (port0 12 fun p => { p with tripped := true }) 0).tripped = true ∧ portMode (moded 63 11) 63 = 11 ∧
    (portAt (moded 63 11) 63).limitSince.isSome ≠ true ∧ (portAt (port0 11 fun p => { p with limitSince := some 0 }) 0).limitSince.isSome ≠ false ∧
    (0 + 10 ≤ (atTick 10).clock.tick) ∧ (portAt (moded 63 13) 63).retryAt = none ∧ hasFault (moded 63 13) 63 8 = false ∧
    isOutput 14 = true ∧ (portAt (moded 63 14) 63).hot = false ∧ (portAt (port0 13 fun p => { p with retryRun := some 0 }) 0).retryRun.isSome = true ∧
    getN (ents [(0x2040, 0x20, 8)]) 0x2040 0x20 < 9 ∧ 9 ≤ getN (ents [(0x2040, 0x20, 9)]) 0x2040 0x20 ∧
    (portAt (port0 13 fun p => { p with retryAt := some 1000 }) 0).retryAt = some 1000 ∧
    (portAt (port0 13 fun p => { p with hot := true }) 0).hot = true ∧ faultCode 8 63 = 0x123F ∧
    (∃ x ∈ (cond 0x123F 0).conds, x.code = faultCode 8 63 ∧ x.cause = false ∧ x.since + 1000 ≤ 1000) ∧ portMode (moded 63 14) 63 = 14 ∧
    (portAt (port0 14 fun p => { p with line := .homing 0 }) 0).line = .homing 0 ∧
    (portAt (port0 14 fun p => { p with line := .opening 0, target := 100000 }) 0).target = 100000 ∧
    (portAt (port0 14 fun p => { p with line := .closing 0 }) 0).target = 0 ∧
    (portAt (port0 14 fun p => { p with line := .dead 0 }) 0).line = .dead 0 := by decide +kernel
theorem test_pwm_boundary : (portAt (after (.pwmPeriodBoundary 0) (port0 12 fun p => { p with dutyStaged := some (f32 50) })) 0).out = f32 50 ∧
    0 < (portAt (after (.pwmPeriodBoundary 0) (moded 0 12)) 0).pwmAt := by decide +kernel
theorem test_limit : getBit (after (.currentLimitActs 0 true) (moded 0 11)) 0x2000 3 9 = true ∧
    raised (after (.outputOverloadTimeout 0) (atTick 10 (port0 11 fun p => { p with limitSince := some 0 }))) 0x10C0 = true := by decide +kernel
theorem test_switch : (portAt (after (.switchOvercurrent 0) (moded 0 13)) 0).retryAt = some 1000 ∧
    raised (after (.switchOvercurrent 0) (ents [(0x2040, 0x20, 9)] (port0 13 fun p => { p with retryRun := some 0 }))) 0x1200 = true ∧
    getN (after (.switchOvercurrent 0) (ents [(0x2040, 0x20, 9)] (port0 13 fun p => { p with retryRun := some 0 }))) 0x2040 0x20 = 10 := by decide +kernel
theorem test_switch_retry : (portAt (after (.switchRetry 0) (atTick 1000 (port0 13 fun p => { p with retryAt := some 1000 }))) 0).retryRun = some 1000 ∧
    getN (after (.switchRetrySuccess 0) (atTick 1000 (ents [(0x2040, 0x20, 3)] (port0 13 fun p => { p with retryRun := some 0 })))) 0x2040 0x20 = 0 := by
  decide +kernel
theorem test_driver : raised (after (.driverOverTemperature 0) (moded 0 11)) 0x1140 = true ∧
    raised (after (.driverRestart 0 0) (atTick 1000 (cond 0x1140 0 (port0 11 fun p => { p with hot := true })))) 0x1140 = false := by decide +kernel
theorem test_port_fault_clear : raised (after (.portFaultClear 63 8) (atTick 1000 (cond 0x123F 0))) 0x123F = false ∧
    raised (after (.portFaultClear 63 8) (atTick 999 (cond 0x123F 0))) 0x123F = true := by decide +kernel
theorem test_actuator : (portAt (after (.actuatorRunEnd 0) (port0 14 fun p => { p with line := .homing 0 })) 0).estimate = some 0 := by decide +kernel

/-! ## Converters and lanes (O39 to O43) -/

/-- Converter 7 runs alone with channel 0, and its timer of 10 ms is its trigger. -/
def timed (s : State := base) : State := ents [(0x2107, 1, 1), (0x2107, 7, 1), (0x210F, 2, 1), (0x210F, 3, 10)] s
/-- Converter 0 runs alone with channel 0; the third period start of PWM port 63 is its trigger. -/
def pwmTimed (c : Nat) : State :=
  updPort (updConv (moded 63 12 (ents [(0x2100, 1, 1), (0x2100, 7, 1), (0x2108, 2, 2), (0x2108, 5, 63), (0x2108, 6, 0), (0x2108, 7, 3)])) 0
    fun x => { x with pwmCount := c }) 63 fun p => { p with pwmStart := 8, toldStart := false }
/-- Sync set 3 has a timer of 10 ms and the running converter 0. -/
def setTimed : State := ents [(0x2100, 1, 1), (0x2100, 7, 1), (0x2100, 0x0A, 3), (0x2113, 1, 1), (0x2113, 2, 10)]
/-- Converter 0 converts channel 0 as the first of two. -/
def slot0 (k : SlotKind) (s : State := base) : State :=
  updConv (ents [(0x2100, 1, 1), (0x2100, 7, 3), (0x2000, 1, 1), (0x2001, 1, 1)] s) 0 fun x =>
    { x with slot := some ⟨k, 0, 0, 23999⟩, frame := some ⟨0, 0, false, true⟩ }
/-- Converter 0 converts the last channel of its frame. -/
def lastSlot : State := setN (slot0 .scan) 0x2100 7 1
theorem witness_TriggersStartDelays : islandsRun timed = true ∧ mapWf timed.ents = true ∧ 4 ≤ convSet timed 7 ∧
    getN timed 0x210F 2 = 1 ∧ timerFires (timed (atTick 10)) (getN timed 0x210F 3) (getN timed 0x210F 4) = true ∧
    (convAt timed 7).lastTimer ≠ some 10 ∧ convRun timed 7 = true ∧ frameChannels timed 7 = [0] ∧ (convAt timed 7).delay = none ∧
    (convAt timed 7).frame = none ∧ (convAt (updConv timed 7 fun x => { x with delay := some 5 }) 7).delay.isSome = true ∧
    (convAt lastSlot 0).frame.isSome = true ∧ convRun base 0 = false ∧ frameChannels (ents [(0x2100, 1, 1), (0x2100, 7, 0)]) 0 = [] ∧
    portMode (pwmTimed 0) 63 = 12 ∧ pwmEvent (pwmTimed 0) 63 0 = some 8 ∧ dueRef (pwmTimed 0) (8 + 1) = true ∧ 4 ≤ convSet (pwmTimed 0) 0 ∧ convRun (pwmTimed 0) 0 = true ∧
    (convAt (pwmTimed 0) 0).pwmFrom < 8 ∧ 8 ≤ (convAt (updConv (pwmTimed 0) 0 fun x => { x with pwmFrom := 8 }) 0).pwmFrom ∧
    getN (pwmTimed 0) 0x2108 5 = 63 ∧ getN (pwmTimed 0) 0x2108 6 = 0 ∧ (convAt (pwmTimed 0) 0).pwmCount + 1 < getN (pwmTimed 0) 0x2108 7 ∧
    getN (pwmTimed 2) 0x2108 7 ≤ (convAt (pwmTimed 2) 0).pwmCount + 1 ∧ getN setTimed 0x2113 1 = 1 ∧
    timerFires setTimed (getN setTimed 0x2113 2) (getN setTimed 0x2113 3) = true ∧ (vAt setTimed.syncs 3 syncRest).lastTimer ≠ some 0 ∧
    convSet setTimed 0 = 3 ∧ convSet setTimed 1 ≠ 3 ∧
    (convAt (updConv timed 7 fun x => { x with delay := some 5 }) 7).delay = some 5 ∧ dueRef timed 5 = true ∧
    (convAt (slot0 .injected) 0).slot.isSome = true := by decide +kernel
theorem test_timer_trigger : (convAt (after (.converterTimerTrigger false 7) (timed (atTick 10))) 7).delay = some 240000 ∧
    getN (after (.converterTimerTrigger false 7) (updConv (timed (atTick 10)) 7 fun x => { x with delay := some 5 })) 0x2107 0x0C = 1 := by
  decide +kernel
theorem test_pwm_trigger : (convAt (after (.pwmEventTrigger 63 0 9) (pwmTimed 2)) 0).delay = some 9 ∧
    (convAt (after (.pwmEventTrigger 63 0 9) (pwmTimed 1)) 0).delay = none := by decide +kernel
theorem test_set_trigger : (convAt (after (.converterTimerTrigger true 3) setTimed) 0).delay = some 0 ∧
    getN (after (.converterTimerTrigger true 3) setTimed) 0x2113 9 = 1 := by decide +kernel
theorem test_delay_end : (convAt (after (.triggerDelayEnd 7) (updConv timed 7 fun x => { x with delay := some 5 })) 7).slot =
    some ⟨.scan, 0, 5, 5 + slotPeriods 4⟩ := by decide +kernel
theorem witness_ResultCodes : islandsRun (slot0 .scan) = true ∧ mapWf (slot0 .scan).ents = true ∧
    (convAt (slot0 .scan) 0).slot = some ⟨.scan, 0, 0, 23999⟩ ∧ dueRef (slot0 .scan) 23999 = true ∧
    0 < referenceUsed (slot0 .scan) 0 0 2500000000 ∧ referenceUsed (ents [(0x2100, 8, 1)] (slot0 .scan)) 0 0 2500000000 = 2500000000 ∧
    referenceUsed (ents [(0x2100, 8, 2), (0x2000, 1, 3)] (slot0 .scan)) 0 0 5 = 5 ∧ referenceUsed (ents [(0x2100, 8, 1)]) 0 8 5 = 1250000000 ∧
    referenceUsed (ents [(0x2100, 8, 2), (0x2000, 1, 1)]) 0 0 5 = 1250000000 := by decide +kernel
theorem test_codes : resultCode 1250000000 2500000000 = (4194304, false) ∧ resultCode (-1) 16777216 = (0, false) ∧
    resultCode (-3) 33554432 = (-1, false) ∧ resultCode 2500000000 2500000000 = (8388607, true) ∧
    resultCode (-2500000000) 2500000000 = (-8388608, false) := by decide +kernel
theorem witness_SlotEndWrites : (⟨.scan, 0, 0, 23999⟩ : Slot).channel < 12 ∧
    (getN (ents [(0x2100, 4, 1)] (slot0 .scan)) 0x2100 4).testBit 0 = true ∧ getB (slot0 .scan) 0x2108 0x0C = false ∧
    (convAt (slot0 .scan) 0).frame = some ⟨0, 0, false, true⟩ ∧ (convAt (slot0 .scan) 0).inject = [] ∧ (convAt (slot0 .scan) 0).calib = [] ∧
    (frameChannels (slot0 .scan) 0).find? (fun c => decide (0 + 1 ≤ c)) = some 1 ∧
    (frameChannels lastSlot 0).find? (fun c => decide (0 + 1 ≤ c)) = none ∧ (convAt lastSlot 0).frame = some ⟨0, 0, false, true⟩ ∧
    (getN (ents [(0x2100, 4, 1)]) 0x2100 4).testBit 7 = false ∧ getN (ents [(0x2100, 4, 0x0A01)]) 0x2100 4 / 256 % 16 = 10 ∧
    (getN (ents [(0x2100, 4, 0x0709)]) 0x2100 4).testBit 3 = true ∧ getN (ents [(0x2100, 4, 0x0709)]) 0x2100 4 / 256 % 16 = 7 ∧
    getB (ents [(0x2108, 0x0C, 1)]) 0x2108 0x0C = true := by decide +kernel
theorem test_slot_end : getI (after (.slotEnd 0 625000000 2500000000) lastSlot) 0x2100 3 = 4194304 ∧
    getN (after (.slotEnd 0 625000000 2500000000) lastSlot) 0x2100 0x0B = 1 ∧
    getN (after (.slotEnd 0 625000000 2500000000) lastSlot) 0x2100 0x0E = 23999 ∧
    (convAt (after (.slotEnd 0 0 2500000000) (slot0 .scan)) 0).slot = some ⟨.scan, 1, 23999, 23999 + slotPeriods 4⟩ := by decide +kernel
theorem test_result_taken : getN (after (.metrologyTakesResult 0 false) (ents [(0x2100, 4, 0x0A03), (0x2100, 3, 77)])) 0x2100 4 = 0x0A00 ∧
    (convAt (after (.metrologyTakesResult 0 false) (ents [(0x2100, 4, 0x0A03), (0x2100, 3, 77)])) 0).dieCode = some 77 := by decide +kernel
theorem witness_ReferenceSettling : islandsRun base = true ∧ (convAt (updConv base 7 fun x => { x with outOfTol := true }) 7).outOfTol = true ∧
    (convAt base 7).outOfTol = false ∧ settled base 7 = false ∧ dueRef (atTick 2) ((convAt base 7).settleFrom + 48000) = true ∧
    settled (ents [(0x2107, 9, 1)]) 7 = true ∧ mapWf base.ents = true ∧ monitorJudges base 7 = true ∧
    inTolerance (getN base 0x2107 8) 1243749 0 = false ∧ inTolerance (getN base 0x2107 8) 1250000 0 = true := by decide +kernel
theorem test_settling : settled (after (.settlingComplete 7) (atTick 2)) 7 = true ∧ settled (after (.settlingComplete 7) (atTick 1)) 7 = false ∧
    raised (after (.referenceOutOfTolerance 7 ⟨1243749, 0⟩) (ents [(0x2107, 9, 1)])) 0x2037 = true ∧
    raised (after (.referenceOutOfTolerance 7 ⟨1243750, 0⟩) (ents [(0x2107, 9, 1)])) 0x2037 = false := by decide +kernel

/-- Lane 7 measures flow once a second with one shot in each direction. -/
def laned (s : State := base) : State := ents [(0x2127, 1, 1), (0x2127, 2, 1), (0x2127, 3, 1000), (0x212F, 4, 1), (0x212F, 0x0C, 1)] s
/-- Its measurement in progress, or handed over. -/
def measuring (m : Meas) : State := updLane laned 7 fun l => { l with meas := some m }
def handed (m : Meas) : State := updLane laned 7 fun l => { l with handed := some m }
/-- A good shot: a calibration pair of 4 000 taps, an echo of 30 mV after 21 microseconds, one hit after 1 000 edges. -/
def shot : ShotIn := ⟨1000, 5000, [(21000000, 30000)], true, [(1000, 0)], (0, 0), 1000⟩
theorem witness_LaneMeasurements : islandsRun laned = true ∧ mapWf laned.ents = true ∧ laneRun laned 7 = true ∧ (laneAt laned 7).meas = none ∧
    (laneAt laned 7).lastStart ≠ some 0 ∧ (laneAt laned 7).runTick ≤ 0 ∧ (0 - (laneAt laned 7).runTick) % max 1 (getN laned 0x2127 3) = 0 ∧
    (laneAt laned 7).handed = none ∧ (laneAt (handed (measRest 0)) 7).handed.isSome = true ∧
    (laneAt (measuring (measRest 0)) 7).meas = some (measRest 0) ∧ (measRest 0).shots < shotTotal laned 7 ∧
    dueRef laned ((measRest 0).start + (measRest 0).shots * shotInterval laned 7) = true ∧ laneMode laned 7 = 1 ∧
    pairGood { shot with n2 := 1000 } = false ∧ firstEcho laned 7 { shot with halves := [(21000000, 20000)] } = none ∧
    firstEcho laned 7 { shot with halves := [(19999999, 30000)] } = none ∧ firstEcho laned 7 shot = some 21000000 ∧
    (stopHits laned 7 { shot with hits := [(6000, 0)] }).length < max 1 (getN laned 0x212F 0x0C) ∧ pairGood shot = true ∧
    max 1 (getN laned 0x212F 0x0C) ≤ (stopHits laned 7 shot).length ∧ ({ measRest 0 with shots := 1 } : Meas).shots % 2 = 1 ∧
    shotTotal laned 7 ≤ ({ measRest 0 with shots := 2 } : Meas).shots ∧ ({ measRest 0 with calFault := true } : Meas).calFault = true ∧
    laneMode laned 7 ≠ 2 := by decide +kernel
theorem witness_LaneWithoutEchoes : ((flowCalc laned 7 (measRest 0)).echo && (flowCalc laned 7 (measRest 0)).spread
    && (flowCalc laned 7 (measRest 0)).sound) = false := by decide +kernel
theorem test_lane_start : (laneAt (after (.laneMeasurementStart 7) laned) 7).meas = some (measRest 0) ∧
    getN (after (.laneMeasurementStart 7) (handed (measRest 0))) 0x2127 0x0C = 1 := by decide +kernel
theorem test_lane_shot : ((laneAt (after (.laneShot 7 shot) (measuring (measRest 0))) 7).meas.map fun m => (m.shots, m.up, m.down)) =
    some (1, [shotTime shot 1 (getN laned 0x212F 6)], []) := by decide +kernel
theorem test_lane_end : getN (after (.laneMeasurementEnd 7) (measuring { measRest 0 with shots := 2 })) 0x2127 0x0D = 1 ∧
    (laneAt (after (.laneMeasurementEnd 7) (measuring { measRest 0 with shots := 2 })) 7).meas = none := by decide +kernel
theorem test_lane_result : getF (after (.laneResultTaken 7) (handed { measRest 0 with calFault := true, stop := some 5 })) 0x2127 4 = nan32 ∧
    raised (after (.laneResultTaken 7) (handed { measRest 0 with calFault := true, stop := some 5 })) 0x3047 = true := by decide +kernel

/-! ## Calibration and metering (O44 to O46) -/

/-- A session opened at tick 0, with coefficients that have been written. -/
def session (opening : List (Nat × Bytes)) (n : Nat) : State :=
  atTick n { cond 0x4001 0 with cal := { base.cal with owner := some .service, opening := opening } }
theorem witness_CalibrationSession : isUp (session [] 1800000) = true ∧ hamperFree (session [] 1800000) = true ∧
    (session [] 1800000).cal.owner.isSome = true ∧ (session [] 1800000).cal.openedTick + 1800000 ≤ (session [] 1800000).clock.tick ∧
    mapWf (session [] 1800000).ents = true ∧ changedKeys (session [] 1800000) = [] ∧
    modePending (session [] 1800000) = false ∧ changedKeys (session [(0x219001, [9, 9, 9, 9])] 1800000) ≠ [] ∧ 0x219001 / 256 ≠ 0x2181 ∧
    (session [] 1799999).clock.tick < (session [] 1799999).cal.openedTick + 1800000 := by decide +kernel
theorem test_session_timeout : raised (after .sessionTimeout (session [] 1800000)) 0x4002 = true ∧
    getN (after .sessionTimeout (session [] 1800000)) 0x2180 0x0A = 2 ∧ getN (after .sessionTimeout (session [] 1800000)) 0x2180 8 = getN base 0x2180 8 ∧
    (after .sessionTimeout (session [] 1799999)).cal.owner = some .service := by decide +kernel
theorem test_cal_n : (after (.calNChange true) base).cal.calN = true := by decide +kernel
/-- Metering runs at second 1; meter 15 has the period from 0, with a fluid of its own from 0 to 100 degrees. -/
def metering (f : MeterSt → MeterSt := fun x => x) : State :=
  let s := ents [(0x220F, 1, 1), (0x220F, 2, 2), (0x221F, 8, 1), (0x221F, 6, 1), (0x224C, 1, 2), (0x224C, 0x10, 0), (0x224C, 0x11, 0x42C80000),
    (0x224C, 0x30, 0x447A0000), (0x224C, 0x31, 0x447A0000), (0x224C, 0x50, 0), (0x224C, 0x51, 0x43D20000)] (atTick 1000)
  updMeter { s with interval := { s.interval with running := true }, thermos := { s.thermos with secs := 1 },
                    clock := { s.clock with edge := 24000000 }, power := { s.power with metrologyValid := true } } 15
    fun x => f { x with start := some 0 }
/-- A litre flowed, from a to b degrees. -/
def flowed (a b : Nat) : State :=
  metering fun x => { x with pairs := [(24000000, f64 a, f64 b)], lane := [(24000000, f64 1 1000, false, false)] }
theorem witness_MeteringPeriods : meterRuns (metering) = true ∧ mapWf (metering).ents = true ∧ getB (metering) 0x220F 1 = true ∧
    (meterAt (metering) 15).start = some 0 ∧ boundary (metering) 0 (periodMs (metering) 15) = some 1000 ∧
    resultsTaken (metering) 15 1000 = true ∧
    (periodCalc (metering) 15 1000).faulted = true ∧ (meterAt (metering) 15).stepped = false ∧
    (periodCalc (metering fun x => { x with invalid := true }) 15 1000).invalid = true ∧
    (getN (metering) 0x220F 2 = 0 ∨ getN (metering) 0x220F 2 = 2) ∧ (getN (metering) 0x220F 2 = 1 ∨ getN (metering) 0x220F 2 = 2) := by
  decide +kernel
theorem witness_SoundPeriods : (periodCalc (flowed 60 30) 15 1000).faulted = false ∧ (periodCalc (flowed 30 60) 15 1000).faulted = false ∧
    (periodCalc (flowed 60 60) 15 1000).faulted = false ∧
    dle (toF64 (getF (flowed 60 30) 0x221F 9)) (dsub (f64 60) (f64 30)) = true ∧
    dle (toF64 (getF (flowed 60 30) 0x221F 9)) (dsub (f64 30) (f64 60)) = false ∧
    dle (dsub (f64 30) (f64 60)) (dneg (toF64 (getF (flowed 60 30) 0x221F 9))) = true ∧
    dle (toF64 (getF (flowed 60 30) 0x221F 9)) (dsub (f64 60) (f64 60)) = false ∧
    dle (dsub (f64 60) (f64 60)) (dneg (toF64 (getF (flowed 60 30) 0x221F 9))) = false := by decide +kernel
theorem test_heating : getN (after (.meteringPeriodEnd 15) (flowed 60 30)) 0x220F 0x30 = 126000000 ∧
    getN (after (.meteringPeriodEnd 15) (flowed 60 30)) 0x220F 0x34 = 0 := by decide +kernel
theorem test_cooling : getN (after (.meteringPeriodEnd 15) (flowed 30 60)) 0x220F 0x34 = 126000000 ∧
    getN (after (.meteringPeriodEnd 15) (metering)) 0x220F 0x0B = 1 := by decide +kernel
/-- Counter 31 counts the edges of port 0; 7 since its last reading. -/
def counting : State := { ents [(0x223F, 1, 1), (0x223F, 2, 0), (0x2000, 0x0B, 2)] (metering) with
  counters := vUpd base.counters 31 fun _ => ⟨2 ^ 32 - 5, 0⟩ }
/-- An hour has passed since the interval began. -/
def hourly : State := updMeter { (metering) with thermos := { (metering).thermos with secs := 3600 } } 15 fun x => { x with start := some 3600000 }
theorem witness_PulsesAndIntervals : meterRuns counting = true ∧ mapWf counting.ents = true ∧ getB counting 0x223F 1 = true ∧
    (vAt counting.counters 31 counterRest).readSecond ≠ devTime counting / 1000 ∧ meterRuns hourly = true ∧ (chainHead hourly).length = 32 ∧
    boundary hourly (getN hourly 0x2243 1) (60000 * max 1 hourly.interval.length) = some 3600000 ∧ mapWf hourly.ents = true ∧
    periodsEnded hourly 3600000 = true ∧ periodsEnded (metering) 3600000 = false ∧ hourly.stor.tape = [] ∧ hourly.stor.pend = [] ∧
    hourly.kiln.queue.length ≤ 40 := by
  decide +kernel
/-- The first of February 2000, 00:00; the first of a month is a billing date. -/
def february : State :=
  updMeter (ents [(0x2240, 7, 1), (0x2240, 8, 1)] { hourly with thermos := { hourly.thermos with secs := 2678400 } }) 15
    fun x => { x with start := some 2678400000 }
theorem witness_BillingDates : boundary february (getN february 0x2243 1) (60000 * max 1 february.interval.length) = some 2678400000 ∧ periodsEnded february 2678400000 = true ∧
    lastBilling february (localDate february 2678400000) = some 31 ∧ lastDate february < 31 ∧
    lastBilling (ents [(0x2240, 7, 1), (0x2240, 8, 1)] hourly) (localDate hourly 3600000) = some 0 ∧ (0 ≤ lastDate hourly) := by decide +kernel
theorem test_pulses : getN (after (.pulseCounterSecond 31) counting) 0x223F 5 = 7 := by decide +kernel

/-! ## Loops and zones (O47 to O50) -/

/-- Loop 95 controls port 63 in a mode, from the register, once a second: gain 2, integral time 10 s, setpoint 20, measurement 18. -/
def looped (m : Nat) (f : LoopSt → LoopSt := fun x => x) : State :=
  updLoop (moded 63 11 (ents [(0x235F, 1, m), (0x235F, 2, 0x41A00000), (0x235F, 9, 0x41900000), (0x235F, 0x0A, 2), (0x235F, 0x0E, 63),
    (0x245F, 1, 1000), (0x245F, 6, 0x40000000), (0x245F, 7, 0x41200000), (0x245F, 0x16, 0), (0x245F, 0x17, 0x42C80000)]
    (atTick 1000 (pow fun p => { p with step8 := true })))) 95 fun x => f { x with active := m }
/-- Its sample of tick 1 000. -/
def sample : LoopLatch := ⟨1000, f32 20, f32 5, f32 18, 0⟩
/-- Its job of that sample, after one of tick 0. -/
def run : State := looped 2 fun x => { x with resume := 0, tlast := some 0, latch := some sample }
def job : LoopJob := ⟨1000, 1120, true, 0, varsRest, f32 5, 0, false, false, false, 0, 0, false, 0, none, false, false⟩
theorem witness_LoopsRun : islandsRun run = true ∧ loopMode run 95 ≠ 0 ∧ (loopAt run 95).lastSample ≠ some 1000 ∧
    ((1000 : Int) - getN run 0x245F 2) % (loopTs run 95 : Nat) = 0 ∧ mapWf run.ents = true ∧ (loopAt run 95).latch = some sample ∧ (loopAt run 95).outAt = none ∧
    (atTick 1120 run).clock.tick = 1120 ∧ sample.ts + getN run 0x245F 3 ≤ 1120 ∧ suspended run 95 = false ∧
    suspended { run with power := { run.power with quiet := true } } 95 = true ∧ (loopAt (enterMode run 95) 95).active = 2 ∧
    (loopAt (enterMode (looped 3) 95) 95).active = 3 ∧ ¬ (getN run 0x245F 5 = 1 ∧ isFresh run 95 1000 = false) ∧
    getN (ents [(0x245F, 5, 1), (0x235F, 0x0A, 0), (0x235F, 0x0B, 0)] run) 0x245F 5 = 1 ∧
    isFresh (ents [(0x245F, 5, 1), (0x235F, 0x0A, 0), (0x235F, 0x0B, 0)] run) 95 1000 = false ∧
    (loopAt (looped 2 fun x => { x with job := some job }) 95).job = some job ∧ job.fault = 0 ∧ job.bits.testBit 16 = false ∧
    ({ job with fault := 1 } : LoopJob).fault = 1 ∧ 2 ≤ ({ job with fault := 2 } : LoopJob).fault ∧ (loopAt run 95).active ≠ 0 ∧
    (loopAt (looped 2 fun x => { x with outAt := some 1000, staged := some (f32 5) }) 95).outAt = some 1000 ∧ groupOf run 95 = none ∧
    getN run 0x235F 0x0E = 63 ∧ portMode run 63 = 11 ∧ (portAt run 63).tripped = false ∧
    (portAt (updPort run 63 fun p => { p with tripped := true }) 63).tripped = true ∧
    getB (ents [(0x255F, 1, 1), (0x255F, 0x0D, 9)]) 0x255F 1 = true ∧ hamperFree base = true ∧
    run.stor.shows = 0 ∧ base.stor.tape = [] ∧ (∀ p ∈ (pendBytes .core 4).stor.pend, p.cls = 4 → p.writer ≠ .loop) ∧
    (recValue base (keyOf 0x255F 0x0D)).getD (leBytes 8 0) ≠ getBytes (ents [(0x255F, 0x0D, 9)]) 0x255F 0x0D := by decide +kernel
theorem test_sample : (loopAt (after (.loopSampleInstant 95) (looped 2)) 95).latch = some ⟨1000, f32 20, getF base 0x235F 8, f32 18, 999⟩ := by decide +kernel
theorem test_release : ((loopAt (after (.loopRelease 95) (atTick 1120 run)) 95).job.map fun j => (j.ts, j.auto, j.fault)) = some (1000, true, 0) := by
  decide +kernel
theorem test_job_end : (loopAt (after (.loopJobEnd 95) (looped 2 fun x => { x with job := some job })) 95).staged = some (f32 5) ∧
    getN (after (.loopJobEnd 95) (looped 2 fun x => { x with job := some job })) 0x235F 0x11 = 1 ∧
    raised (after (.loopJobEnd 95) (looped 2 fun x => { x with job := some { job with fault := 1 } })) 0x615F = true := by decide +kernel
theorem test_output : (portAt (after (.loopOutputInstant 95) (looped 2 fun x => { x with outAt := some 1000, staged := some (f32 5) })) 63).out = f32 5 ∧
    getF (after (.loopOutputInstant 95) (looped 2 fun x => { x with outAt := some 1000, staged := some (f32 5) })) 0x235F 6 = f32 5 := by decide +kernel
theorem test_high_water : recValue (after (.highWaterFlush 95) (ents [(0x255F, 1, 1), (0x255F, 0x0D, 9)])) (keyOf 0x255F 0x0D) =
    some (leBytes 8 9) := by decide +kernel
theorem witness_LoopLaw : inputFault run 95 (loopInput run 95 nan32) (f32 20) = true ∧ (computeJob run 95 sample true).fault = 0 ∧
    (loopAt run 95).resume = 0 ∧ (loopAt run 95).tlast = some 0 ∧ (loopAt run 95).tableChanged = false ∧ (loopAt run 95).repChanged = false ∧
    getN run 0x245F 0x11 = 0 ∧ flt (f32 0) (lf run 95 7) = true ∧ loses run 95 true = false ∧ (loopAt run 95).ramp = false ∧
    (computeJob run 95 sample true).ramp = false ∧ lowest [(3, f32 5), (1, f32 2)] 3 = some (1, f32 2) := by decide +kernel
theorem test_law : (computeJob run 95 sample true).vars.p = f32 4 ∧ (computeJob run 95 sample true).vars.i = f32 4 10 ∧
    (computeJob run 95 sample true).staged = f32 44 10 ∧ lowest [(3, f32 2), (1, f32 2)] 3 = some (3, f32 2) := by decide +kernel

/-- Zone 31 is enabled. -/
def zoned (l : List (Nat × Nat × Nat) := []) (f : ZoneSt → ZoneSt := fun x => x) (s : State := base) : State :=
  updZone (ents ((0x281F, 1, 1) :: l) s) 31 f
theorem witness_ZoneModes : isUp (zoned) = true ∧ mapWf (zoned).ents = true ∧ zoneOn (zoned) 31 = true ∧
    (zoneAt (zoned) 31).lastSecond ≠ some (devTime (zoned) / 1000) ∧ zoneTripped (zoned [] id (cond 0x707F 0)) 31 = true ∧ zoneTripped (zoned) 31 = false ∧
    (zoneAt (zoned [] fun x => { x with boostEnd := some 5 }) 31).boostEnd.isSome = true ∧ (zoneAt (zoned) 31).boostEnd = none ∧
    requestExpired (zoned [(0x281F, 2, 1)]) 31 = false ∧ getN (zoned [(0x281F, 2, 1)]) 0x281F 2 ≠ 255 ∧ getN (zoned) 0x281F 2 = 255 ∧
    63 < getN (zoned) 0x283F 1 ∧ getB (zoned [(0x283F, 0x16, 0)]) 0x283F 0x16 = false ∧ getN (zoned [(0x283F, 0x14, 0)]) 0x283F 0x14 = 0 ∧ zoneOn base 31 = false ∧
    (zoneAt (zoned [] fun x => { x with lastSecond := some 0 }) 31).lastSecond = some (devTime base / 1000) := by decide +kernel
theorem test_zone_mode : getN (after (.zoneEvaluation 31) (zoned [(0x281F, 2, 1)])) 0x281F 4 = 1 ∧ getN (after (.zoneEvaluation 31) (zoned [(0x281F, 2, 1)])) 0x281F 5 = 2 ∧
    getN (after (.zoneEvaluation 31) (zoned [(0x281F, 2, 1)] fun x => { x with boostEnd := some 5 })) 0x281F 4 = 5 := by decide +kernel
/-- Zone 31 takes presence from digital port 63, which is active. -/
def sensed : State := zoned [(0x203F, 1, 5), (0x203F, 0x0A, 1), (0x283F, 0x0D, 63)]
/-- Its request ends at 5 ms, or its boost at tick 5. -/
def requested (n : Nat) : State := atTick n (zoned [(0x281F, 2, 1), (0x281F, 0x10, 5)])
def boosted (n : Nat) : State := atTick n (zoned [] fun x => { x with boostEnd := some 5 })
theorem witness_ZonePresence : isUp sensed = true ∧ mapWf sensed.ents = true ∧ zoneOn sensed 31 = true ∧ sensed.clock.tick % 100 = 0 ∧
    (zoneAt sensed 31).lastSample ≠ some 0 ∧ presencePorts sensed 31 = [63] ∧ portFaulty sensed 63 = false ∧
    portFaulty { sensed with conds := [⟨faultCode 3 63, true, 0⟩] } 63 = true ∧ (zoneAt sensed 31).raw = false ∧
    (zoneAt (zoned [] fun x => { x with raw := true }) 31).raw = true ∧ getB (zoned) 0x281F 6 = false ∧ getB (zoned [(0x281F, 6, 1)]) 0x281F 6 = true ∧
    (zoneAt (zoned) 31).rawSince + getN (zoned) 0x283F 0x12 ≤ 3600000 ∧ (zoneAt (zoned) 31).rawSince + getN (zoned) 0x283F 0x13 ≤ 36000000 ∧
    requestExpired (requested 5) 31 = true ∧ requestExpired (requested 4) 31 = false ∧ (zoneAt (boosted 5) 31).boostEnd = some 5 ∧
    (boosted 4).clock.tick < 5 := by decide +kernel
theorem test_presence : (zoneAt (after (.presenceSample 31) sensed) 31).raw = true ∧
    getN (after (.occupiedSet 31) (atTick 3600000 (zoned [] fun x => { x with raw := true }))) 0x281F 6 = 1 ∧
    getN (after (.occupiedClear 31) (atTick 36000000 (zoned [(0x281F, 6, 1)]))) 0x281F 6 = 0 := by decide +kernel
theorem test_request_expiry : getN (after (.requestExpiry 31) (requested 5)) 0x281F 2 = 255 ∧ getN (after (.requestExpiry 31) (requested 4)) 0x281F 2 = 1 ∧
    (zoneAt (after (.boostEnd 31) (boosted 5)) 31).boostEnd = none := by decide +kernel

/-! ## Seals, trust and the bus (O51 to O55) -/

/-- The Kiln's queue holds requests of the given kinds, the first in a phase. -/
def sealing (k : Nat) (ph : SealPhase) (s : State := base) : State :=
  kln (fun x => { x with queue := [{ sealReq k 0 0 none with phase := ph, header := List.replicate 256 1, sig := List.replicate 7856 2 }, sealReq 2 1 0 none] }) s
theorem witness_SealsAreSigned : canSign (sealing 3 .queued) = true ∧ mapWf base.ents = true ∧ busyPlace (sealing 3 .queued).kiln.queue = none ∧
    nextRequest (sealing 3 .queued).kiln.queue = some 1 ∧ busyPlace (sealing 3 (.signing 1)).kiln.queue = some 0 ∧
    (requestAt (sealing 3 (.signing 1)).kiln.queue 0).phase = .signing 1 ∧ (requestAt (sealing 3 (.signing 2)).kiln.queue 0).phase = .signing 2 ∧
    (requestAt (sealing 3 (.signing 1)).kiln.queue 0).kind ≠ 4 ∧ nextSlot (sealing 3 (.signing 1)) false < 768 ∧ nextSlot (sealing 1 (.signing 1)) true < 768 ∧
    (sealing 3 (.signing 1) warned).power.warning.isSome = true ∧ (sealing 3 (.signing 1)).power.warning = none ∧ base.power.entry = none ∧
    (requestAt (sealing 3 (.signing 1)).kiln.queue 0).header.length = 256 ∧ (requestAt (sealing 3 (.signing 1)).kiln.queue 0).sig.length = 7856 ∧
    base.stor.pend = [] ∧ base.stor.tape = [] ∧ (sealing 3 (.signing 1)).kiln.queue.length ≤ 40 ∧
    (requestAt (sealing 4 (.signing 1)).kiln.queue 0).kind = 4 ∧ (sealing 3 (.signing 1)).kiln.trngHalted = none ∧
    busyPlace (sealing 3 (.retry 0)).kiln.queue = some 0 ∧ (requestAt (sealing 3 (.retry 0)).kiln.queue 0).phase = .retry 0 := by decide +kernel
theorem test_signing : getN (after .signingStart (sealing 3 .queued)) 0x2B20 3 = 2 ∧
    (requestAt (after (.signingComplete false) (sealing 3 (.signing 1))).kiln.queue 0).phase = .signing 2 ∧
    raised (after (.signingComplete false) (sealing 3 (.signing 2))) 0x8040 = true ∧
    (requestAt (after .signingRetry (atTick 60000 (sealing 3 (.retry 0)))).kiln.queue 0).phase = .signing 1 := by decide +kernel
theorem test_seal_stored : getN (after (.signingComplete true) (sealing 3 (.signing 1))) 0x2B10 1 = getN base 0x2B10 1 + 1 ∧
    raised (after (.signingComplete true) (sealing 3 (.signing 1))) 0x8001 = true ∧ (after (.signingComplete true) (sealing 3 (.signing 1))).kiln.queue.length = 1 := by
  decide +kernel
/-- An attestation statement has waited since tick 0. -/
def stated : State := kln fun x => { x with statements := [⟨.service, [1], 0⟩, ⟨.node 1 5, [2], 0⟩] }
/-- An update of slot 0 is in its trial. -/
def trial : State := atTick 3600000 (sto fun t => { t with recs := [⟨recSlot 0, none, some ⟨1, slotBytes ⟨3, 0, List.replicate 32 0, 0, 1, 7, 4, 0, false⟩, true⟩, 2⟩] })
theorem witness_TrustEvents : base.audit.head.length = 32 ∧ isUp base = true ∧ (kln fun x => { x with trngHalted := some 0 }).kiln.trngHalted = some 0 ∧
    0 + 60000 ≤ (atTick 60000 stated).clock.tick ∧ (⟨.service, [1], 0⟩ : Statement) ∈ stated.kiln.statements ∧ hamperFree base = true ∧
    0 < (tamperAt (updTamper base 1 fun t => { t with count := 3, first := some 5, last := 9 }) 1).count ∧ mapWf base.ents = true ∧
    trial.power.runningSlot < 2 ∧ (slotInfo trial trial.power.runningSlot).state = 3 ∧ getN trial 0x2D20 2 = 0 ∧
    trial.update.runSince + 1000 * getN trial 0x2D20 5 ≤ 3600000 ∧ isUp trial = true ∧ hamperFree trial = true ∧ trial.stor.pend = [] ∧ trial.stor.tape = [] := by decide +kernel
theorem test_trng : raised (after .trngHealthFailure base) 0x9001 = true ∧
    (after (.trngRetest true) (atTick 60000 (kln fun x => { x with trngHalted := some 0 }))).kiln.trngHalted = none ∧
    (after (.statementExpiry .service) (atTick 60000 stated)).kiln.statements = [⟨.node 1 5, [2], 0⟩] := by decide +kernel
theorem test_tamper_log : getN (after (.tamperLog 1) (updTamper base 1 fun t => { t with count := 3, first := some 5, last := 9 })) 0x2C30 7 = 3 ∧
    raised (after (.tamperLog 1) (updTamper base 1 fun t => { t with count := 3, first := some 5, last := 9 })) 0x9010 = true ∧
    (after (.tamperLog 1) (updTamper base 1 fun t => { t with count := 3, first := some 5, last := 9 })).audit.count = 2 := by decide +kernel
theorem test_confirmation : (after .confirmationTimeout trial).kiln.counter = 4 ∧ (slotInfo (after .confirmationTimeout trial) 0).state = 4 := by decide +kernel

/-- Path 0 offers a heartbeat. -/
def offering (s : State := onBus) : State := updPath s 0 fun x => { x with queue := [heartbeat s 0] }
/-- Path 0 with its run-time part changed. -/
def path0 (f : PathSt → PathSt) (s : State := offering) : State := updPath s 0 f
/-- A trip frame to send on path 0. -/
def tripOut : TripFrame := ⟨5, true, 1, 1, 0, 1, 1, 0, 0⟩
theorem witness_PathErrors : (offer (offering) 0).isSome = true ∧ mapWf (offering).ents = true ∧ errorPassive (pathAt (path0 fun x => { x with txErr := 128 }) 0) = true ∧
    2 ≤ (pathAt (path0 fun x => { x with echoErrors := 2 }) 0).echoErrors ∧ 15 ≤ (pathAt (path0 fun x => { x with ackErrors := 15 }) 0).ackErrors ∧
    (offer (path0 fun x => { x with txErr := 248 }) 0).isSome = true ∧ 255 < 248 + 8 ∧ 247 + 8 ≤ 255 ∧
    (pathAt (path0 fun x => { x with busOff := true }) 0).busOff = true ∧ islandsRun (offering) = true ∧ pathPowered (offering) 0 = true ∧
    (pathAt (path0 fun x => { x with xcvr := 1 }) 0).xcvr ≠ 0 ∧ (pathAt (path0 fun x => { x with passiveSince := some 0 }) 0).passiveSince = some 0 ∧
    0 + (pairAt (offering) 0).passiveLimit < 100000 ∧ (pathAt (offering) 0).passiveTooLong = false ∧ (pathAt onBus 0).quiet = false ∧
    quietNow onBus 0 = false ∧ rxOpen (offering) 0 = true ∧
    quietNow (atTick 10000 (updPath onBus 1 fun x => { x with heard := [(3, 9999), (4, 9999)] })) 0 = true ∧
    (pathAt (path0 fun x => { x with rxErr := 127 }) 0).rxErr ≤ 127 ∧ offer (offering) 0 = some (.inr (heartbeat onBus 0)) ∧ (offering).kdp.wait = [] ∧
    offer (path0 fun x => { x with trips := [tripOut] }) 0 = some (.inl tripOut) := by decide +kernel
/-- Path 0 offers a Classic CAN frame. -/
def classic (tx : Nat) : State := updPath onBus 0 fun x => { x with txErr := tx, queue := [⟨.raw 0 false, 1, false, false, false, [1], 0⟩] }
theorem test_transmission_error : (pathAt (after (.transmissionError 0 .bit) (classic 248)) 0).busOff = true ∧
    raised (after (.transmissionError 0 .bit) (classic 248)) 0xA010 = true ∧
    (pathAt (after (.transmissionError 0 .ack) (classic 128)) 0).txErr = 128 := by decide +kernel
theorem test_bus_off_recovery : (pathAt (after (.busOffRecovery 0) (path0 fun x => { x with busOff := true, txErr := 256 })) 0).txErr = 0 := by decide +kernel
theorem test_path_conditions : raised (after (.transceiverFault 0 1) (offering)) 0xA040 = true ∧
    (pathAt (after (.transceiverFaultCleared 0) (path0 fun x => { x with xcvr := 1 })) 0).xcvr = 0 ∧
    raised (after (.errorPassiveLimit 0) (atTick 100000 (path0 fun x => { x with passiveSince := some 0, txErr := 200 }))) 0xA020 = true ∧
    raised (after (.quietPath 0) (atTick 10000 (updPath onBus 1 fun x => { x with heard := [(3, 9999), (4, 9999)] }))) 0xA060 = true := by decide +kernel
theorem test_reception : (pathAt (after (.receiveError 0 true) (offering)) 0).rxErr = 8 ∧
    getN (after (.remoteFrameReceived 0) (offering)) 0x1108 7 = 1 ∧ getN (after (.frameCompleted 0 0 0) (offering)) 0x1108 6 = 1 := by decide +kernel

/-- The lease of pair 0 has ended. -/
def expired (s : State := onBus) : State := atTick 1000 s
/-- Pair 0 joins. -/
def joining (preferred : Nat) : State := updPair onBus 0 fun x => { x with holder := none, joinEnd := some 0, preferred := preferred }
theorem witness_BasketMoves : islandsRun (expired) = true ∧ (pairAt (expired) 0).enabled = true ∧ (pairAt (expired) 0).holder = some 0 ∧
    (pairAt (expired) 0).expiry ≤ 1000 ∧ mapWf (expired).ents = true ∧ passes (expired) (pathOf 0 (1 - 0)) = true ∧
    passes (expired (updPath onBus 1 fun x => { x with busOff := true })) (pathOf 0 (1 - 0)) = false ∧
    pathFails (expired (path0 fun x => { x with busOff := true })) 0 = true ∧ pathFails (expired) 0 = false ∧ heartbeatDue (atTick 250 onBus) 0 = true ∧
    (atTick 250 onBus).clock.tick < (pairAt onBus 0).expiry ∧ sendPath onBus 0 < 4 ∧
    (pairAt (updPair onBus 0 fun x => { x with hbPending := true }) 0).hbPending = true ∧ (pairAt onBus 0).holder.isSome = true ∧
    (pairAt (joining 1) 0).joinEnd = some 0 ∧ (pairAt (joining 1) 0).preferred < 2 ∧ pathFails (joining 1) 0 = false ∧ pathFails (joining 1) 1 = false ∧
    passes (joining 1) (pathOf 0 1) = true := by decide +kernel
theorem test_lease : (pairAt (after (.leaseExpiry 0) (expired)) 0).holder = some 1 ∧ getN (after (.leaseExpiry 0) (expired)) 0x1104 7 = 2 ∧
    (pairAt (after (.leaseExpiry 0) (expired (updPath onBus 1 fun x => { x with busOff := true }))) 0).expiry = 2000 := by decide +kernel
theorem test_heartbeats : (pathAt (after (.heartbeatDue 0) (atTick 250 onBus)) 0).queue = [{ heartbeat (atTick 250 onBus) 0 with queued := 6000000 }] ∧
    (pathAt (after (.heartbeatLosesArbitration 0) (updPair (offering) 0 fun x => { x with hbPending := true })) 0).queue = [] ∧
    (pairAt (after (.pairJoin 0) (joining 1)) 0).holder = some 1 := by decide +kernel

/-- A trip frame of channel 5 from node 9 of segment 1, with a tag. -/
def tripIn (tag : Nat) : RxFrame := frm 0 (frameId 0 0 127 9 tag) [5, 1, 9, 0, 1, 0, 0, 0]
/-- Channel 5 is received; node 9 last sent tag 3. -/
def tripping (m : Nat) : State :=
  ents [(0x1110, 1, m)] { onBus with bus := { onBus.bus with remotes := [⟨1, 9, 5, 3, false⟩] } }
/-- A bridge with pair 1 in segment 2. -/
def bridged (q : List Frame := []) : State :=
  updPath { updPair onBus 1 (fun x => { x with enabled := true, mask := 3, nodeId := 1, segment := 2, holder := some 0, lease := 1000, expiry := 1000 })
    with bus := { (updPair onBus 1 fun x => { x with enabled := true, mask := 3, nodeId := 1, segment := 2, holder := some 0, lease := 1000, expiry := 1000 }).bus
      with bridging := true } } 2 fun x => { x with queue := q }
/-- A routed read for segment 2. -/
def routed : RxFrame := frm 0 (frameId 4 1 9 5 7) [1, 8, 0, 0x10, 0, 0, 4, 0, 2, 0, 1, 0]
/-- Mailbox 15 takes frames of identifier 0x123 on path 0. -/
def mailed : State := ents [(0x140F, 1, 1), (0x140F, 2, 0), (0x140F, 3, 0x123), (0x140F, 4, 0x7FF), (0x140F, 5, 5)] onBus
def plain : RxFrame := ⟨0, 0x123, false, false, false, false, [1, 2, 3], 77⟩
/-- Port 0 holds channel 5 asserted, sent with tag 1. -/
def sending : State :=
  updPort (ents [(0x2000, 1, 5), (0x2000, 0x0A, 1), (0x2040, 0x18, 5), (0x2040, 0x19, 1), (0x2040, 0x1A, 1)]
    (atTick 60000 { onBus with bus := { onBus.bus with localTags := [(5, 1)] } })) 0 fun p => { p with known := true }
theorem witness_FramesReceived : (receiveFrame (tripping 32) (tripIn 3) 0).1 = true ∧ mapWf (tripping 32).ents = true ∧ 8 ≤ (tripIn 3).data.length ∧
    fieldN (tripIn 3).data 0 1 = 5 ∧ remoteOf (tripping 32) 1 9 5 = some ⟨1, 9, 5, 3, false⟩ ∧ idTag (tripIn 3).id = 3 ∧ idTag (tripIn 4).id ≠ 3 ∧
    (getN (tripping 32) 0x1110 1).testBit 5 = true ∧ (getN (tripping 0) 0x1110 1).testBit 5 = false ∧
    ((tripping 32).bus.remotes.filter (·.asserted)).length < 256 ∧ (receiveFrame (bridged) routed (if isService routed 5 then 5 else 1)).1 = true ∧
    12 ≤ routed.data.length ∧ fieldN routed.data 6 2 = 4 ∧ (fieldN routed.data 1 1).testBit 3 = true ∧
    fieldN routed.data 8 2 ≠ (pairAt (bridged) 0).segment ∧ forwardTo (bridged) 0 2 = some 1 ∧
    sendPath (receiveFrame (bridged) routed 1).2 1 < 4 ∧ freePlaces (receiveFrame (bridged) routed 1).2 1 ≠ 0 ∧
    freePlaces (receiveFrame (bridged (List.replicate 64 (heartbeat onBus 0))) routed 1).2 1 = 0 ∧ rxOpen mailed 0 = true ∧
    isService plain 4 = false ∧ (plain.ext && plain.fd && serviceClass (idService plain.id) (idClass plain.id)) = false ∧ mailTakes mailed 15 plain = true ∧
    mailTakes mailed 0 plain = false ∧ mailed.bus.refreshAt + getN mailed 0x1110 2 ≤ 60000 ∧
    islandsRun sending = true ∧ sending.bus.refreshAt + getN sending 0x1110 2 ≤ sending.clock.tick ∧
    sending.bus.localTags = [(5, 1)] ∧ sentAsserted sending 5 = true ∧ (pairAt sending 0).enabled = true ∧ (pairAt sending 0).silent = false ∧
    (pairAt sending 0).mask.testBit 1 = true := by decide +kernel
theorem test_trip_frames : getN (after (.tripFrameReceived (tripIn 3)) (tripping 32)) 0x1110 5 = 1 ∧
    remoteOf (after (.tripFrameReceived (tripIn 4)) (tripping 32)) 1 9 5 = some ⟨1, 9, 5, 4, true⟩ := by decide +kernel
theorem test_forward : ((pathAt (after (.kdpForward routed) (bridged)) 2).queue.map fun f => (idService f.id, f.data)) = [(5, routed.data)] ∧
    getN (after (.kdpForward routed) (bridged)) 0x1300 6 = 1 := by decide +kernel
theorem test_mailbox : getBytes (after (.rawFrameReceived plain) mailed) 0x140F 8 = [1, 2, 3] ∧ getN (after (.rawFrameReceived plain) mailed) 0x140F 0x0A = 77 := by
  decide +kernel
theorem test_trip_refresh : ((pathAt (after .tripRefresh sending) 1).trips.map
    fun t => (t.channel, t.asserted, t.tag)) = [(5, true, 1)] := by decide +kernel

/-! ## Time, display and indicators (O56 to O59) -/

/-- Time stands since second 1 000, trusted. -/
def timed1 (f : Clock → Clock := fun c => c) (s : State := base) : State :=
  { s with thermos := { s.thermos with secs := 1000 }, clock := f { s.clock with source := 1, bound := some 0 } }
/-- Time halts until tick 10 000, with a value written or not. -/
def halted (v : Option Nat) : State := atTick 10000 (clk fun c => { c with halt := some (10000, 24000000, 0), setValue := v })
/-- Alarm 7 of a kind is due. -/
def alarmed (kind : Nat) : State := updAlarm (ents [(0x290B, 1, 1), (0x290B, 2, kind)] (timed1)) 7 fun x => { x with due := some 5 }
theorem witness_TimeKeeping : isUp base = true ∧ hamperFree base = true ∧ (0 < 768000000) ∧ base.clock.rtcWindowAt + 32000 ≤ 32000 ∧ mapWf base.ents = true ∧
    200 * 767000000 < (((768000000 : Int) - 767000000) * 1000000).natAbs ∧ getN (ents [(0x2901, 1, 1)]) 0x2901 1 = 1 ∧
    (halted none).clock.halt = some (10000, 24000000, 0) ∧ (halted none).clock.setValue = none ∧ devRef (halted none) < 2 ^ 32 * 24000000 ∧
    ((11500 * 24000 : Nat) - (devRef (halted (some 11500)) : Int)).natAbs ≤ 24000000 ∧
    24000000 < ((90000 * 24000 : Nat) - (devRef (halted (some 90000)) : Int)).natAbs ∧ (timed1).clock.lastMinute ≠ nowMinute (timed1) ∧
    offsetAt (timed1 fun c => { c with localOffset := 60 }) (devTime (timed1)) ≠ 60 ∧ alarmDue (alarmed 0) 7 = true ∧ alarmDue (alarmed 1) 7 = true ∧
    getN (alarmed 0) 0x290B 2 = 0 ∧ getN (alarmed 1) 0x290B 2 ≠ 0 ∧ isUp (alarmed 1) = true ∧ hamperFree (alarmed 1) = true := by decide +kernel
theorem test_rtc_window : raised (after (.rtcWindow 767000000) (ents [(0x2901, 1, 0)] (atTick 32000))) 0xB020 = true ∧
    getF (after (.rtcWindow 768000000) (ents [(0x2901, 1, 0)] (atTick 32000))) 0x2901 4 = f32 0 ∧ (after (.rtcWindow 768000000) (ents [(0x2901, 1, 0)] (atTick 32000))).clock.rtcWindowAt = 32000 := by
  decide +kernel
theorem test_halt_timeout : (after .haltTimeout (halted (some 11500))).clock.slew = 64 * 500 * 24000 ∧
    raised (after .haltTimeout (halted none)) 0xB007 = true := by decide +kernel
/-- Program 63 gives 20 from 00:10 and 21 from 00:30 on Saturdays; 2000-01-01 was one. -/
def programmed : State := setBytes (ents [(0x28BF, 1, 1)] (timed1)) 0x28BF 0x15 (leBytes 2 10 ++ leBytes 4 0x41A00000 ++ leBytes 2 30 ++ leBytes 4 0x41A80000)
theorem test_program : nowMinute programmed = 16 ∧ programOutput programmed 63 = some (f32 20) ∧ nextOutput programmed 63 = some (1800000, f32 21) := by
  decide +kernel
theorem test_local_offset : offsetAt (ents [(0x2902, 1, 60)] (timed1)) (devTime (timed1)) = 60 := by decide +kernel
theorem test_alarm : raised (after (.userAlarm 7) (alarmed 0)) 0xB017 = true ∧ getB (after (.userAlarm 7) (alarmed 0)) 0x290B 1 = false ∧
    getB (after (.userAlarm 7) (alarmed 1)) 0x290B 1 = true := by decide +kernel

/-- A master on pair 0, or a follower that receives. -/
def master : State := ents [(0x2910, 1, 2)] (timed1 id onBus)
def follower : State := ents [(0x2910, 1, 1), (0x2910, 8, 2)] (timed1 id onBus)
/-- A reference frame of node 9 with stratum 1 and tag 7, and its follow-up with the second 1 001. -/
def timeRef : RxFrame := frm 0 (frameId 1 3 0 9 7) [0, 0x89, 1, 4, 0, 0, 0, 0]
def timeFollow (tag : Nat) : RxFrame := frm 0 (frameId 1 3 0 9 tag) ([1, 0, 0, 0] ++ leBytes 4 0 ++ leBytes 8 1000500)
/-- The master owes the follow-up of a reference frame with tag 7. -/
def owing : State := netw (fun n => { n with owed := vUpd n.owed 0 fun _ => some (7, 24000000, 9, 2, 0) }) master
/-- The follower has the reference frame. -/
def halfPair (quality : Nat) (s : State := follower) : State := { s with net := { s.net with halves := [⟨9, 7, quality, 1, 4, 24000000000, 0⟩] } }
theorem witness_NetworkTime : islandsRun master = true ∧ masterOn master 0 = true ∧ timeTrusted master = true ∧ vAt master.net.better 0 none = none ∧
    (pairAt master 0).holder.isSome = true ∧ devTime master / ownPeriod master ≠ vAt master.net.lastSent 0 0 ∧ 0 < freePlaces master 0 ∧
    sendPath master 0 < 4 ∧ (pairAt master 0).nodeId < 128 ∧ timeTrusted base = false ∧
    vAt owing.net.owed 0 none = some (7, 24000000, 9, 2, 0) ∧ masterOn owing 0 = true ∧ timeTrusted owing = true ∧ vAt owing.net.better 0 none = none ∧
    owing.clock.ref ≤ 0 + 2400000 ∧ (pairAt owing 0).holder.isSome = true ∧ 0 < freePlaces owing 0 ∧ sendPath owing 0 < 4 ∧ islandsRun owing = true := by decide +kernel
theorem witness_NetworkTime_follower :
    (receiveFrame master timeRef 3).1 = true ∧ 8 ≤ timeRef.data.length ∧ fieldN timeRef.data 0 1 = 0 ∧
    betterMaster (ents [(0x2910, 1, 1)] master) 0 (fieldN timeRef.data 2 1) (idSrc timeRef.id) = false ∧
    betterMaster (updPair master 0 fun x => { x with nodeId := 10 }) 0 0 9 = true ∧ masterOn follower 0 = false ∧ getN follower 0x2910 1 = 1 ∧
    follower.net.lastTag ≠ some (9, 7) ∧ (follower.net.halves.any fun x => x.src == 9 && x.tag == 7) = false ∧
    max (halfPair 8).clock.ref (timeFollow 7).sof ≤ 0 + 12000000 ∧ 0 + 12000000 < max (atTick 501 (halfPair 8)).clock.ref 0 ∧ (receiveFrame (halfPair 8) (timeFollow 7) 3).1 = true ∧ mapWf (halfPair 8).ents = true ∧
    16 ≤ (timeFollow 7).data.length ∧ fieldN (timeFollow 7).data 0 1 = 1 ∧
    ((halfPair 8).net.halves.find? fun x => x.src == idSrc (timeFollow 7).id) = some ⟨9, 7, 8, 1, 4, 24000000000, 0⟩ ∧ idTag (timeFollow 8).id ≠ 7 ∧
    (8 : Nat).testBit 3 = true ∧ (0 : Nat).testBit 3 = false ∧ getN (halfPair 8) 0x2910 3 = 0 ∧
    (roundAway (((1000500 * 1000000 : Nat) - (24000000000 * 125 : Int).fdiv 3) * 3) 125).natAbs ≤ getN (halfPair 8) 0x2910 6 * 24000 ∧
    (roundAway (((1000500 * 1000000 : Nat) - (24000000000 * 125 : Int).fdiv 3) * 3) 125).natAbs ≤ 24000000 ∧
    (netw (fun n => { n with lastPair := some 0, period := 1000 }) follower).net.lastPair = some 0 ∧ getN follower 0x2910 8 = 2 ∧
    vAt (netw (fun n => { n with better := vUpd n.better 0 fun _ => some 0 }) master).net.better 0 none = some 0 ∧
    0 + 4 * ownPeriod master ≤ 40000 ∧ vAt master.net.better 1 none = none := by decide +kernel
theorem test_reference_sent : ((pathAt (after (.timeReferenceSend 0) master) 0).queue.map fun f => (idService f.id, idClass f.id, idSrc f.id)) = [(3, 1, 1)] := by
  decide +kernel
theorem test_follow_up_sent : ((pathAt (after (.timeFollowUpSend 0) owing) 0).queue.map
    fun f => (idTag f.id, f.data.drop 8)) = [(7, leBytes 8 1000)] := by decide +kernel
theorem test_reference_received : ((after (.timeReferenceReceived timeRef) follower).net.halves.map fun h => (h.src, h.tag, h.stratum)) = [(9, 7, 1)] := by
  decide +kernel
theorem test_pair_applied : (after (.timeFollowUpReceived (timeFollow 7)) (halfPair 8)).clock.slew = 64 * 500 * 24000 ∧
    getN (after (.timeFollowUpReceived (timeFollow 7)) (halfPair 8)) 0x2910 0x0A = 1 ∧
    getN (after (.timeFollowUpReceived (timeFollow 8)) (halfPair 8)) 0x2910 0x0B = 1 := by decide +kernel
theorem test_holdover : getN (after .holdover (atTick 4000 (netw (fun n => { n with lastPair := some 0, period := 1000 }) follower))) 0x2910 8 = 3 ∧
    vAt (after (.masterResume 0) (atTick 40000 (netw (fun n => { n with better := vUpd n.better 0 fun _ => some 0 }) master))).net.better 0 none = none := by
  decide +kernel

/-- A display of 8 by 4 pixels is on. -/
def shown (f : DisplaySt → DisplaySt := fun d => d) : State := dsp f (ents [(0x2A00, 1, 1), (0x2A00, 2, 8), (0x2A00, 3, 4)])
/-- A finished rectangle of one pixel, from level 0 to level 3, and one that goes on. -/
def oneRect (n : Nat) : Rect := ⟨0, 0, 4, n, 1, 1, 1, 1, [24], true, 0, 0⟩
/-- The metrology window is on, with the pages of meter 0. -/
def windowed : State := ents [(0x2A18, 1, 1), (0x2A18, 2, 0), (0x2A18, 3, 0), (0x2A18, 4, 4), (0x2A18, 5, 1), (0x2A18, 6, 3)] (shown)
theorem witness_DisplayFrames : displayRuns (shown) = true ∧ mapWf (shown).ents = true ∧ (shown).display.mending = false ∧
    dueRef (shown) (shown).display.frameAt = true ∧ (shown).display.queue = [] ∧ getB (shown) 0x2A00 6 = false ∧
    getB (ents [(0x2A00, 6, 1)] (shown)) 0x2A00 6 = true ∧ (shown).stor.tape = [] ∧ journalRects (shown) = [] ∧
    (∀ e ∈ (rectPixels (shown) 1 1 1 1).zip (oneRect 4).pairs, e = (9, 24)) ∧
    (shown fun d => { d with rects := [oneRect 4] }).display.rects = [oneRect 4] ∧ (oneRect 4).total ≤ (oneRect 4).begun ∧
    mapWf (shown).display.pixels = true ∧ (rectPixels (shown) 1 1 1 1).Nodup ∧ isUp windowed = true ∧ displayOn windowed = true ∧ windowOn windowed 8 = true ∧
    windowed.display.pageAt ≤ 0 ∧ nextPage windowed windowed.display.page = some 1 ∧ (∀ r ∈ windowed.display.queue, r.window ≠ 8) ∧
    windowed.display.queue.length < 16 ∧ (shown).display.rects = [] ∧ (shown).display.checkAt + 60000 ≤ 60000 ∧ (shown).display.ledger = [] ∧
    (shown fun d => { d with ledger := [(3, 1)] }).display.ledger ≠ [] := by decide +kernel
theorem test_frame : getN (after (.displayFrameBoundary false) (shown fun d => { d with rects := [oneRect 4, oneRect 1] })) 0x2A00 0x12 = 1 ∧
    (after (.displayFrameBoundary false) (shown fun d => { d with rects := [oneRect 4, oneRect 1] })).display.rects = [oneRect 1] ∧
    levelOf (after (.displayFrameBoundary false) (shown fun d => { d with rects := [oneRect 4] })).display (panelW (shown) + 1) = 3 := by decide +kernel
theorem test_page : ((after .metrologyPageChange windowed).display.queue.map fun q => (q.window, q.page)) = [(8, 1)] := by decide +kernel
theorem test_image_check : raised (after (.imageCheck true) (atTick 60000 (shown))) 0xD010 = true ∧
    raised (after (.imageCheck true) (atTick 59999 (shown))) 0xD010 = false := by decide +kernel
theorem witness_RailsAndIndicators : islandsRun (shown) = true ∧ displayOn (shown) = true ∧ (shown).display.railFault = false ∧
    (shown fun d => { d with railFault := true }).display.railFault = true ∧ (shown).display.rects = [] ∧
    (shown fun d => { d with railFault := true, rects := [oneRect 1] }).display.rects ≠ [] ∧ (shown).display.mending = false ∧ mapWf (shown).ents = true ∧
    (indicatorAt base 3).nextAt ≤ 0 ∧ (indicatorAt base 3).step + 1 < (indicatorAt base 3).length ∧
    (indicatorAt { base with indicators := vUpd base.indicators 3 fun x => { x with step := 15 } } 3).length ≤ 15 + 1 ∧
    replacementOn (ents [(0x2F00, 2, 1), (0x2A40, 1, 3)]) 3 = true ∧ replacementOn base 3 = false ∧ getB (ents [(0x2A44, 5, 1)]) 0x2A44 5 = true := by
  decide +kernel
theorem test_rails : raised (after .railFault (shown)) 0xD020 = true ∧
    (after .railRecovery (shown fun d => { d with railFault := true, rects := [oneRect 1] })).display.mending = true := by decide +kernel
theorem test_indicator : (indicatorAt (after (.indicatorStep 3) base) 3).step = 1 ∧
    getN (after (.indicatorStep 3) (ents [(0x2F00, 2, 1), (0x2A40, 1, 3)] { base with indicators := vUpd base.indicators 3 fun x => { x with step := 15 } })) 0x2A44 5 = 1 ∧
    raised (after (.indicatorFault 3 2) (ents [(0x2A44, 5, 1)])) 0xD043 = true ∧ getN (after (.indicatorFault 3 0) (ents [(0x2A44, 6, 2)])) 0x2A44 6 = 0 := by
  decide +kernel

/-! ## Premises that single clauses add, and functions of public standards -/

theorem witness_SegmentedWrites_gaps : ahead 5 2 = 3 ∧ sameWindow (some (2, 8)) (ahead 5 2) = true ∧ sameWindow none (ahead 5 2) = false ∧
    sameWindow (some (3, 8)) (ahead 5 2) = false ∧ sameWindow (some (2, 3)) (ahead 5 2) = false ∧ ahead 2 2 = 0 ∧
    takenNow (xfer 0x2A08 1 (writing 1 0 (some (2, 8)))) (msg 5 0 0 [5] 1 0 5) = true := by decide +kernel
/-- A heartbeat stands 16 times at the service port. -/
def serviceFull : State := { base with kdp := { base.kdp with serviceQ := List.replicate 16 ⟨.heartbeat, 0, true, true, true, [0], 0⟩ } }
theorem witness_ServicePort_waits : serviceFull.kdp.serviceQ.length ≤ 16 ∧
    (pushService serviceFull ⟨.heartbeat, 0, true, true, true, [7], 0⟩).kdp.serviceWait.length = 1 ∧
    (serviceShift (pushService serviceFull ⟨.heartbeat, 0, true, true, true, [7], 0⟩) 64).kdp.serviceWait = [] := by decide +kernel
theorem witness_PortOutputs_more : pwmEventOpen (moded 63 12) 63 = false ∧ pwmEventOpen (pwmTimed 0) 63 = true ∧
    (portAt (moded 63 12) 63).dutyFrom ≤ (portAt (moded 63 12) 63).pwmAt ∧ getN (moded 63 12) 0x207F 0x13 = 0 ∧
    (portAt (port0 12 fun p => { p with dutyStaged := some (f32 50), dutyFrom := 1 }) 0).pwmAt < 1 ∧
    (portAt (moded 63 13) 63).hot = false ∧ actuatorOf (moded 63 13) 63 = none ∧ (actuatorOf (moded 62 14) 63).isSome = true := by decide +kernel
theorem witness_ReferenceSettling_excited : monitorJudges (ents [(0x2107, 8, 2)]) 7 = false ∧ monitorJudges (ents [(0x2107, 8, 1)]) 7 = true := by
  decide +kernel
theorem witness_IntervalEnd_settled : minuteSettled (clk (fun c => { c with lastMinute := 60 }) hourly) = true ∧ minuteSettled hourly = false ∧
    (∀ p ∈ hourly.stor.pend, p.writer = .metrology → ∃ id d, p.target = .record id d) :=
  ⟨by decide +kernel, by decide +kernel, fun p hp => by rw [show hourly.stor.pend = [] from by decide +kernel] at hp; cases hp⟩
/-- Loops 94 and 95 have a job, that of 95 released a tick earlier. -/
def twoJobs : State :=
  updLoop (looped 2 fun x => { x with job := some job }) 94 fun x => { x with active := 2, job := some { job with released := 1121 } }
theorem witness_LoopJobs_order : jobFirst twoJobs 95 job = true ∧ jobFirst twoJobs 94 { job with released := 1121 } = false ∧
    exec (.loopJobEnd 94) twoJobs = .next twoJobs := ⟨by decide +kernel, by decide +kernel, by rfl⟩
theorem witness_SealsAreSigned_halted :
    (kln (fun k => { k with trngHalted := some 0 }) (sealing 3 (.signing 1))).kiln.trngHalted.isSome = true ∧
    (requestAt (after (.signingComplete false) (kln (fun k => { k with trngHalted := some 0 }) (sealing 3 (.signing 1)))).kiln.queue 0).phase
      = .failedOnce := by decide +kernel
theorem witness_TrustEvents_warned : hamperFree warned = false ∧ appendAudit warned .device 10 0 0 0 [1] = warned := ⟨by decide +kernel, by rfl⟩
theorem witness_PathErrors_offers : offerAt offering 0 0 = some (.inr (heartbeat onBus 0)) ∧ offering.kdp.wait = [] ∧
    compensates offering 0 (.inr (heartbeat onBus 0)) = true ∧ 3175 < 2 * 1588 ∧
    ¬ (compensates offering 0 (.inr (heartbeat onBus 0)) = true ∧ 3175 < 2 * 1587) ∧
    compensates (updPair offering 0 fun x => { x with data := 0 }) 0 (.inl tripOut) = false := by decide +kernel
theorem witness_EveryCommandCompletes : due .snapshotExpiry (atTick 250 (withSnaps [snapped .service])) ∧ due (.tick 1000 33 true) base ∧
    due (.servicePortSelection [0] 0 false 0) base ∧ due (.signingRetry) (atTick 60000 (sealing 3 (.retry 0))) :=
  ⟨⟨by decide +kernel, snapped .service, by decide +kernel, by decide +kernel⟩, ⟨by decide +kernel, by decide +kernel⟩,
    (by decide +kernel : coreRuns base = true), ⟨by decide +kernel, 0, 0, by decide +kernel, by decide +kernel, by decide +kernel⟩⟩

/-- A value lies within 10^-6 of n / d. -/
def near (x : F64) (n : Int) (d : Nat) : Bool := dle (dabs (dsub x (f64 n d))) (f64 1 1000000)
/-- IEC 60751 gives a PT100 138.5055 ohms at 100 degrees; the release of IAPWS-IF97 prints, for 300 K and 3 MPa, the volume
0.100215168E-2 m3/kg and the enthalpy 115.331273 kJ/kg, and for 1 MPa the saturation temperature 453.035632 K. -/
theorem test_curves : near (platinumTemp (f64 1385055 1000000)) 100 1 = true ∧ near (nickelTemp (f64 1)) 0 1 = true ∧
    near (ddiv (f64 1000) (waterDensity (f64 2685 100) (f64 3))) 100215168 100000000 = true ∧
    near (waterEnthalpy (f64 2685 100) (f64 3)) 115331273 1000000 = true ∧
    near (waterSaturation (f64 1)) 179885632 1000000 = true ∧ cosOf (f64 0) = f64 1 ∧ lnOf (f64 1) = f64 0 := by decide +kernel

/-! ## Well-formed commands -/

/-- A message with one field changed. -/
def bad (f : KdpReq → KdpReq) : Instr := .read (f (msg 1 0x1000 0))
/-- The same for a field of its address. -/
def badAddr (f : KdpAddr → KdpAddr) : Instr := bad fun m => { m with addr := f m.addr }
theorem test_wf_good : (bad id).wf = true ∧ (Instr.tripFrameReceived (tripIn 3)).wf = true ∧ (Instr.portFaultClear 63 8).wf = true := by decide +kernel
theorem test_wf_address : (badAddr fun a => { a with chan := .bus 4 }).wf = false ∧ (badAddr fun a => { a with cls := 8 }).wf = false ∧
    (badAddr fun a => { a with svc := 16 }).wf = false ∧ (badAddr fun a => { a with dst := 128 }).wf = false ∧
    (badAddr fun a => { a with src := 128 }).wf = false ∧ (badAddr fun a => { a with tag := 256 }).wf = false ∧
    (badAddr fun a => { a with flags := 256 }).wf = false := by decide +kernel
theorem test_wf_message : (bad fun m => { m with op := 256 }).wf = false ∧ (bad fun m => { m with index := 65536 }).wf = false ∧
    (bad fun m => { m with sub := 256 }).wf = false ∧ (bad fun m => { m with seq := 256 }).wf = false ∧ (bad fun m => { m with len := 65536 }).wf = false ∧
    (bad fun m => { m with body := List.replicate 57 0 }).wf = false ∧ (bad fun m => { m with badPage := 2 ^ 256 }).wf = false ∧
    (bad fun m => { m with ecc := 2 ^ 256 }).wf = false := by decide +kernel
theorem test_wf_frames : (Instr.tripFrameReceived { plain with path := 4 }).wf = false ∧ (Instr.rawFrameReceived { plain with id := 2048 }).wf = false ∧
    (Instr.kdpForward { routed with id := 2 ^ 29 }).wf = false ∧ (Instr.timeReferenceReceived { plain with data := List.replicate 9 0 }).wf = false ∧
    (Instr.timeFollowUpReceived { routed with data := List.replicate 65 0 }).wf = false ∧ (Instr.publicationReceived plain (2 ^ 256) false).wf = false ∧
    (Instr.publicationReceived { plain with path := 4 } 0 false).wf = false := by decide +kernel
theorem test_wf_requesters : (Instr.statementExpiry (.node 65536 1)).wf = false ∧ (Instr.statementExpiry (.node 1 128)).wf = false ∧
    (Instr.segmentWaitTimeout .service 256).wf = false ∧ (Instr.transferTimeout .service 256).wf = false ∧ (Instr.transferTimeout (.node 65536 1) 1).wf = false := by
  decide +kernel
theorem test_wf_device : (Instr.tick 65536 33 true).wf = false ∧ (Instr.conditionClear 65536).wf = false ∧ (Instr.scrubPage 16 false).wf = false ∧
    (Instr.subscriptionTimeout 64).wf = false ∧ (Instr.publicationPeriodTrigger 64).wf = false ∧ (Instr.publicationChangeTrigger 64).wf = false ∧
    (Instr.inhibitTimeEnd 64).wf = false ∧ (Instr.servicePortSelection [] (2 ^ 256) false 0).wf = false ∧ (Instr.servicePortSelection [] 0 false (2 ^ 256)).wf = false := by decide +kernel
theorem test_wf_service_bytes (b : Bytes) (h : 65536 ≤ b.length) : (Instr.servicePortSelection b 0 false 0).wf = false := by
  simp [Instr.wf]; omega
theorem test_wf_ports : (Instr.portModeEnable 64).wf = false ∧ (Instr.digitalFilterChange 64 true 0).wf = false ∧ (Instr.gateWindowEnd 64).wf = false ∧
    (Instr.stallTimeout 64).wf = false ∧ (Instr.presenceWindowEnd 64).wf = false ∧ (Instr.shuntOverload 64).wf = false ∧ (Instr.shuntReclose 64).wf = false ∧
    (Instr.pwmPeriodBoundary 64).wf = false ∧ (Instr.outputOverloadTimeout 64).wf = false ∧ (Instr.switchOvercurrent 64).wf = false ∧
    (Instr.switchRetry 64).wf = false ∧ (Instr.switchRetrySuccess 64).wf = false ∧ (Instr.driverOverTemperature 64).wf = false ∧
    (Instr.driverRestart 64 0).wf = false ∧ (Instr.actuatorRunEnd 64).wf = false ∧ (Instr.portFaultClear 64 1).wf = false ∧
    (Instr.portFaultClear 0 0).wf = false ∧ (Instr.portFaultClear 0 9).wf = false ∧ (Instr.currentLimitActs 64 true).wf = false := by decide +kernel
theorem test_wf_engines : (Instr.converterTimerTrigger true 8).wf = false ∧ (Instr.pwmEventTrigger 64 0 0).wf = false ∧ (Instr.pwmEventTrigger 0 2 0).wf = false ∧
    (Instr.triggerDelayEnd 8).wf = false ∧ (Instr.slotEnd 8 0 1).wf = false ∧ (Instr.metrologyTakesResult 8 false).wf = false ∧
    (Instr.referenceOutOfTolerance 8 ⟨0, 0⟩).wf = false ∧ (Instr.settlingComplete 8).wf = false ∧ (Instr.laneMeasurementStart 8).wf = false ∧
    (Instr.laneShot 8 shot).wf = false ∧ (Instr.laneMeasurementEnd 8).wf = false ∧ (Instr.laneResultTaken 8).wf = false ∧
    (Instr.meteringPeriodEnd 16).wf = false ∧ (Instr.pulseCounterSecond 32).wf = false ∧ (Instr.loopSampleInstant 96).wf = false ∧
    (Instr.loopRelease 96).wf = false ∧ (Instr.loopJobEnd 96).wf = false ∧ (Instr.loopOutputInstant 96).wf = false ∧ (Instr.highWaterFlush 96).wf = false ∧
    (Instr.zoneEvaluation 32).wf = false ∧ (Instr.presenceSample 32).wf = false ∧ (Instr.occupiedSet 32).wf = false ∧ (Instr.occupiedClear 32).wf = false ∧
    (Instr.requestExpiry 32).wf = false ∧ (Instr.boostEnd 32).wf = false := by decide +kernel
theorem test_wf_paths : (Instr.remoteFrameReceived 4).wf = false ∧ (Instr.frameCompleted 4 0 0).wf = false ∧ (Instr.transmissionError 4 .bit).wf = false ∧
    (Instr.busOffRecovery 4).wf = false ∧ (Instr.transceiverFault 4 0).wf = false ∧ (Instr.transceiverFault 0 256).wf = false ∧
    (Instr.errorPassiveLimit 4).wf = false ∧ (Instr.quietPath 4).wf = false ∧ (Instr.receiveError 4 true).wf = false ∧
    (Instr.transceiverFaultCleared 4).wf = false ∧ (Instr.leaseExpiry 2).wf = false ∧ (Instr.heartbeatDue 2).wf = false ∧ (Instr.pairJoin 2).wf = false ∧
    (Instr.heartbeatLosesArbitration 2).wf = false ∧ (Instr.timeReferenceSend 2).wf = false ∧ (Instr.timeFollowUpSend 2).wf = false ∧
    (Instr.masterResume 2).wf = false ∧ (Instr.pathLossTimeout 2).wf = false ∧ (Instr.pathLossClear 2).wf = false := by decide +kernel
theorem test_wf_rest : (Instr.tamperActivation 2 0).wf = false ∧ (Instr.tamperRearm 2).wf = false ∧ (Instr.tamperLog 2).wf = false ∧
    (Instr.userAlarm 8).wf = false ∧ (Instr.indicatorStep 4).wf = false ∧ (Instr.indicatorFault 4 0).wf = false ∧ (Instr.indicatorFault 0 3).wf = false := by
  decide +kernel

end Sys2Proof.Tests.Slice0
end

namespace Sys2Proof.Machine

/-! ## The order of the checks of a write (R44) -/

/-- The answer of the checks after step 4: the code of the first that fails, else the entry's row. -/
def verdict (r : Row) (code : Option Nat) : Except Nat Row := code.elim (.ok r) .error

@[simp] theorem verdict_some (r : Row) (c : Nat) : verdict r (some c) = .error c := rfl
@[simp] theorem verdict_none (r : Row) : verdict r none = .ok r := rfl

@[simp] theorem firstOf_some_cons (c : Nat) (l : List (Option Nat)) : firstOf (some c :: l) = some c := rfl
@[simp] theorem firstOf_none_cons (l : List (Option Nat)) : firstOf (none :: l) = firstOf l := rfl
@[simp] theorem firstOf_nil : firstOf [] = none := rfl
@[simp] theorem refuse_true (c : Nat) : refuse true c = some c := rfl
@[simp] theorem refuse_false (c : Nat) : refuse false c = none := rfl

section Rows
variable {i j k : Nat} {expert : Bool} {o : Obj} {r : Row}

theorem writableRow_of_no_index (h : objAt i = none) : writableRow i j expert = .error 0x0101 := by
  simp [writableRow, h]

theorem writableRow_of_no_subindex (h : objAt i = some (o, k)) (hr : findRow o.rows j = none) :
    writableRow i j expert = .error 0x0102 := by
  simp [writableRow, h, hr]

theorem writableRow_of_read_only (h : objAt i = some (o, k)) (hr : findRow o.rows j = some r)
    (ha : r.acc = .ro ∨ r.acc = .const) : writableRow i j expert = .error 0x0201 := by
  simp [writableRow, h, hr, ha]

theorem writableRow_of_not_expert (h : objAt i = some (o, k)) (hr : findRow o.rows j = some r) (h1 : r.acc ≠ .ro)
    (h2 : r.acc ≠ .const) (hx : r.isX = true) (he : expert = false) : writableRow i j expert = .error 0x0203 := by
  simp [writableRow, h, hr, h1, h2, hx, he]

theorem writableRow_of_writable (h : objAt i = some (o, k)) (hr : findRow o.rows j = some r) (h1 : r.acc ≠ .ro)
    (h2 : r.acc ≠ .const) (hx : r.isX = true → expert = true) : writableRow i j expert = .ok r := by
  simp only [writableRow, h, hr]
  cases hX : r.isX
  · simp [h1, h2]
  · simp [h1, h2, hx hX]

end Rows

section Checks
variable {s : State} {who : Requester} {i j : Nat} {v : Bytes} {expert taken : Bool} {r : Row}

theorem checkWrite_of_no_row {c : Nat} (h : writableRow i j expert = .error c) : checkWrite s who i j v expert taken = .error c := by
  simp [checkWrite, h]

/-- Steps 5 to 10 of a writable row: the first check that fails decides. -/
theorem checkWrite_of_row (h : writableRow i j expert = .ok r) :
    checkWrite s who i j v expert taken = verdict r (firstOf [refuse (!lengthFits r v.length) 0x0301, typeAbort r v, rangeAbort r v,
      valueAbort s i j v, metrologyAbort s who r, occupiedAbort s who i j r v taken]) := by
  simp only [checkWrite, h, verdict]
  cases firstOf _ <;> rfl

theorem metrologyAbort_of_no_session (hM : r.isM = true) (ho : s.cal.owner ≠ some who) : metrologyAbort s who r = some 0x0402 := by
  have hb : (s.cal.owner != some who) = true := bne_iff_ne.mpr ho
  simp [metrologyAbort, hM, hb]

theorem metrologyAbort_of_session (h : r.isM = true → s.cal.owner = some who) : metrologyAbort s who r = none := by
  cases hM : r.isM
  · simp [metrologyAbort, hM]
  · simp [metrologyAbort, h hM]

theorem occupiedAbort_of_hamper_held (hf : hamperFree s = false) (hn : needsHamper i j r = true) :
    occupiedAbort s who i j r v taken = some 0x0401 := by
  simp [occupiedAbort, hf, hn]

/-- An entry on which no segmented write is regarded answers what the unit's state says. -/
theorem occupiedAbort_of_not_taken (hh : hamperFree s = true ∨ needsHamper i j r = false) (ht : taken = false ∨ injectEntry i j = true) :
    occupiedAbort s who i j r v taken = stateAbort s who i j v := by
  have hb : (!hamperFree s && needsHamper i j r) = false := by rcases hh with h | h <;> simp [h]
  have ht' : (taken && !injectEntry i j) = false := by rcases ht with h | h <;> simp [h]
  simp only [occupiedAbort, hb, ht']
  cases stateAbort s who i j v <;> rfl

/-- A step after the ninth is one of a code 0x05... -/
theorem nine_lt_stepOf (e : Nat) : 9 < stepOf e ↔ e / 256 = 5 := by
  unfold stepOf; split
  · subst e; decide
  · split <;> omega

/-- An entry on which a segmented write is open answers 0x0403, but for what its chapter finds at step 8 or 9. -/
theorem occupiedAbort_of_taken (hh : hamperFree s = true ∨ needsHamper i j r = false) (ht : taken = true) (hi : injectEntry i j = false) :
    occupiedAbort s who i j r v taken = some ((stateAbort s who i j v).elim 0x0403 fun e => if e / 256 = 5 then 0x0403 else e) := by
  have hb : (!hamperFree s && needsHamper i j r) = false := by rcases hh with h | h <;> simp [h]
  simp only [occupiedAbort, hb, ht, hi]
  cases stateAbort s who i j v with
  | none => rfl
  | some e => simp [nine_lt_stepOf]

end Checks

/-- Settles O24: rows first (steps 1 to 4), then each later check under the premise that those before it pass. -/
theorem checksGoInOrder : Obligations.ChecksGoInOrder := by
  unfold Obligations.ChecksGoInOrder
  intro s who i j v expert taken
  refine ⟨fun h => checkWrite_of_no_row (writableRow_of_no_index h), fun o k ho => ⟨fun hr =>
    checkWrite_of_no_row (writableRow_of_no_subindex ho hr), fun r hr => ⟨fun ha =>
    checkWrite_of_no_row (writableRow_of_read_only ho hr ha), fun h1 h2 => ⟨fun hx he =>
    checkWrite_of_no_row (writableRow_of_not_expert ho hr h1 h2 hx he), fun hx => ?_⟩⟩⟩⟩
  rw [checkWrite_of_row (writableRow_of_writable ho hr h1 h2 hx)]
  refine ⟨fun hl => by simp [hl], fun hl => ⟨fun e ht => by simp [hl, ht], fun e ht hg => by simp [hl, ht, hg],
    fun e ht hg hv => by simp [hl, ht, hg, hv], fun ht hg hv => ?_⟩⟩
  simp only [hl, ht, hg, hv, Bool.not_true, refuse_false, firstOf_none_cons]
  refine ⟨fun hM ho => by simp [metrologyAbort_of_no_session hM ho], fun hM => ?_⟩
  rw [metrologyAbort_of_session hM, firstOf_none_cons]
  refine ⟨fun hf hn => by simp [occupiedAbort_of_hamper_held hf hn], fun hh => ⟨?_, ?_, ?_, ?_⟩⟩
  · intro e he ht
    simp [occupiedAbort_of_not_taken hh ht, he]
  · intro e he ht hi
    simp [occupiedAbort_of_taken hh ht hi, he]
  · intro he ht hi
    simp [occupiedAbort_of_taken hh ht hi, he]
  · intro he ht
    simp [occupiedAbort_of_not_taken hh ht, he]

/-! ## Abort codes are never 0

A whole write answers the number 0 for success, so a refusal is an abort only because no check of R44 has the code 0. -/

/-- The outcome of a check is no abort or an abort with a code other than 0. -/
def Coded (code : Option Nat) : Prop := code ≠ some 0

@[simp] theorem coded_none : Coded none := nofun
@[simp] theorem coded_some (c : Nat) : Coded (some c) ↔ c ≠ 0 := by simp [Coded]
@[simp] theorem coded_refuse (b : Bool) (c : Nat) : Coded (refuse b c) ↔ (b = true → c ≠ 0) := by
  cases b <;> simp [refuse]
@[simp] theorem coded_ite (p : Prop) [Decidable p] (a b : Option Nat) : Coded (if p then a else b) ↔ (p → Coded a) ∧ (¬p → Coded b) := by
  split <;> simp_all

@[simp] theorem coded_firstOf_nil : Coded (firstOf []) := coded_none

/-- A list of checks has coded outcomes when each check has, once those before it pass. -/
@[simp] theorem coded_firstOf_cons (a : Option Nat) (l : List (Option Nat)) :
    Coded (firstOf (a :: l)) ↔ Coded a ∧ (a = none → Coded (firstOf l)) := by
  cases a <;> simp [firstOf]

theorem coded_typeAbort (r : Row) (v : Bytes) : Coded (typeAbort r v) := by
  unfold typeAbort; split <;> simp

theorem coded_rangeAbort (r : Row) (v : Bytes) : Coded (rangeAbort r v) := by
  unfold rangeAbort; dsimp only; split <;> simp

theorem coded_metrologyAbort (s : State) (who : Requester) (r : Row) : Coded (metrologyAbort s who r) := by
  simp [metrologyAbort]

section Values
variable (s : State) (i j n : Nat) (v : Bytes)

theorem coded_valueMaps : Coded (valueMaps i j n) := by simp [valueMaps]

theorem coded_valuePorts : Coded (valuePorts s i j n) := by
  unfold valuePorts; dsimp only
  split
  · simp
  · split
    · split <;> simp
    · simp

theorem coded_valueConverters : Coded (valueConverters s i j n) := by
  unfold valueConverters; dsimp only
  repeat' split
  all_goals simp

theorem coded_valueKinds : Coded (valueKinds s i j n) := by simp [valueKinds]

theorem coded_valueLoops : Coded (valueLoops s i j n) := by
  unfold valueLoops; dsimp only
  repeat' split
  all_goals simp

theorem coded_profileAbort : Coded (profileAbort v) := by simp [profileAbort]

theorem coded_testRefused : Coded (testRefused v) := by simp [testRefused]

theorem coded_valueSystem : Coded (valueSystem s i j v) := by
  unfold valueSystem; dsimp only
  split <;> simp [coded_profileAbort, coded_testRefused]

theorem coded_valueDisplay : Coded (valueDisplay s i j v) := by
  simp [valueDisplay, waveRefused, updateMalformed]

theorem coded_valueAbort : Coded (valueAbort s i j v) := by
  simp [valueAbort, coded_valueMaps, coded_valuePorts, coded_valueConverters, coded_valueKinds, coded_valueLoops,
    coded_valueSystem, coded_valueDisplay]

end Values

section States
variable (s : State) (who : Requester) (i j n : Nat) (v : Bytes)

theorem coded_guardMaps : Coded (guardMaps s i j n) := by simp [guardMaps]

theorem coded_guardPorts : Coded (guardPorts s i j n) := by
  unfold guardPorts; dsimp only
  repeat' split
  all_goals simp

theorem coded_guardConverters : Coded (guardConverters s i j n) := by
  unfold guardConverters; dsimp only
  repeat' split
  all_goals simp

theorem coded_guardLanes : Coded (guardLanes s i j n) := by simp [guardLanes]

theorem coded_sessionRefused : Coded (sessionRefused s who n) := by
  unfold sessionRefused; split <;> simp

theorem coded_captureRefused : Coded (captureRefused s) := by simp [captureRefused]

theorem coded_guardMetering : Coded (guardMetering s who i j n) := by
  simp [guardMetering, coded_sessionRefused, coded_captureRefused]

theorem coded_guardLoops : Coded (guardLoops s i j n) := by
  unfold guardLoops; dsimp only
  repeat' split
  all_goals simp

theorem coded_repRefused (l : Nat) : Coded (repRefused s l) := by simp [repRefused]

theorem coded_traceRefused (t : Nat) : Coded (traceRefused s t) := by simp [traceRefused]

theorem coded_guardGroups : Coded (guardGroups s i j n) := by
  unfold guardGroups; dsimp only
  repeat' split
  all_goals simp [coded_repRefused, coded_traceRefused]

theorem coded_guardZones : Coded (guardZones s i j n) := by
  unfold guardZones; dsimp only
  repeat' split
  all_goals simp

theorem coded_updateRefused (len : Nat) (digest : Bytes) : Coded (updateRefused s len digest).1 := by
  unfold updateRefused; dsimp only
  repeat' split
  all_goals simp

theorem coded_guardTrust : Coded (guardTrust s who i j v) := by
  unfold guardTrust; dsimp only
  split <;> simp [onDemandRefused, challengeRefused, blockRefused, coded_updateRefused]

theorem coded_guardSystem : Coded (guardSystem s i j n) := by
  simp [guardSystem, mailRefused, haltRefused, updateRefusedFor]

theorem coded_stateAbort : Coded (stateAbort s who i j v) := by
  simp [stateAbort, coded_guardMaps, coded_guardPorts, coded_guardConverters, coded_guardLanes, coded_guardMetering,
    coded_guardLoops, coded_guardGroups, coded_guardZones, coded_guardTrust, coded_guardSystem]

end States

theorem coded_occupiedAbort (s : State) (who : Requester) (i j : Nat) (r : Row) (v : Bytes) (taken : Bool) :
    Coded (occupiedAbort s who i j r v taken) := by
  unfold occupiedAbort; dsimp only
  split
  · simp
  · have hc := coded_stateAbort s who i j v
    cases h : stateAbort s who i j v with
    | none => simp
    | some c =>
      rw [h] at hc
      simp only [coded_some] at hc ⊢
      split
      · decide
      · exact hc

theorem writableRow_error_ne_zero {i j c : Nat} {expert : Bool} (h : writableRow i j expert = .error c) : c ≠ 0 := by
  unfold writableRow at h
  repeat' split at h
  all_goals cases h
  all_goals decide

theorem verdict_eq_error {r : Row} {a : Option Nat} {c : Nat} : verdict r a = .error c ↔ a = some c := by
  cases a <;> simp

/-- No check of R44 fails with the code 0. -/
theorem checkWrite_error_ne_zero {s : State} {who : Requester} {i j c : Nat} {v : Bytes} {expert taken : Bool}
    (h : checkWrite s who i j v expert taken = .error c) : c ≠ 0 := by
  cases hw : writableRow i j expert with
  | error d =>
    rw [checkWrite_of_no_row hw] at h
    cases h
    exact writableRow_error_ne_zero hw
  | ok r =>
    rw [checkWrite_of_row hw, verdict_eq_error] at h
    have hc : Coded (some c) := by
      rw [← h]
      simp [coded_typeAbort, coded_rangeAbort, coded_valueAbort, coded_metrologyAbort, coded_occupiedAbort]
    exact (coded_some c).mp hc

/-! ## Messages that are taken at once -/

/-- A command that brings a message receives it where it is of the command's kind. -/
theorem exec_eq_message {c : Instr} {m : KdpReq} (s : State) (h : messageOf c = some m) : exec c s = message (fits c s) m s := by
  cases c <;> cases h <;> rfl

/-- A message that arrives goes on, once its frame has been received, if it is addressed to the device. -/
theorem receiveMsg_of_arrives {s : State} {m : KdpReq} (h : arrives s m = true) (ha : addressed (received s m) m = true) :
    receiveMsg s m = arrive (received s m) m := by
  unfold arrives at h
  unfold received at ha ⊢
  unfold receiveMsg
  split at h
  next hc =>
    simp only [hc, Bool.and_eq_true, beq_iff_eq, decide_eq_true_eq] at h ha ⊢
    obtain ⟨hl, hm⟩ := h
    rw [if_neg (by omega), if_pos ha]
  next p hc =>
    simp only [hc, Bool.and_eq_true, Bool.or_eq_true, beq_iff_eq] at h ha ⊢
    obtain ⟨hs, hr⟩ := h
    rw [if_pos hs]
    rcases hq : receiveFrame s (frameOf m p) m.addr.svc with ⟨b, x⟩
    rw [hq] at hr ha
    cases hr
    exact if_pos ha

/-- With nothing waiting, a message that can be taken is processed in the state in which it arrives. -/
theorem arrive_of_takeable {x : State} {m : KdpReq} (hr : m.addr.flags.testBit 1 = false) (hp : m.op ≠ 0x10) (hw : x.kdp.wait = [])
    (ht : takeable x m = true) : arrive x m = processMsg x m := by
  have ht' : takeable (enqueue x m) m = true := ht
  have he : (enqueue x m).kdp.wait = [m] := by simp [enqueue, hw]
  have hx : ({ enqueue x m with kdp := { (enqueue x m).kdp with wait := [] } } : State) = x := by
    rw [← hw]; rfl
  have hd : drainWait (enqueue x m) = processMsg x m := by
    simp only [drainWait, he, List.length_singleton, drainSteps, takeFirst, ht', if_true, hx]
  simp [arrive, hr, hp, hd]

/-- The conditions under which a message is taken at once. -/
theorem takenNow_iff {s : State} {m : KdpReq} : takenNow s m = true ↔ coreRuns s = true ∧ arrives s m = true ∧
    addressed (received s m) m = true ∧ m.addr.flags.testBit 1 = false ∧ m.op ≠ 0x10 ∧ (received s m).kdp.wait = [] ∧
    takeable (received s m) m = true := by
  simp [takenNow, and_assoc]

/-- A message that is taken at once is processed in the state that its reception leaves. -/
theorem receiveMsg_of_takenNow {s : State} {m : KdpReq} (h : takenNow s m = true) : receiveMsg s m = processMsg (received s m) m := by
  obtain ⟨-, harr, hadr, hr, hp, hw, ht⟩ := takenNow_iff.mp h
  rw [receiveMsg_of_arrives harr hadr, arrive_of_takeable hr hp hw ht]

/-- A command whose message is of its kind and is taken at once processes it. -/
theorem runs_processMsg {c : Instr} {m : KdpReq} {s : State} (hc : messageOf c = some m) (hf : fits c s = true)
    (ht : takenNow s m = true) : runs c s (processMsg (received s m) m) := by
  obtain ⟨hrun, -⟩ := takenNow_iff.mp ht
  rw [← receiveMsg_of_takenNow ht]
  exact runs_doneIf (coreRuns s && fits c s) (exec_eq_message s hc) (by rw [hrun, hf]; rfl)

/-! ## Write requests -/

section Requests
variable {x : State} {m : KdpReq} {code : Nat}

theorem processMsg_of_transferAbort (ho : m.op = 2) (h : transferAbort x (requesterOf x m) m.addr.tag = some code) :
    processMsg x m = abortReply x m code := by
  simp [processMsg, ho, h]

theorem processMsg_of_not_served (ho : m.op = 2) (h : transferAbort x (requesterOf x m) m.addr.tag = none)
    (hi : indexServed x m.index = false) : processMsg x m = abortReply x m 0x0101 := by
  simp [processMsg, ho, h, hi]

theorem processMsg_write (ho : m.op = 2) (h : mayProceed x m) : processMsg x m = writeOp x m := by
  obtain ⟨ht, hi⟩ := h
  simp [processMsg, ho, ht, hi]

/-- A write that ends with a code other than 0 is answered with it. -/
theorem writeOp_of_abort {y : State} (h : kdpWrite x (requesterOf x m) m m.payload m.addr.expert false (entryTaken x m.index m.sub) = (code, y))
    (hc : code ≠ 0) : writeOp x m = abortReply y m code := by
  unfold writeOp
  rw [h]
  cases code with
  | zero => exact absurd rfl hc
  | succ n => rfl

theorem writeOp_of_refused (h : judged x m = .error code) : writeOp x m = abortReply x m code := by
  refine writeOp_of_abort ?_ (checkWrite_error_ne_zero h)
  unfold judged at h
  simp only [kdpWrite, h]

theorem writeOp_of_bad_page {r : Row} {y : State} (h : judged x m = .ok r)
    (hp : programWrite (marked (loadTape x (bitList m.badPage)) m) (requesterOf x m) r m m.payload = (false, y)) :
    writeOp x m = abortReply y m 0x0802 := by
  refine writeOp_of_abort ?_ (by decide)
  unfold judged at h
  unfold marked at hp
  simp only [kdpWrite, h, hp]

theorem writeOp_of_hardware_fault {r : Row} {y : State} (h : judged x m = .ok r)
    (hp : programWrite (marked (loadTape x (bitList m.badPage)) m) (requesterOf x m) r m m.payload = (true, y)) (hf : m.hwFault = true) :
    writeOp x m = abortReply y m 0x0801 := by
  refine writeOp_of_abort ?_ (by decide)
  unfold judged at h
  unfold marked at hp
  simp only [kdpWrite, h, hp, hf, if_true]

end Requests

theorem transferAbort_of_open {x : State} {who : Requester} {tag : Nat} (h : (transferOf x who tag).isSome = true) :
    transferAbort x who tag = some 0x0702 := by
  simp [transferAbort, h]

theorem transferAbort_of_too_many {x : State} {who : Requester} {tag : Nat} (h : transferOf x who tag = none)
    (hn : 4 ≤ (x.kdp.transfers.filter fun t => t.who == who).length ∨ 16 ≤ x.kdp.transfers.length) :
    transferAbort x who tag = some 0x0501 := by
  simp [transferAbort, h, refuse, hn]

/-- An abort is a frame in the queue of the service port or of a path. -/
theorem abortReply_same (x : State) (m : KdpReq) (code : Nat) (p : Part) (hs : p ≠ .servicePort) (hp : p ≠ .paths) :
    p.same x (abortReply x m code) :=
  (law_abortReply x m code).same p (covers_bit (L := [.servicePort, .paths]) (by decide) p (by simp [hs, hp]))

/-! ## What page writes leave (R405, R408) -/

/-- From s to t no entry has changed but those in which the storage shows and counts page writes, and no condition but those that
page writes raise and clear. -/
structure StorageOnly (s t : State) : Prop where
  entries : onlyEntries storageEntries s t
  conds : onlyConds storageConds s t

namespace StorageOnly
variable {s t u : State}

theorem refl (s : State) : StorageOnly s s := ⟨onlyEntries.refl _ s, onlyConds.refl _ s⟩

theorem trans (h : StorageOnly s t) (g : StorageOnly t u) : StorageOnly s u := ⟨h.entries.trans g.entries, h.conds.trans g.conds⟩

/-- One more function that changes neither entries nor conditions. -/
theorem same (h : StorageOnly s t) (he : u.ents = t.ents) (hc : u.conds = t.conds) : StorageOnly s u :=
  ⟨h.entries.of_ents he, h.conds.of_conds hc⟩

/-- A law that lists neither entries nor conditions. -/
theorem of_law {T : Nat} (h : Law T s t) (he : T.testBit 3 = false) (hc : T.testBit 9 = false) : StorageOnly s t :=
  (refl s).same (h.ents_eq he) (h.conds_eq hc)

theorem setN (h : StorageOnly s t) {i j : Nat} (n : Nat) (m : (i, j) ∈ storageEntries) : StorageOnly s (setN t i j n) :=
  ⟨onlyEntries_setN i j n m h.entries, h.conds.of_conds (setN_conds ..)⟩

theorem addN (h : StorageOnly s t) {i j : Nat} (n : Nat) (m : (i, j) ∈ storageEntries) : StorageOnly s (addN t i j n) :=
  ⟨onlyEntries_addN i j n m h.entries, h.conds.of_conds (addN_conds ..)⟩

theorem setBit (h : StorageOnly s t) {i j : Nat} (n : Nat) (b : Bool) (m : (i, j) ∈ storageEntries) : StorageOnly s (setBit t i j n b) :=
  ⟨onlyEntries_setBit i j n b m h.entries, h.conds.of_conds (setBit_conds ..)⟩

theorem raiseHeld (h : StorageOnly s t) {c : Nat} (m : c ∈ storageConds) : StorageOnly s (raiseHeld t c) :=
  ⟨h.entries.of_ents (raiseHeld_ents ..), h.conds.trans fun d hd => by
    simp [raised_raiseHeld, (ne_of_mem_of_not_mem m hd).symm]⟩

theorem raise (h : StorageOnly s t) {c : Nat} (m : c ∈ storageConds) : StorageOnly s (raise t c) :=
  ⟨h.entries.of_ents (raise_ents ..), h.conds.trans fun d hd => by
    simp [raised_raise, (ne_of_mem_of_not_mem m hd).symm]⟩

theorem dropCond (h : StorageOnly s t) {c : Nat} (m : c ∈ storageConds) : StorageOnly s (dropCond t c) :=
  ⟨h.entries.of_ents (dropCond_ents ..), h.conds.trans fun d hd => by
    simp [raised_dropCond, (ne_of_mem_of_not_mem m hd).symm]⟩

theorem follow (h : StorageOnly s t) {c : Nat} (b : Bool) (m : c ∈ storageConds) : StorageOnly s (follow t c b) :=
  ⟨h.entries.of_ents (follow_ents ..), h.conds.trans fun d hd => by
    simp [raised_follow, (ne_of_mem_of_not_mem m hd).symm]⟩

end StorageOnly

theorem mem_storageEntries_count {region : Nat} (h : region < 10) : (0x2F18 + region, 1) ∈ storageEntries := by
  simp [storageEntries, h]

theorem regionOf_lt (a : Nat) : regionOf a < 10 := by
  unfold regionOf
  repeat' split
  all_goals decide

theorem recRegion_lt (id : Nat) : recRegion id < 10 := by
  unfold recRegion
  repeat' split
  all_goals decide

theorem placedRegion_lt (p : Placed) : placedRegion p < 10 := by
  cases p with
  | bytes a d => exact regionOf_lt a
  | copy id k c => exact recRegion_lt id
  | cell => exact (by decide : 3 < 10)
  | row => exact (by decide : 8 < 10)

theorem storageOnly_countWrites (s : State) {region : Nat} (n : Nat) (h : region < 10) : StorageOnly s (countWrites s region n) :=
  ((StorageOnly.refl s).addN n (mem_storageEntries_count h)).same rfl rfl

theorem storageOnly_pagesRewritten (s : State) (first n : Nat) : StorageOnly s (pagesRewritten s first n) := by
  unfold pagesRewritten
  dsimp only
  split
  · exact (StorageOnly.refl s).same rfl rfl
  · split
    · refine .dropCond (.setBit ?_ 3 false (by decide)) (by decide)
      exact (StorageOnly.refl s).same rfl rfl
    · exact (StorageOnly.refl s).same rfl rfl

theorem storageOnly_judgeSpares (s : State) : StorageOnly s (judgeSpares s) := by
  unfold judgeSpares
  refine .follow (.follow (.setBit (.setBit (.setN (.setN (.refl s) _ ?_) _ ?_) 1 _ ?_) 2 _ ?_) _ ?_) _ ?_ <;> decide

theorem storageOnly_remapPage (s : State) (page : Nat) : StorageOnly s (remapPage s page).2 := by
  unfold remapPage
  split
  · exact (StorageOnly.refl s).raiseHeld (by decide)
  · rcases h : takeSpare page (s.stor.tape.length + 1) s with ⟨ok, s1⟩
    have h1 : StorageOnly s s1 := .of_law (.of_snd h (law_takeSpare ..)) rfl rfl
    have h3 : StorageOnly s (judgeSpares (dropCond (setBit { s1 with stor := { s1.stor with remap := s1.stor.remap.store } }
        0x2E00 0x01 0 false) 0xC040)) := by
      refine .trans (.dropCond (.setBit ?_ 0 false (by decide)) (by decide)) (storageOnly_judgeSpares _)
      exact h1.same rfl rfl
    dsimp only
    split
    · exact h3.raise (by decide)
    · exact h3

theorem storageOnly_programPage (s : State) (page : Nat) : StorageOnly s (programPage s page).2 := by
  have h : StorageOnly s (readBack s).2 := .of_law (law_readBack s) rfl rfl
  unfold programPage
  split
  next s1 e =>
    rw [e] at h
    exact (h.addN 1 (by decide)).trans (storageOnly_remapPage ..)
  next s1 e =>
    rw [e] at h
    exact h

theorem storageOnly_programRun (n : Nat) (s : State) (page : Nat) : StorageOnly s (programRun n s page).2 := by
  induction n generalizing s page with
  | zero => exact .refl s
  | succ n ih =>
    have h := storageOnly_programPage s page
    unfold programRun
    split
    next s1 e =>
      rw [e] at h
      exact h.trans (ih ..)
    next s1 e =>
      rw [e] at h
      exact h

theorem storageOnly_of_programRun {n page : Nat} {s y : State} {b : Bool} (h : programRun n s page = (b, y)) : StorageOnly s y := by
  have k := storageOnly_programRun n s page
  rwa [h] at k

theorem storageOnly_putInPlace (s : State) (p : Placed) : StorageOnly s (putInPlace s p) := .of_law (law_putInPlace s p) rfl rfl

theorem storageOnly_place (s : State) (p : Placed) : StorageOnly s (place s p) :=
  ((storageOnly_putInPlace s p).trans (storageOnly_countWrites _ _ (placedRegion_lt p))).trans (storageOnly_pagesRewritten ..)

/-- Programming a place either programs its pages, or leaves a record's copy that fails its check. -/
theorem programPlaced_cases {s y : State} {p : Placed} {b : Bool} (h : programPlaced s p = (b, y)) :
    programRun (placedPages p) s (placedAddr p / 128) = (b, y) ∨
    ∃ s1 id k c, p = .copy id k c ∧ programRun (placedPages p) s (placedAddr p / 128) = (false, s1) ∧
      y = putInPlace s1 (.copy id k { c with ok := false }) := by
  unfold programPlaced at h
  split at h
  next s1 e => cases h; exact .inl e
  next s1 id k c e => cases h; exact .inr ⟨s1, id, k, c, rfl, e, rfl⟩
  next s1 _ e => cases h; exact .inl e

theorem storageOnly_programPlaced {s y : State} {p : Placed} {b : Bool} (h : programPlaced s p = (b, y)) : StorageOnly s y := by
  obtain e | ⟨s1, id, k, c, -, e, rfl⟩ := programPlaced_cases h
  · exact storageOnly_of_programRun e
  · exact (storageOnly_of_programRun e).trans (storageOnly_putInPlace ..)

theorem storageOnly_writePlaced (s : State) (p : Placed) : StorageOnly s (writePlaced s p).2 := by
  unfold writePlaced
  split
  next s1 e => exact (storageOnly_programPlaced e).trans (storageOnly_place ..)
  next s1 e => exact storageOnly_programPlaced e

theorem storageOnly_refuseWrite (s : State) (w : Writer) (cls addr : Nat) : StorageOnly s (refuseWrite s w cls addr) :=
  (((StorageOnly.refl s).raiseHeld (by decide)).setN _ (by decide)).setBit 3 true (by decide)

theorem storageOnly_landWrite (s : State) (p : PendWrite) : StorageOnly s (landWrite s p) := by
  unfold landWrite storeTarget
  split
  · exact storageOnly_refuseWrite ..
  · exact storageOnly_writePlaced ..

theorem StorageOnly.foldl_landWrite {s t : State} (h : StorageOnly s t) (l : List PendWrite) : StorageOnly s (l.foldl landWrite t) := by
  induction l generalizing t with
  | nil => exact h
  | cons p l ih => exact ih (h.trans (storageOnly_landWrite t p))

theorem storageOnly_drainTo (s : State) (cls : Nat) : StorageOnly s (drainTo s cls) := by
  unfold drainTo
  refine StorageOnly.foldl_landWrite ?_ _
  exact (StorageOnly.refl s).same rfl rfl

/-! ## The stored value of a record whose new copy fails its check (R411) -/

theorem recFind_id (rs : List Rec) (id : Nat) : (recFind rs id).id = id := by
  induction rs with
  | nil => rfl
  | cons r t ih =>
    unfold recFind
    split
    · assumption
    · exact ih

theorem recFind_recPut_same (rs : List Rec) (x : Rec) : recFind (recPut rs x) x.id = x := by
  induction rs with
  | nil => simp [recPut, recFind]
  | cons r t ih =>
    unfold recPut
    split
    · simp [recFind]
    · split
      · simp [recFind]
      next h => simp [recFind, Ne.symm h, ih]

@[simp] theorem putCopy_id (r : Rec) (k : Nat) (c : Copy) : (r.putCopy k c).id = r.id := by
  unfold Rec.putCopy; split <;> rfl

/-- A copy that fails its check leaves the copy in use, where that one lies in the other slot. -/
theorem inUse_putCopy_of_bad {r : Rec} {k : Nat} {c : Copy} (hc : c.ok = false) (h1 : r.use = 1 → k ≠ 0) (h2 : r.use = 2 → k = 0) :
    (r.putCopy k c).inUse = r.inUse := by
  obtain ⟨id, a, b, use⟩ := r
  by_cases hk : k = 0
  · have hu : use ≠ 1 := fun e => h1 e hk
    simp only [Rec.putCopy, Rec.inUse, hk, hc, if_true]
    split <;> simp_all
  · have hu : use ≠ 2 := fun e => hk (h2 e)
    simp only [Rec.putCopy, Rec.inUse, hk, hc, if_false]
    split <;> simp_all

theorem recValue_of_recs {s t : State} (h : t.stor.recs = s.stor.recs) (id : Nat) : recValue t id = recValue s id := by
  unfold recValue; rw [h]

/-- The slot after that of a sequence is the other one. -/
theorem toNat_succ_mod_two (q : BitVec 32) : (q + 1).toNat % 2 = (q.toNat + 1) % 2 := by
  bv_omega

/-- A record's next copy that fails its check leaves its stored value. -/
theorem recValue_putInPlace_of_bad {s : State} {id : Nat} {c : Copy} {q : Rec} (hq : q = recFind s.stor.recs id) (hc : c.ok = false)
    (h1 : q.use = 1 → q.seqInUse.toNat % 2 = 0) (h2 : q.use = 2 → q.seqInUse.toNat % 2 = 1) :
    recValue (putInPlace s (.copy id ((q.seqInUse + 1).toNat % 2) c)) id = recValue s id := by
  have hid : q.id = id := hq ▸ recFind_id ..
  have hf := recFind_recPut_same s.stor.recs (q.putCopy ((q.seqInUse + 1).toNat % 2) c)
  rw [putCopy_id, hid] at hf
  simp only [recValue, putInPlace, ← hq, hf]
  rw [inUse_putCopy_of_bad hc, hq]
  · intro e
    have := h1 e
    have := toNat_succ_mod_two q.seqInUse
    omega
  · intro e
    have := h2 e
    have := toNat_succ_mod_two q.seqInUse
    omega

/-! ## Steps 11 and 12 of R44 -/

/-- The state in which steps 11 and 12 begin to program pages: the writes that R34 takes before them are done. -/
def drained (z : State) (r : Row) : State := if r.isA || r.isP then drainTo z 4 else z

theorem storageOnly_drained (z : State) (r : Row) : StorageOnly z (drained z r) := by
  unfold drained
  split
  · exact storageOnly_drainTo ..
  · exact .refl z

theorem programRun_recs {n page : Nat} {s y : State} {b : Bool} (h : programRun n s page = (b, y)) : y.stor.recs = s.stor.recs :=
  (Law.of_snd h (law_programRun n s page)).recs_eq rfl

/-- What programming the pages of steps 11 and 12 can do: page writes that leave the records, then at most a copy of the entry's own
record that fails its check, in the slot that R411 writes next. -/
theorem programWrite_cases {z y : State} {who : Requester} {r : Row} {m : KdpReq} {v : Bytes} {b : Bool}
    (h : programWrite z who r m v = (b, y)) :
    ∃ s1, StorageOnly (drained z r) s1 ∧ s1.stor.recs = (drained z r).stor.recs ∧
      (y = s1 ∨ ∃ c : Copy, c.ok = false ∧ y = putInPlace s1 (.copy (keyOf m.index m.sub)
        (((recFind s1.stor.recs (keyOf m.index m.sub)).seqInUse + 1).toNat % 2) c)) := by
  have hd : (if (r.isA || r.isP) = true then drainTo z Writer.core.cls else z) = drained z r := rfl
  simp only [programWrite, hd] at h
  generalize drained z r = d at h ⊢
  rcases e : (if (r.isA && who != .device) = true then programRun 1 d (auditAddr d.audit.count / 128) else (true, d)) with ⟨b1, s1⟩
  rw [e] at h
  have hs : StorageOnly d s1 ∧ s1.stor.recs = d.stor.recs := by
    split at e
    · exact ⟨storageOnly_of_programRun e, programRun_recs e⟩
    · cases e; exact ⟨.refl _, rfl⟩
  obtain ⟨hs1, hr1⟩ := hs
  cases b1 with
  | false => cases h; exact ⟨y, hs1, hr1, .inl rfl⟩
  | true =>
    dsimp only at h
    split at h
    · obtain e2 | ⟨s2, id, k, c, hp, e2, rfl⟩ := programPlaced_cases h
      · exact ⟨y, hs1.trans (storageOnly_of_programRun e2), (programRun_recs e2).trans hr1, .inl rfl⟩
      · cases hp
        refine ⟨s2, hs1.trans (storageOnly_of_programRun e2), (programRun_recs e2).trans hr1, .inr ⟨_, ?_, by rw [programRun_recs e2]⟩⟩
        rfl
    · cases h; exact ⟨y, hs1, hr1, .inl rfl⟩

theorem storageOnly_programWrite {z y : State} {who : Requester} {r : Row} {m : KdpReq} {v : Bytes} {b : Bool}
    (h : programWrite z who r m v = (b, y)) : StorageOnly z y := by
  obtain ⟨s1, hs, -, rfl | ⟨c, -, rfl⟩⟩ := programWrite_cases h
  · exact (storageOnly_drained z r).trans hs
  · exact ((storageOnly_drained z r).trans hs).trans (storageOnly_putInPlace ..)

/-- Programming the pages of a write leaves the stored value of its entry as the writes issued before have left it. -/
theorem recValue_programWrite {z y : State} {who : Requester} {r : Row} {m : KdpReq} {v : Bytes} {b : Bool} {q : Rec}
    (h : programWrite z who r m v = (b, y)) (hq : q = recFind (drained z r).stor.recs (keyOf m.index m.sub))
    (h1 : q.use = 1 → q.seqInUse.toNat % 2 = 0) (h2 : q.use = 2 → q.seqInUse.toNat % 2 = 1) :
    recValue y (keyOf m.index m.sub) = recValue (drained z r) (keyOf m.index m.sub) := by
  obtain ⟨s1, -, hr, rfl | ⟨c, hc, rfl⟩⟩ := programWrite_cases h
  · exact recValue_of_recs hr _
  · rw [← hr] at hq
    rw [← hq, recValue_putInPlace_of_bad hq hc h1 h2, recValue_of_recs hr]

/-- A law that lists no part of the Kiln leaves it. -/
theorem Law.kiln_eq {T : Nat} {s t : State} (h : Law T s t) (hq : T.testBit 22 = false) (hs : T.testBit 23 = false)
    (hr : T.testBit 24 = false) : t.kiln = s.kiln := by
  have e := congrArg (fun x : State => x.kiln) h.frame
  simpa only [erase, hq, hs, hr, cond_false] using e

/-- Settles O23: a taken request is processed at once, each refusal is an abort in the state it leaves, and programming pages is page
writes alone. -/
theorem writeRequestsAreRefused : Obligations.WriteRequestsAreRefused := by
  unfold Obligations.WriteRequestsAreRefused
  refine ⟨?_, ?_, abortReply_same, fun x who tag => ⟨transferAbort_of_open, transferAbort_of_too_many⟩⟩
  · rintro c m s x hc hf ht ho rfl
    have hrun := runs_processMsg hc hf ht
    refine ⟨fun code ha => ?_, fun ha hi => ?_, fun hp => ?_⟩
    · rwa [processMsg_of_transferAbort ho ha] at hrun
    · rwa [processMsg_of_not_served ho ha hi] at hrun
    · rw [processMsg_write ho hp] at hrun
      refine ⟨fun code hj => ?_, ?_⟩
      · rwa [writeOp_of_refused hj] at hrun
      · rintro r y z hj rfl
        refine ⟨fun hw => ?_, fun hw hh => ?_⟩
        · rwa [writeOp_of_bad_page hj hw] at hrun
        · rwa [writeOp_of_hardware_fault hj hw hh] at hrun
  · rintro z y d who r m v b h rfl
    have hl := Law.of_snd h (law_programWrite z who r m v)
    have hs := storageOnly_programWrite h
    exact ⟨hl.audit_eq rfl, hl.kiln_eq rfl rfl rfl, hl.journal_eq rfl, hs.entries, hs.conds,
      fun q hq h1 h2 => recValue_programWrite h hq h1 h2⟩

end Sys2Proof.Machine

namespace Sys2Proof.Machine

/-! ## Entries of other subindices -/

theorem keyOf_ne_of_sub {i j a b : Nat} (h : j % 256 ≠ b % 256) : keyOf i j ≠ keyOf a b := by
  unfold keyOf; omega

namespace onlyEntries
variable {ks ls : List (Nat × Nat)} {s t u : State} {j : Nat}

/-- One more function, whose entries are among those listed. -/
theorem step (h : onlyEntries ls s t) (g : onlyEntries ks t u) (m : ∀ k ∈ ks, k ∈ ls) : onlyEntries ls s u := h.trans (g.mono m)

theorem getBytes_eq (h : onlyEntries ks s t) (m : ∀ k ∈ ks, k.2 % 256 ≠ j % 256) (i : Nat) : getBytes t i j = getBytes s i j :=
  h i j fun k hk => keyOf_ne_of_sub (m k hk)

theorem getN_eq (h : onlyEntries ks s t) (m : ∀ k ∈ ks, k.2 % 256 ≠ j % 256) (i : Nat) : getN t i j = getN s i j :=
  getN_of_bytes (h.getBytes_eq m i)

theorem holds_iff (h : onlyEntries ks s t) (m : ∀ k ∈ ks, k.2 % 256 ≠ j % 256) (i n : Nat) : holds t i j n ↔ holds s i j n := by
  unfold holds; rw [h.getBytes_eq m i]

end onlyEntries

theorem onlyEntries_of_ents {s t : State} (h : t.ents = s.ents) (ks : List (Nat × Nat)) : onlyEntries ks s t :=
  (onlyEntries.refl ks s).of_ents h

/-! ## The state of one port -/

section Ports
variable (s : State) (i j n : Nat) (f : PortSt → PortSt)

theorem portAt_of_ports {s t : State} (h : t.ports = s.ports) (n : Nat) : portAt t n = portAt s n := by
  unfold portAt; rw [h]

@[simp] theorem portAt_setN (k : Nat) : portAt (setN s i j k) n = portAt s n := portAt_of_ports (setN_ports ..) n
@[simp] theorem portAt_setBit (k : Nat) (b : Bool) : portAt (setBit s i j k b) n = portAt s n := portAt_of_ports (setBit_ports ..) n
@[simp] theorem portAt_addN (k : Nat) : portAt (addN s i j k) n = portAt s n := portAt_of_ports (addN_ports ..) n

@[simp] theorem holds_updPort (k : Nat) : holds (updPort s n f) i j k ↔ holds s i j k := Iff.rfl
@[simp] theorem raised_updPort (c : Nat) : raised (updPort s n f) c = raised s c := rfl

/-- What a change of a port leaves of every port, within the bank or not. -/
theorem portAt_updPort_field {α : Type} (g : PortSt → α) {f : PortSt → PortSt} (hf : ∀ p, g (f p) = g p) (m : Nat) :
    g (portAt (updPort s n f) m) = g (portAt s m) := by
  by_cases e : m = n
  · subst e
    by_cases h : m < 64
    · rw [portAt_updPort_same s m f h, hf]
    · simp [portAt, updPort, vUpd, h]
  · rw [portAt_updPort_ne s n m f e]

end Ports

/-! ## The faults and the process value of a port (R102, R111) -/

theorem faultCode_ne {a b : Nat} (n : Nat) (h : a ≠ b) : faultCode a n ≠ faultCode b n := by
  unfold faultCode; omega

section Faults
variable (s : State) (n t : Nat) (v : F32)

theorem onlyEntries_showFaults : onlyEntries [(0x2000 + n, 3), (0x2000 + n, 0x10)] s (showFaults s n) := by
  have hbits : Writes [keyOf (0x2000 + n) 3] s
      (faultOrder.foldl (fun a t => setBit a (0x2000 + n) 0x03 (faultBit t) (hasFault s n t)) s) :=
    .foldl (.refl _ s) fun _ _ _ => writes_setBit _ _ _ _ _
  refine Writes.only (Writes.step (hbits.mono ?_) (writes_setN _ _ _ _) ?_) <;> simp

theorem onlyEntries_setPv : onlyEntries [(0x2000 + n, 2), (0x2000 + n, 3)] s (setPv s n v) :=
  onlyEntries_setBit _ _ _ _ (by simp) (onlyEntries_setF _ _ _ (by simp) (.refl _ s))

theorem onlyEntries_showEstimate : onlyEntries [(0x2000 + n, 2), (0x2000 + n, 3)] s (showEstimate s n) := by
  unfold showEstimate; split <;> exact onlyEntries_setPv _ _ _

theorem onlyEntries_setFault : onlyEntries [(0x2000 + n, 2), (0x2000 + n, 3), (0x2000 + n, 0x10)] s (setFault s n t) := by
  have h : onlyEntries [(0x2000 + n, 2), (0x2000 + n, 3), (0x2000 + n, 0x10)] s (showFaults (raiseHeld s (faultCode t n)) n) :=
    (onlyEntries_of_ents (raiseHeld_ents ..) _).step (onlyEntries_showFaults _ n) (by simp)
  unfold setFault
  dsimp only
  split
  · exact h.step (onlyEntries_setPv _ _ _) (by simp)
  · exact onlyEntries_setBit _ _ _ _ (by simp) h

theorem onlyEntries_clearFault : onlyEntries [(0x2000 + n, 3), (0x2000 + n, 0x10)] s (clearFault s n t) :=
  onlyEntries_setBit _ _ _ _ (by simp) ((onlyEntries_of_ents (dropCond_ents ..) _).trans (onlyEntries_showFaults _ n))

@[simp] theorem raised_showFaults (c : Nat) : raised (showFaults s n) c = raised s c :=
  raised_of_conds ((law_showFaults s n).conds_eq rfl) c

@[simp] theorem raised_setPv (c : Nat) : raised (setPv s n v) c = raised s c := raised_of_conds ((law_setPv s n v).conds_eq rfl) c

@[simp] theorem raised_setFault (c : Nat) : raised (setFault s n t) c = (c == faultCode t n || raised s c) := by
  unfold setFault
  dsimp only
  split <;> simp [raised_raiseHeld]

theorem raised_setFault_same : raised (setFault s n t) (faultCode t n) = true := by simp

@[simp] theorem raised_clearFault (c : Nat) : raised (clearFault s n t) c = (c != faultCode t n && raised s c) := by
  simp [clearFault, raised_dropCond]

@[simp] theorem raised_faultGone (c : Nat) : raised (faultGone s n t) c = raised s c := raised_causeGone ..

theorem onlyConds_setFault {cs : List Nat} (m : faultCode t n ∈ cs) : onlyConds cs s (setFault s n t) := fun c hc => by
  simp [(ne_of_mem_of_not_mem m hc).symm]

theorem onlyConds_clearFault : onlyConds [faultCode t n] s (clearFault s n t) := fun c hc => by
  simp [mt List.mem_singleton.mpr hc]

theorem setPv_ports : (setPv s n v).ports = s.ports := (law_setPv s n v).ports_eq rfl
theorem setFault_ports : (setFault s n t).ports = s.ports := (law_setFault s n t).ports_eq rfl

@[simp] theorem portAt_setFault (m : Nat) : portAt (setFault s n t) m = portAt s m := portAt_of_ports (setFault_ports ..) m
@[simp] theorem portAt_clearFault (m : Nat) : portAt (clearFault s n t) m = portAt s m :=
  portAt_of_ports ((law_clearFault s n t).ports_eq rfl) m
@[simp] theorem portAt_faultGone (m : Nat) : portAt (faultGone s n t) m = portAt s m := rfl
@[simp] theorem portAt_showEstimate (m : Nat) : portAt (showEstimate s n) m = portAt s m :=
  portAt_of_ports ((law_showEstimate s n).ports_eq rfl) m

end Faults

/-! ## Digital inputs (R90 to R93) -/

/-- The state in which a filtered level of port n is known, before its edge is accounted. -/
def levelKnown (s : State) (n : Nat) (level : Bool) (edge : Nat) : State :=
  setN (updPort (advance s edge) n fun p => { p with known := true, changed := edge }) (0x2000 + n) 0x0A level.toNat

/-- The state after a filtered level of port n, before the trip channel of its port follows: the first level is no edge (log 13). -/
def levelTaken (s : State) (n : Nat) (level : Bool) (edge : Nat) : State :=
  if (portAt s n).known then takeEdge (levelKnown s n level edge) n level edge else levelKnown s n level edge

section Edges
variable (s : State) (n : Nat) (level : Bool) (edge : Nat)

/-- Edge count 2000+n.0B after an edge to a level. -/
def edgeCounted : State := if edgeCounts (getN s (0x2040 + n) 0x03) level then addN s (0x2000 + n) 0x0B 1 else s

theorem onlyEntries_showDuty : onlyEntries [(0x2000 + n, 0x0C)] s (showDuty s n) := by
  unfold showDuty
  split
  · split
    · exact onlyEntries_setF _ _ _ (by simp) (.refl _ s)
    · exact .refl _ s
  · exact .refl _ s

/-- Beyond the count, an accounted edge writes at most the duty. -/
theorem onlyEntries_takeEdge : onlyEntries [(0x2000 + n, 0x0C)] (edgeCounted s n level) (takeEdge s n level edge) := by
  have h (f) : onlyEntries [(0x2000 + n, 0x0C)] (edgeCounted s n level) (showDuty (updPort (edgeCounted s n level) n f) n) :=
    (onlyEntries_of_ents (updPort_ents ..) _).trans (onlyEntries_showDuty _ n)
  unfold takeEdge
  dsimp only
  split
  · exact (h _).of_ents rfl
  · exact h _

theorem showDuty_ports : (showDuty s n).ports = s.ports := (law_showDuty s n).ports_eq rfl

/-- An accounted edge leaves whether a level is known, and since when it stands. -/
theorem takeEdge_level (m : Nat) : (portAt (takeEdge s n level edge) m).known = (portAt s m).known ∧
    (portAt (takeEdge s n level edge) m).changed = (portAt s m).changed := by
  have h (f : PortSt → PortSt) (hf : ∀ p, ((f p).known, (f p).changed) = (p.known, p.changed)) :
      ((portAt (showDuty (updPort (edgeCounted s n level) n f) n) m).known,
        (portAt (showDuty (updPort (edgeCounted s n level) n f) n) m).changed) = ((portAt s m).known, (portAt s m).changed) := by
    rw [portAt_of_ports (showDuty_ports ..), portAt_updPort_field _ n (fun p => (p.known, p.changed)) hf]
    unfold edgeCounted
    split <;> simp
  rw [← Prod.mk.injEq]
  unfold takeEdge
  dsimp only
  split <;> exact h _ fun p => by split <;> split <;> rfl

end Edges

section Levels
variable {s : State} {n edge : Nat} {level : Bool}

/-- The entries that a filtered level writes: the level, the edge count and the duty. -/
theorem onlyEntries_levelTaken :
    onlyEntries [(0x2000 + n, 0x0A), (0x2000 + n, 0x0B), (0x2000 + n, 0x0C)] s (levelTaken s n level edge) := by
  have hk : onlyEntries [(0x2000 + n, 0x0A), (0x2000 + n, 0x0B), (0x2000 + n, 0x0C)] s (levelKnown s n level edge) :=
    onlyEntries_setN _ _ _ (by simp) (onlyEntries_of_ents rfl _)
  unfold levelTaken
  split
  · refine onlyEntries.step ?_ (onlyEntries_takeEdge _ n level edge) (by simp)
    unfold edgeCounted
    split
    · exact onlyEntries_addN _ _ _ (by simp) hk
    · exact hk
  · exact hk

/-- A known level writes no entry of another subindex, so that its edge finds them as they were. -/
theorem getN_levelKnown {j : Nat} (i : Nat) (h : j % 256 ≠ 0x0A) : getN (levelKnown s n level edge) i j = getN s i j :=
  getN_setN_ne _ _ _ _ _ _ (keyOf_ne_of_sub h.symm)

theorem levelTaken_of_first (h : (portAt s n).known = false) : levelTaken s n level edge = levelKnown s n level edge := by
  simp [levelTaken, h]

theorem levelTaken_of_later (h : (portAt s n).known = true) :
    levelTaken s n level edge = takeEdge (levelKnown s n level edge) n level edge := by
  simp [levelTaken, h]

theorem edgeCounted_levelKnown_of_counts (h : edgeCounts (getN s (0x2040 + n) 3) level = true) :
    edgeCounted (levelKnown s n level edge) n level = addN (levelKnown s n level edge) (0x2000 + n) 0x0B 1 := by
  simp [edgeCounted, getN_levelKnown, h]

theorem edgeCounted_levelKnown_of_not (h : edgeCounts (getN s (0x2040 + n) 3) level = false) :
    edgeCounted (levelKnown s n level edge) n level = levelKnown s n level edge := by
  simp [edgeCounted, getN_levelKnown, h]

theorem holds_levelTaken (hw : s.entriesWf) : holds (levelTaken s n level edge) (0x2000 + n) 0x0A level.toNat := by
  have hk : holds (levelKnown s n level edge) (0x2000 + n) 0x0A level.toNat := holds_setN _ _ _ _ hw
  unfold levelTaken
  split
  · rw [(onlyEntries_takeEdge _ n level edge).holds_iff (by simp)]
    unfold edgeCounted
    split
    · exact (holds_addN_ne _ _ _ _ _ _ _ (keyOf_ne_of_sub (by decide))).mpr hk
    · exact hk
  · exact hk

/-- A later level whose direction the edge selection takes is counted. -/
theorem holds_count_levelTaken (hw : s.entriesWf) (hk : (portAt s n).known = true)
    (hc : edgeCounts (getN s (0x2040 + n) 3) level = true) :
    holds (levelTaken s n level edge) (0x2000 + n) 0x0B (getN s (0x2000 + n) 0x0B + 1) := by
  rw [levelTaken_of_later hk, (onlyEntries_takeEdge _ n level edge).holds_iff (by simp), edgeCounted_levelKnown_of_counts hc,
    ← getN_levelKnown (s := s) (n := n) (level := level) (edge := edge) (0x2000 + n) (j := 0x0B) (by decide)]
  exact holds_addN _ _ _ _ (entriesWf_setN _ _ _ _ hw)

/-- The first level, and one whose direction the edge selection leaves out, are not counted. -/
theorem getBytes_count_levelTaken (h : (portAt s n).known = false ∨ edgeCounts (getN s (0x2040 + n) 3) level = false) :
    getBytes (levelTaken s n level edge) (0x2000 + n) 0x0B = getBytes s (0x2000 + n) 0x0B := by
  have hl : getBytes (levelKnown s n level edge) (0x2000 + n) 0x0B = getBytes s (0x2000 + n) 0x0B :=
    getBytes_setN_ne _ _ _ _ _ _ (keyOf_ne_of_sub (by decide))
  cases hk : (portAt s n).known with
  | false => rw [levelTaken_of_first hk, hl]
  | true =>
    have hc := h.resolve_left (by simp [hk])
    rw [levelTaken_of_later hk, (onlyEntries_takeEdge _ n level edge).getBytes_eq (by simp), edgeCounted_levelKnown_of_not hc, hl]

theorem levelTaken_level (hn : n < 64) :
    (portAt (levelTaken s n level edge) n).known = true ∧ (portAt (levelTaken s n level edge) n).changed = edge := by
  have hk : (portAt (levelKnown s n level edge) n).known = true ∧ (portAt (levelKnown s n level edge) n).changed = edge := by
    simp [levelKnown, hn]
  unfold levelTaken
  split
  · obtain ⟨h1, h2⟩ := takeEdge_level (levelKnown s n level edge) n level edge n
    rwa [h1, h2]
  · exact hk

theorem le_ref_levelTaken : edge ≤ (levelTaken s n level edge).clock.ref := by
  have hk : edge ≤ (levelKnown s n level edge).clock.ref := by
    rw [levelKnown, setN_clock]
    exact Nat.le_max_right ..
  unfold levelTaken
  split
  · rwa [(law_takeEdge (levelKnown s n level edge) n level edge).clock_eq rfl]
  · exact hk

theorem digitalFilterChange_of_near (h : edge < (portAt s n).changed + filterPeriods s n) :
    exec (.digitalFilterChange n level edge) s = .next s :=
  still_doneIf _ rfl (by simp [h])

theorem runs_digitalFilterChange (hi : islandsRun s = true) (hn : n < 64) (hm : isDigital (portMode s n) = true)
    (he : (portAt s n).modeAt = none) (hd : dueRef s edge = true)
    (hl : (portAt s n).known = true → getN s (0x2000 + n) 0x0A ≠ level.toNat)
    (hf : (portAt s n).changed + filterPeriods s n ≤ edge) :
    runs (.digitalFilterChange n level edge) s (if portMode s n = 5 ∧ getN s (0x2040 + n) 0x18 < 64
      then localChange s (levelTaken s n level edge) (getN s (0x2040 + n) 0x18) n else levelTaken s n level edge) := by
  have hnew : ((portAt s n).known && (getN s (0x2000 + n) 0x0A == level.toNat)) = false := by
    cases hk : (portAt s n).known with
    | false => rfl
    | true => simp only [Bool.true_and, beq_eq_false_iff_ne]; exact hl hk
  exact runs_doneIf _ rfl (by simp only [hi, hn, hm, he, hd, hf, hnew, Option.isNone_none, decide_true, Bool.not_false, Bool.and_self])

end Levels

/-! ## Gate windows, stall, presence and shunts (R89, R92 to R94) -/

section Inputs
variable {s : State} {n : Nat}

/-- The state after the end of a gate window: a running window has given its results. -/
def windowEnded (s : State) (n : Nat) : State :=
  match (portAt s n).window with
  | some w => updPort (windowResult s n (getN s (0x2040 + n) 0x0B)) n fun p => { p with valueStart := refMs * w }
  | none => s

theorem windowEnded_conds (s : State) (n : Nat) : (windowEnded s n).conds = s.conds := by
  unfold windowEnded
  split
  · exact (law_windowResult ..).conds_eq rfl
  · rfl

theorem windowEnded_of_none (h : (portAt s n).window = none) : windowEnded s n = s := by
  simp [windowEnded, h]

theorem windowEnded_ents_of_some (h : (portAt s n).window.isSome = true) :
    (windowEnded s n).ents = (windowResult s n (getN s (0x2040 + n) 0x0B)).ents := by
  obtain ⟨w, hw⟩ := Option.isSome_iff_exists.mp h
  simp [windowEnded, hw]

theorem runs_gateWindowEnd (hi : islandsRun s = true) (hn : n < 64) (hm : portMode s n = 6 ∨ portMode s n = 7 ∨ portMode s n = 15)
    (he : (portAt s n).modeAt = none) (ht : s.clock.tick % getN s (0x2040 + n) 0x0B = 0) (hw : (portAt s n).window ≠ some s.clock.tick) :
    runs (.gateWindowEnd n) s (updPort (windowEnded s n) n fun p =>
      { p with window := some s.clock.tick, accepted := 0, countSel := 0 }) :=
  runs_doneIf _ rfl (by simp [hi, hn, he, ht, hw, hm, or_assoc])

theorem runs_stallTimeout (hi : islandsRun s = true) (hn : n < 64) (hm : portMode s n = 15) (he : (portAt s n).modeAt = none)
    (ht : (portAt s n).lastEdgeTick + getN s (0x2040 + n) 0x0D ≤ s.clock.tick) :
    runs (.stallTimeout n) s (setPv (setFault s n 7) n (f32 0)) :=
  runs_doneIf _ rfl (by simp [hi, hn, hm, he, ht])

theorem runs_presenceWindowEnd (hu : isUp s = true) (hn : n < 64) (hm : portMode s n = 8) (hp : getB s (0x2000 + n) 0x0A = true)
    (ht : (portAt s n).pulses.foldl max 0 + getN s (0x2040 + n) 0x12 ≤ s.clock.tick) :
    runs (.presenceWindowEnd n) s (setN (updPort s n fun p => { p with pulses := [] }) (0x2000 + n) 0x0A 0) :=
  runs_doneIf _ rfl (by simp [hu, hn, hm, hp, ht])

theorem runs_shuntOverload (hu : isUp s = true) (hn : n < 64) (hm : portMode s n = 2) (ht : (portAt s n).shuntTill = none)
    (he : (portAt s n).modeAt = none) :
    runs (.shuntOverload n) s (setFault (updPort s n fun p => { p with shuntTill := some (s.clock.tick + 1000) }) n 3) :=
  runs_doneIf _ rfl (by simp [hu, hn, hm, ht, he])

theorem runs_shuntReclose {t : Nat} (hu : isUp s = true) (hn : n < 64) (ht : (portAt s n).shuntTill = some t) (hd : t ≤ s.clock.tick) :
    runs (.shuntReclose n) s (faultGone (updPort s n fun p => { p with shuntTill := none }) n 3) :=
  runs_doneIf _ rfl (by simp [hu, hn, ht, hd])

end Inputs

/-- Settles O37: what each command of an input runs to, and what that state shows. -/
theorem portInputs : Obligations.PortInputs := by
  unfold Obligations.PortInputs
  refine ⟨?_, ?_, ?_, ?_, ?_, ?_⟩
  · intro n edge level s hi hn hm he hd hl hw
    refine ⟨digitalFilterChange_of_near, fun hf => ⟨levelTaken s n level edge, runs_digitalFilterChange hi hn hm he hd hl hf, ?_⟩⟩
    obtain ⟨hk, hc⟩ := levelTaken_level (s := s) (level := level) (edge := edge) hn
    exact ⟨holds_levelTaken hw, le_ref_levelTaken, hk, hc, onlyEntries_levelTaken, holds_count_levelTaken hw, getBytes_count_levelTaken⟩
  · intro n s hi hn hm he ht hw
    refine ⟨_, runs_gateWindowEnd hi hn hm he ht hw, ?_, ?_, ?_, windowEnded_conds s n, fun h => ?_, windowEnded_ents_of_some⟩
    · simp [hn]
    · simp [hn]
    · simp [hn]
    · rw [updPort_ents, windowEnded_of_none h]
  · intro n s hi hn hm he ht
    refine ⟨_, runs_stallTimeout hi hn hm he ht, by simp, ?_, (setPv_ports ..).trans (setFault_ports ..)⟩
    exact (onlyConds_setFault s n 7 (by simp)).trans fun c _ => raised_setPv ..
  · intro n s hu hn hm hp ht hw
    refine ⟨_, runs_presenceWindowEnd hu hn hm hp ht, holds_setN _ _ _ _ hw, ?_, setN_conds ..⟩
    exact onlyEntries_setN _ _ _ (by simp) (onlyEntries_of_ents (updPort_ents ..) _)
  · intro n s hu hn hm ht he
    exact ⟨_, runs_shuntOverload hu hn hm ht he, by simp [hn], by simp, onlyConds_setFault _ n 3 (by simp)⟩
  · intro n t s hu hn ht hd
    exact ⟨_, runs_shuntReclose hu hn ht hd, by simp [hn], rfl, fun c => raised_faultGone ..⟩

/-! ## PWM periods (R95, R98) -/

section Pwm
variable {s : State} {n : Nat}

/-- The duty that the boundary of port n's running period applies: a staged one whose instant has come, unless the port is tripped. -/
def dutyDue (p : PortSt) : Option F32 := if p.tripped ∨ p.pwmAt < p.dutyFrom then none else p.dutyStaged

/-- The deviation of port n's next period, and the state at its boundary with the free value of a dithered period counted. -/
def ditherDrawn (s : State) (n : Nat) : Int × State :=
  let s0 := advance s (portAt s n).pwmAt
  if getN s (0x2040 + n) 0x13 = 0 then (0, s0)
  else (dither (nominalPeriod s n) (getN s (0x2040 + n) 0x13) (portAt s n).dithered (freshFree s0).1, (freshFree s0).2)

/-- The length of port n's next period. -/
def nextLength (s : State) (n : Nat) : Nat := max 1 ((nominalPeriod s n : Int) + (ditherDrawn s n).1).toNat

/-- The state in which port n's next period has begun, before the safe bit follows. -/
def periodBegun (s : State) (n : Nat) : State :=
  beginPeriod (ditherDrawn s n).2 n (portAt s n).pwmAt (nextLength s n) ((dutyDue (portAt s n)).getD (portAt s n).out)

/-- The state in which the next period has begun and the safe bit has followed an applied duty. -/
def safeBitFollowed (s : State) (n : Nat) : State :=
  if (dutyDue (portAt s n)).isSome then setBit (periodBegun s n) (0x2000 + n) 0x03 12 false else periodBegun s n

/-- The state after the period boundary of port n. -/
def boundaryPassed (s : State) (n : Nat) : State :=
  updPort (safeBitFollowed s n) n fun x =>
    { x with dithered := if getN s (0x2040 + n) 0x13 = 0 then 0 else x.dithered + (ditherDrawn s n).1,
             dutyStaged := if (dutyDue (portAt s n)).isSome then none else (portAt s n).dutyStaged }

theorem runs_pwmPeriodBoundary (hi : islandsRun s = true) (hn : n < 64) (hm : portMode s n = 12 ∨ portMode s n = 13)
    (he : (portAt s n).modeAt = none) (hd : dueRef s (portAt s n).pwmAt = true) (ho : pwmEventOpen s n = false) :
    runs (.pwmPeriodBoundary n) s (boundaryPassed s n) :=
  runs_doneIf _ rfl (by simp [hi, hn, he, hd, ho, hm])

theorem law_ditherDrawn (s : State) (n : Nat) : Law 0x40000000002 s (ditherDrawn s n).2 := by
  have h : Law 0x40000000002 s (advance s (portAt s n).pwmAt) := (law_advance ..).mono rfl
  unfold ditherDrawn
  dsimp only
  split
  · exact h
  · exact h.step (law_freshFree _) rfl

theorem le_ref_ditherDrawn (s : State) (n : Nat) : (portAt s n).pwmAt ≤ (ditherDrawn s n).2.clock.ref := by
  have h : (portAt s n).pwmAt ≤ (advance s (portAt s n).pwmAt).clock.ref := Nat.le_max_right ..
  unfold ditherDrawn
  dsimp only
  split <;> exact h

theorem nominalPeriod_pos (s : State) (n : Nat) : 0 < nominalPeriod s n := by
  unfold nominalPeriod
  split
  · split
    · decide
    · omega
  · decide

theorem nextLength_pos (s : State) (n : Nat) : 0 < nextLength s n := by unfold nextLength; omega

/-- Without dithering every period has the nominal length. -/
theorem nextLength_of_undithered (h : getN s (0x2040 + n) 0x13 = 0) : nextLength s n = nominalPeriod s n := by
  have := nominalPeriod_pos s n
  simp only [nextLength, ditherDrawn, h, if_true]
  omega

theorem dutyDue_of_staged {p : PortSt} (ht : p.tripped = false) (hf : p.dutyFrom ≤ p.pwmAt) : dutyDue p = p.dutyStaged := by
  simp [dutyDue, ht, Nat.not_lt.mpr hf]

theorem dutyDue_of_held {p : PortSt} (h : p.tripped = true ∨ p.pwmAt < p.dutyFrom ∨ p.dutyStaged = none) : dutyDue p = none := by
  unfold dutyDue
  rcases h with h | h | h <;> simp [h]

section Begun
variable (t len m : Nat) (v : F32)

theorem beginPeriod_starts (s : State) (hn : n < 64) : (portAt (beginPeriod s n t len v) n).out = v ∧
    (portAt (beginPeriod s n t len v) n).pwmStart = t ∧ (portAt (beginPeriod s n t len v) n).pwmAt = t + len ∧
    (portAt (beginPeriod s n t len v) n).toldStart = false := by
  simp [beginPeriod, hn]

theorem portAt_beginPeriod_ne (s : State) (h : m ≠ n) : portAt (beginPeriod s n t len v) m = portAt s m :=
  portAt_updPort_ne _ _ _ _ h

end Begun

theorem law_periodBegun (s : State) (n : Nat) : Law 0x40004000002 s (periodBegun s n) :=
  ((law_ditherDrawn s n).mono rfl).step (law_beginPeriod ..) rfl

theorem periodBegun_ents (s : State) (n : Nat) : (periodBegun s n).ents = s.ents := (law_periodBegun s n).ents_eq rfl

theorem portAt_safeBitFollowed (m : Nat) : portAt (safeBitFollowed s n) m = portAt (periodBegun s n) m := by
  unfold safeBitFollowed; split <;> simp

theorem le_ref_boundaryPassed (s : State) (n : Nat) : (portAt s n).pwmAt ≤ (boundaryPassed s n).clock.ref := by
  have hb : (periodBegun s n).clock = (ditherDrawn s n).2.clock := (law_beginPeriod ..).clock_eq rfl
  have hc : (boundaryPassed s n).clock = (periodBegun s n).clock := by
    simp only [boundaryPassed, updPort_clock, safeBitFollowed]
    split <;> simp
  rw [hc, hb]
  exact le_ref_ditherDrawn s n

/-- What the boundary makes of its own port. -/
theorem boundaryPassed_port (s : State) (hn : n < 64) :
    (portAt (boundaryPassed s n) n).out = (dutyDue (portAt s n)).getD (portAt s n).out ∧
    (portAt (boundaryPassed s n) n).dutyStaged = (if (dutyDue (portAt s n)).isSome then none else (portAt s n).dutyStaged) ∧
    (portAt (boundaryPassed s n) n).pwmStart = (portAt s n).pwmAt ∧
    (portAt (boundaryPassed s n) n).pwmAt = (portAt s n).pwmAt + nextLength s n ∧
    (portAt (boundaryPassed s n) n).toldStart = false := by
  obtain ⟨h1, h2, h3, h4⟩ := beginPeriod_starts (portAt s n).pwmAt (nextLength s n) ((dutyDue (portAt s n)).getD (portAt s n).out)
    (ditherDrawn s n).2 hn
  simp only [boundaryPassed, portAt_updPort_same _ n _ hn, portAt_safeBitFollowed]
  exact ⟨h1, trivial, h2, h3, h4⟩

theorem portAt_boundaryPassed_ne (s : State) {m : Nat} (h : m ≠ n) : portAt (boundaryPassed s n) m = portAt s m := by
  rw [boundaryPassed, portAt_updPort_ne _ _ _ _ h, portAt_safeBitFollowed, periodBegun, portAt_beginPeriod_ne _ _ _ _ _ h]
  exact portAt_of_ports ((law_ditherDrawn s n).ports_eq rfl) m

theorem boundaryPassed_conds (s : State) (n : Nat) : (boundaryPassed s n).conds = s.conds := by
  have h : (periodBegun s n).conds = s.conds := (law_periodBegun s n).conds_eq rfl
  simp only [boundaryPassed, updPort_conds, safeBitFollowed]
  split <;> simp [h]

theorem onlyEntries_boundaryPassed (s : State) (n : Nat) : onlyEntries [(0x2000 + n, 3)] s (boundaryPassed s n) := by
  have h : onlyEntries [(0x2000 + n, 3)] s (periodBegun s n) := onlyEntries_of_ents (periodBegun_ents s n) _
  refine onlyEntries.of_ents (t := safeBitFollowed s n) ?_ rfl
  unfold safeBitFollowed
  split
  · exact onlyEntries_setBit _ _ _ _ (by simp) h
  · exact h

/-- A boundary that applies no duty writes no entry. -/
theorem boundaryPassed_ents_of_held (h : dutyDue (portAt s n) = none) : (boundaryPassed s n).ents = s.ents := by
  simp [boundaryPassed, safeBitFollowed, h, periodBegun_ents]

/-- A boundary that applies a duty clears the safe bit. -/
theorem holds_boundaryPassed (hw : s.entriesWf) {v : F32} (h : dutyDue (portAt s n) = some v) :
    holds (boundaryPassed s n) (0x2000 + n) 3 (putBit (getN s (0x2000 + n) 3) 12 false) := by
  simp only [boundaryPassed, holds_updPort, safeBitFollowed, h, Option.isSome_some, if_true]
  rw [← getN_of_ents (periodBegun_ents s n)]
  exact holds_setBit _ _ _ _ _ ((law_periodBegun s n).wf hw)

/-- A boundary that applies a staged duty takes it from the stage and clears the safe bit. -/
theorem boundaryPassed_of_due (hn : n < 64) (hw : s.entriesWf) {v : F32} (h : dutyDue (portAt s n) = some v) :
    (portAt (boundaryPassed s n) n).out = v ∧ (portAt (boundaryPassed s n) n).dutyStaged = none ∧
    holds (boundaryPassed s n) (0x2000 + n) 3 (putBit (getN s (0x2000 + n) 3) 12 false) := by
  obtain ⟨hout, hstaged, -⟩ := boundaryPassed_port s hn
  exact ⟨by simp [hout, h], by simp [hstaged, h], holds_boundaryPassed hw h⟩

/-- A boundary that applies no duty leaves the value, the stage and every entry. -/
theorem boundaryPassed_of_held (hn : n < 64) (h : dutyDue (portAt s n) = none) :
    (portAt (boundaryPassed s n) n).out = (portAt s n).out ∧
    (portAt (boundaryPassed s n) n).dutyStaged = (portAt s n).dutyStaged ∧ (boundaryPassed s n).ents = s.ents := by
  obtain ⟨hout, hstaged, -⟩ := boundaryPassed_port s hn
  exact ⟨by simp [hout, h], by simp [hstaged, h], boundaryPassed_ents_of_held h⟩

end Pwm

/-! ## Current limits (R97) -/

section Limits
variable {s : State} {n : Nat}

/-- Port n with status bit 9 as its current limit acts or not. -/
def limitShown (s : State) (n : Nat) (on : Bool) : State := setBit s (0x2000 + n) 0x03 9 on

/-- The state after the current limit of port n begins or ends to act. -/
def limitFollowed (s : State) (n : Nat) (on : Bool) : State :=
  if on then
    updPort (if hasFault (limitShown s n on) n 3 then raiseHeld (limitShown s n on) (faultCode 3 n) else limitShown s n on) n fun p =>
      { p with limitSince := some s.clock.tick, limitLast := s.clock.tick }
  else faultGone (updPort (limitShown s n on) n fun p => { p with limitSince := none, limitLast := s.clock.tick }) n 3

theorem runs_currentLimitActs {on : Bool} (hu : isUp s = true) (hn : n < 64) (hm : portMode s n = 11)
    (hl : (portAt s n).limitSince.isSome ≠ on) : runs (.currentLimitActs n on) s (limitFollowed s n on) :=
  runs_doneIf _ rfl (by simp [hu, hn, hm, hl])

theorem limitFollowed_ents (s : State) (n : Nat) (on : Bool) : (limitFollowed s n on).ents = (limitShown s n on).ents := by
  unfold limitFollowed
  split
  · rw [updPort_ents]; split <;> simp
  · rfl

theorem holds_limitFollowed {on : Bool} (hw : s.entriesWf) :
    holds (limitFollowed s n on) (0x2000 + n) 3 (putBit (getN s (0x2000 + n) 3) 9 on) :=
  (holds_of_ents (limitFollowed_ents s n on) ..).mpr (holds_setBit _ _ _ _ _ hw)

theorem onlyEntries_limitFollowed (s : State) (n : Nat) (on : Bool) : onlyEntries [(0x2000 + n, 3)] s (limitFollowed s n on) :=
  (onlyEntries_setBit _ _ _ _ (by simp) (.refl _ s)).of_ents (limitFollowed_ents s n on)

theorem limitSince_limitFollowed (s : State) (on : Bool) (hn : n < 64) :
    (portAt (limitFollowed s n on) n).limitSince = if on then some s.clock.tick else none := by
  unfold limitFollowed
  split <;> simp [hn]

theorem raised_limitFollowed (s : State) (n : Nat) (on : Bool) (c : Nat) : raised (limitFollowed s n on) c = raised s c := by
  have h : raised (limitShown s n on) c = raised s c := raised_setBit ..
  unfold limitFollowed
  split
  · rw [raised_updPort]
    split
    next hf =>
      rw [raised_raiseHeld, h]
      by_cases e : c = faultCode 3 n
      · subst e
        rw [show raised s _ = true from h ▸ hf, Bool.or_true]
      · simp [e]
    · exact h
  · rw [raised_faultGone, raised_updPort, h]

theorem runs_outputOverloadTimeout {t : Nat} (hu : isUp s = true) (hn : n < 64) (hm : portMode s n = 11)
    (hl : (portAt s n).limitSince = some t) (ht : t + 10 ≤ s.clock.tick) : runs (.outputOverloadTimeout n) s (setFault s n 3) :=
  runs_doneIf _ rfl (by simp [hu, hn, hm, hl, ht])

end Limits

/-! ## Low-side switches (R99) -/

section Switches
variable {s : State} {n : Nat}

/-- The state after an overcurrent of switch n: within a retry's second a failed retry, the tenth of which latches the switch off. -/
def overcurrentTaken (s : State) (n : Nat) : State :=
  let failed := setN (setFault s n 3) (0x2040 + n) 0x20 (min 10 (getN s (0x2040 + n) 0x20 + 1))
  if (portAt s n).retryRun.isSome then
    if 10 ≤ getN s (0x2040 + n) 0x20 + 1 then updPort (setFault failed n 8) n fun p => { p with retryAt := none, retryRun := none }
    else updPort failed n fun p => { p with retryAt := some (s.clock.tick + 1000), retryRun := none }
  else updPort (setFault s n 3) n fun p => { p with retryAt := some (s.clock.tick + 1000), retryRun := none }

theorem runs_switchOvercurrent (hu : isUp s = true) (hn : n < 64) (hm : portMode s n = 13) (hr : (portAt s n).retryAt = none)
    (hf : hasFault s n 8 = false) (hh : (portAt s n).hot = false) : runs (.switchOvercurrent n) s (overcurrentTaken s n) :=
  runs_doneIf _ rfl (by simp [hu, hn, hm, hr, hf, hh])

theorem raised_overload_overcurrentTaken (s : State) (n : Nat) : raised (overcurrentTaken s n) (faultCode 3 n) = true := by
  unfold overcurrentTaken
  dsimp only
  split
  · split <;> simp
  · simp

theorem onlyConds_overcurrentTaken (s : State) (n : Nat) : onlyConds [faultCode 3 n, faultCode 8 n] s (overcurrentTaken s n) := by
  have h3 : onlyConds [faultCode 3 n, faultCode 8 n] s (setFault s n 3) := onlyConds_setFault s n 3 (by simp)
  unfold overcurrentTaken
  dsimp only
  split
  · have hk := h3.of_conds (setN_conds (setFault s n 3) (0x2040 + n) 0x20 (min 10 (getN s (0x2040 + n) 0x20 + 1)))
    split
    · exact (hk.trans (onlyConds_setFault _ n 8 (by simp))).of_conds rfl
    · exact hk.of_conds rfl
  · exact h3.of_conds rfl

theorem retryRun_overcurrentTaken (s : State) (hn : n < 64) : (portAt (overcurrentTaken s n) n).retryRun = none := by
  unfold overcurrentTaken
  dsimp only
  split
  · split <;> simp [hn]
  · simp [hn]

/-- The overload alone latches no switch off. -/
theorem latched_setFault_overload (s : State) (n : Nat) : raised (setFault s n 3) (faultCode 8 n) = hasFault s n 8 := by
  simp [faultCode_ne n (show 8 ≠ 3 by decide), hasFault]

theorem entriesWf_setFault (t : Nat) (hw : s.entriesWf) : (setFault s n t).entriesWf := (law_setFault s n t).wf hw

/-- Outside a retry the switch retries after 1 000 ticks. -/
theorem overcurrentTaken_of_no_retry (hn : n < 64) (hf : hasFault s n 8 = false) (h : (portAt s n).retryRun = none) :
    (portAt (overcurrentTaken s n) n).retryAt = some (s.clock.tick + 1000) ∧ raised (overcurrentTaken s n) (faultCode 8 n) = false := by
  have e : overcurrentTaken s n = updPort (setFault s n 3) n fun p =>
      { p with retryAt := some (s.clock.tick + 1000), retryRun := none } := by
    simp [overcurrentTaken, h]
  rw [e, raised_updPort, latched_setFault_overload]
  exact ⟨by simp [hn], hf⟩

/-- A failed retry before the tenth is counted, and the switch retries again. -/
theorem overcurrentTaken_of_retry (hn : n < 64) (hf : hasFault s n 8 = false) (hw : s.entriesWf)
    (h : (portAt s n).retryRun.isSome = true) (hk : getN s (0x2040 + n) 0x20 < 9) :
    (portAt (overcurrentTaken s n) n).retryAt = some (s.clock.tick + 1000) ∧ raised (overcurrentTaken s n) (faultCode 8 n) = false ∧
    holds (overcurrentTaken s n) (0x2040 + n) 0x20 (getN s (0x2040 + n) 0x20 + 1) := by
  have e : overcurrentTaken s n = updPort (setN (setFault s n 3) (0x2040 + n) 0x20 (getN s (0x2040 + n) 0x20 + 1)) n fun p =>
      { p with retryAt := some (s.clock.tick + 1000), retryRun := none } := by
    simp only [overcurrentTaken, h, if_true]
    rw [if_neg (by omega), Nat.min_eq_right (by omega)]
  rw [e, raised_updPort, raised_setN, latched_setFault_overload]
  exact ⟨by simp [hn], hf, holds_setN _ _ _ _ (entriesWf_setFault 3 hw)⟩

/-- The tenth failed retry latches the switch off. -/
theorem overcurrentTaken_of_last_retry (hn : n < 64) (hw : s.entriesWf) (h : (portAt s n).retryRun.isSome = true)
    (hk : 9 ≤ getN s (0x2040 + n) 0x20) :
    (portAt (overcurrentTaken s n) n).retryAt = none ∧ raised (overcurrentTaken s n) (faultCode 8 n) = true ∧
    holds (overcurrentTaken s n) (0x2040 + n) 0x20 10 := by
  have e : overcurrentTaken s n = updPort (setFault (setN (setFault s n 3) (0x2040 + n) 0x20 10) n 8) n fun p =>
      { p with retryAt := none, retryRun := none } := by
    simp only [overcurrentTaken, h, if_true]
    rw [if_pos (by omega), Nat.min_eq_left (by omega)]
  rw [e]
  refine ⟨by simp [hn], by simp, ?_⟩
  exact ((onlyEntries_setFault _ n 8).holds_iff (by simp) _ _).mpr (holds_setN _ _ _ _ (entriesWf_setFault 3 hw))

theorem runs_switchRetry {t : Nat} (hu : isUp s = true) (hn : n < 64) (hm : portMode s n = 13) (hr : (portAt s n).retryAt = some t)
    (ht : t ≤ s.clock.tick) :
    runs (.switchRetry n) s (updPort s n fun p => { p with retryAt := none, retryRun := some s.clock.tick }) :=
  runs_doneIf _ rfl (by simp [hu, hn, hm, hr, ht])

/-- The state after the success of a retry. -/
def retrySucceeded (s : State) (n : Nat) : State :=
  clearFault (setN (updPort s n fun p => { p with retryRun := none }) (0x2040 + n) 0x20 0) n 3

theorem runs_switchRetrySuccess {t : Nat} (hu : isUp s = true) (hn : n < 64) (hm : portMode s n = 13) (hh : (portAt s n).hot = false)
    (hr : (portAt s n).retryRun = some t) (ht : t + 1000 ≤ s.clock.tick) :
    runs (.switchRetrySuccess n) s (retrySucceeded s n) :=
  runs_doneIf _ rfl (by simp [hu, hn, hm, hh, hr, ht])

end Switches

/-! ## Drivers (R99) -/

section Drivers
variable {s t : State} {n e : Nat}

/-- The state after over-temperature has turned the driver of port n off. -/
def driverHeated (s : State) (n : Nat) : State := setFault (driverOff (updPort s n fun p => { p with hot := true }) n) n 5

theorem runs_driverOverTemperature (hu : isUp s = true) (hn : n < 64)
    (ho : isOutput (portMode s n) = true ∨ (actuatorOf s n).isSome = true) (hh : (portAt s n).hot = false) :
    runs (.driverOverTemperature n) s (driverHeated s n) :=
  runs_doneIf _ rfl (by simp [hu, hn, ho, hh])

theorem driverOff_conds (s : State) (n : Nat) : (driverOff s n).conds = s.conds := (law_driverOff s n).conds_eq rfl

theorem onlyConds_driverHeated {cs : List Nat} (s : State) (m : faultCode 5 n ∈ cs) : onlyConds cs s (driverHeated s n) := by
  have h : onlyConds cs s (driverOff (updPort s n fun p => { p with hot := true }) n) :=
    (onlyConds.refl cs s).of_conds ((driverOff_conds ..).trans (updPort_conds ..))
  exact h.trans (onlyConds_setFault _ n 5 m)

/-- A port drives a line of its own pair or of that of the port before it. -/
theorem actuatorOf_cases (h : actuatorOf s n = some e) : e = n ∨ e = n - 1 := by
  unfold actuatorOf at h
  split at h
  · cases h; exact .inl rfl
  · split at h
    · cases h; exact .inr rfl
    · cases h

/-- The pair of a port hangs on the modes alone and on the even port's being enabled. -/
theorem actuatorOf_congr (hm : ∀ k, portMode t k = portMode s k) (he : ∀ k, (portAt t k).modeAt = (portAt s k).modeAt) :
    actuatorOf t n = actuatorOf s n := by
  have hp : pairedOdd t n = pairedOdd s n := by
    have h := he (n - 1)
    unfold portAt at h
    simp only [pairedOdd, hm, h]
  simp only [actuatorOf, hm, hp]

/-- What a driver that runs again does: nothing where it drives no line of a pair, else its pair homes or moves on. -/
theorem driverOn_cases (s : State) (n : Nat) : driverOn s n = s ∨
    ∃ e, actuatorOf s n = some e ∧ (driverOn s n = startHoming s e ∨ driverOn s n = startMove s e) := by
  generalize hd : driverOn s n = d
  unfold driverOn at hd
  split at hd
  · exact .inl hd.symm
  next e he =>
    split at hd
    · exact .inl hd.symm
    · split at hd
      · exact .inr ⟨e, he, .inl hd.symm⟩
      · exact .inr ⟨e, he, .inr hd.symm⟩

theorem onlyEntries_startHoming (s : State) (e : Nat) : onlyEntries [(0x2000 + e, 2), (0x2000 + e, 3)] s (startHoming s e) :=
  onlyEntries.trans (onlyEntries_setBit _ _ _ _ (by simp) (onlyEntries_of_ents (updPort_ents ..) _)) (onlyEntries_showEstimate _ e)

theorem startMove_ents (s : State) (e : Nat) : (startMove s e).ents = s.ents := (law_startMove s e).ents_eq rfl

theorem hot_startHoming (s : State) (e m : Nat) : (portAt (startHoming s e) m).hot = (portAt s m).hot := by
  unfold startHoming
  rw [portAt_showEstimate, portAt_setBit]
  exact portAt_updPort_field s e PortSt.hot (fun _ => by rfl) m

theorem hot_startMove (s : State) (e m : Nat) : (portAt (startMove s e) m).hot = (portAt s m).hot := by
  unfold startMove
  dsimp only
  split
  next =>
    generalize moveMs s e _ = ms
    split
    · rfl
    · split <;> exact portAt_updPort_field s e PortSt.hot (fun _ => by rfl) m
  · rfl

theorem onlyEntries_driverOn (s : State) (n : Nat) : onlyEntries
    [(0x2000 + n, 2), (0x2000 + n, 3), (0x2000 + (n - 1), 2), (0x2000 + (n - 1), 3)] s (driverOn s n) := by
  obtain h | ⟨e, he, h | h⟩ := driverOn_cases s n <;> rw [h]
  · exact .refl _ s
  · refine (onlyEntries_startHoming s e).mono ?_
    obtain rfl | rfl := actuatorOf_cases he <;> simp
  · exact onlyEntries_of_ents (startMove_ents s e) _

theorem driverOn_of_no_pair (h : actuatorOf s n = none) : driverOn s n = s := by
  simp [driverOn, h]

theorem hot_driverOn (s : State) (n m : Nat) : (portAt (driverOn s n) m).hot = (portAt s m).hot := by
  obtain h | ⟨e, -, h | h⟩ := driverOn_cases s n <;> rw [h]
  · exact hot_startHoming s e m
  · exact hot_startMove s e m

theorem driverOn_conds (s : State) (n : Nat) : (driverOn s n).conds = s.conds := (law_driverOn s n).conds_eq rfl

/-- Port n with its driver on again, before the pair it drives a line of goes on. -/
def driverCooled (s : State) (n : Nat) : State :=
  clearFault (updPort s n fun p => { p with hot := false, retryRun := p.retryRun.map fun _ => s.clock.tick }) n 5

theorem runs_driverRestart {cooled : Nat} (hu : isUp s = true) (hn : n < 64) (hh : (portAt s n).hot = true)
    (ht : cooled + 1000 ≤ s.clock.tick) : runs (.driverRestart n cooled) s (driverOn (driverCooled s n) n) :=
  runs_doneIf _ rfl (by simp [hu, hn, hh, ht])

theorem onlyEntries_driverCooled (s : State) (n : Nat) : onlyEntries [(0x2000 + n, 3), (0x2000 + n, 0x10)] s (driverCooled s n) :=
  (onlyEntries_of_ents (updPort_ents ..) _).trans (onlyEntries_clearFault _ n 5)

theorem actuatorOf_driverCooled (s : State) (n : Nat) : actuatorOf (driverCooled s n) n = actuatorOf s n := by
  refine actuatorOf_congr (fun k => (onlyEntries_driverCooled s n).getN_eq (by simp) _) fun k => ?_
  rw [driverCooled, portAt_clearFault]
  exact portAt_updPort_field s n PortSt.modeAt (fun _ => by rfl) k

theorem runs_portFaultClear {k : Nat} (hu : isUp s = true) (hn : n < 64) (h1 : 1 ≤ k) (h8 : k ≤ 8)
    (hc : ∃ x ∈ s.conds, x.code = faultCode k n ∧ x.cause = false ∧ x.since + 1000 ≤ s.clock.tick) :
    runs (.portFaultClear n k) s (clearFault s n k) :=
  runs_doneIf _ rfl (by simpa [hu, hn, h1, h8, and_assoc] using hc)

end Drivers

/-! ## Actuators (R100) -/

section Actuators
variable {s : State} {n t : Nat}

/-- Port n at the end of its run, with its line still and its estimate at e. -/
def runEnded (s : State) (n e : Nat) : State := updPort s n fun p => { p with line := .still, estimate := some e }

/-- The state after the homing run of pair n: the estimate is 0 and bit 13 clear. -/
def homed (s : State) (n : Nat) : State := setBit (runEnded s n 0) (0x2000 + n) 0x03 13 false

/-- Port n at the end of its dead time, driven in no direction last. -/
def deadTimeEnded (s : State) (n : Nat) : State := updPort s n fun p => { p with line := .still, lastDir := none }

theorem runEnded_port (s : State) (e : Nat) (hn : n < 64) :
    (portAt (runEnded s n e) n).estimate = some e ∧ (portAt (runEnded s n e) n).line = .still := by
  simp [runEnded, hn]

theorem homed_port (s : State) (hn : n < 64) : (portAt (homed s n) n).estimate = some 0 ∧ (portAt (homed s n) n).line = .still := by
  simpa [homed] using runEnded_port s 0 hn

theorem line_deadTimeEnded (s : State) (hn : n < 64) : (portAt (deadTimeEnded s n) n).line = .still := by
  simp [deadTimeEnded, hn]

section
variable (hi : islandsRun s = true) (hn : n < 64) (hm : portMode s n = 14) (ht : t ≤ s.clock.tick)
include hi hn hm ht

theorem runs_actuatorRunEnd_homing (hl : (portAt s n).line = .homing t) :
    runs (.actuatorRunEnd n) s (startMove (showEstimate (homed s n) n) n) := by
  show execActuatorRunEnd n s = _
  simp only [execActuatorRunEnd, hl, hi, hn, hm, ht]
  rfl

theorem runs_actuatorRunEnd_opening (hl : (portAt s n).line = .opening t) (hp : (portAt s n).target = 100000) :
    runs (.actuatorRunEnd n) s (startMove (showEstimate (runEnded s n 100000) n) n) := by
  show execActuatorRunEnd n s = _
  simp only [execActuatorRunEnd, hl, hi, hn, hm, ht, hp]
  rfl

theorem runs_actuatorRunEnd_closing (hl : (portAt s n).line = .closing t) (hp : (portAt s n).target = 0) :
    runs (.actuatorRunEnd n) s (startMove (showEstimate (runEnded s n 0) n) n) := by
  show execActuatorRunEnd n s = _
  simp only [execActuatorRunEnd, hl, hi, hn, hm, ht, hp]
  rfl

theorem runs_actuatorRunEnd_dead (hl : (portAt s n).line = .dead t) :
    runs (.actuatorRunEnd n) s (startMove (deadTimeEnded s n) n) := by
  show execActuatorRunEnd n s = _
  simp only [execActuatorRunEnd, hl, hi, hn, hm, ht]
  rfl

end

end Actuators

/-! ## What a cleared fault leaves (R99, R102) -/

section Clears
variable {s : State} {n k : Nat}

/-- The entries that the clearing of a fault of port n may write, with those of the pair that its driver drives a line of. -/
def clearEntries (n : Nat) : List (Nat × Nat) :=
  [(0x2000 + n, 2), (0x2000 + n, 3), (0x2000 + n, 0x10), (0x2040 + n, 0x20), (0x2000 + (n - 1), 2), (0x2000 + (n - 1), 3)]

/-- Those of them that are the port's own. -/
def ownClearEntries (n : Nat) : List (Nat × Nat) := [(0x2000 + n, 3), (0x2000 + n, 0x10), (0x2040 + n, 0x20)]

/-- From s to u fault k of port n is cleared: no other condition changes, and entries change only as its clearing may write them. -/
structure Cleared (k n : Nat) (s u : State) : Prop where
  absent : raised u (faultCode k n) = false
  conds : onlyConds [faultCode k n] s u
  entries : onlyEntries (clearEntries n) s u
  own : actuatorOf s n = none → onlyEntries (ownClearEntries n) s u

/-- A port's own entries are within both lists. -/
theorem Cleared.of_own {u : State} (ha : raised u (faultCode k n) = false) (hc : onlyConds [faultCode k n] s u)
    (he : onlyEntries (ownClearEntries n) s u) : Cleared k n s u :=
  ⟨ha, hc, he.mono (by simp [ownClearEntries, clearEntries]), fun _ => he⟩

theorem onlyEntries_clearFault_own (s : State) (n k : Nat) : onlyEntries (ownClearEntries n) s (clearFault s n k) :=
  (onlyEntries_clearFault s n k).mono (by simp [ownClearEntries])

theorem cleared_clearFault (s : State) (n k : Nat) : Cleared k n s (clearFault s n k) :=
  .of_own (by simp) (onlyConds_clearFault s n k) (onlyEntries_clearFault_own s n k)

theorem cleared_retrySucceeded (s : State) (n : Nat) : Cleared 3 n s (retrySucceeded s n) := by
  refine .of_own (by simp [retrySucceeded]) ?_ ?_
  · exact (onlyConds.of_conds (.refl _ s) (by simp)).trans (onlyConds_clearFault _ n 3)
  · refine onlyEntries.trans ?_ (onlyEntries_clearFault_own _ n 3)
    exact onlyEntries_setN _ _ _ (by simp [ownClearEntries]) (onlyEntries_of_ents (updPort_ents ..) _)

theorem retryRun_retrySucceeded (s : State) (hn : n < 64) : (portAt (retrySucceeded s n) n).retryRun = none := by
  simp [retrySucceeded, hn]

theorem holds_retrySucceeded (hw : s.entriesWf) : holds (retrySucceeded s n) (0x2040 + n) 0x20 0 :=
  ((onlyEntries_clearFault _ n 3).holds_iff (by simp) _ _).mpr (holds_setN _ _ _ _ hw)

theorem raised_driverCooled (s : State) (n c : Nat) : raised (driverCooled s n) c = (c != faultCode 5 n && raised s c) :=
  raised_clearFault ..

theorem cleared_driverOn_driverCooled (s : State) (n : Nat) : Cleared 5 n s (driverOn (driverCooled s n) n) := by
  have hr (c : Nat) : raised (driverOn (driverCooled s n) n) c = (c != faultCode 5 n && raised s c) :=
    (raised_of_conds (driverOn_conds ..) c).trans (raised_driverCooled s n c)
  have he : onlyEntries (ownClearEntries n) s (driverCooled s n) :=
    (onlyEntries_driverCooled s n).mono (by simp [ownClearEntries])
  refine ⟨by simp [hr], fun c hc => ?_, ?_, fun h => ?_⟩
  · simp [hr, mt List.mem_singleton.mpr hc]
  · exact (he.mono (by simp [ownClearEntries, clearEntries])).step (onlyEntries_driverOn _ n) (by simp [clearEntries])
  · rwa [driverOn_of_no_pair ((actuatorOf_driverCooled s n).trans h)]

theorem hot_driverOn_driverCooled (s : State) (hn : n < 64) : (portAt (driverOn (driverCooled s n) n) n).hot = false := by
  simp [hot_driverOn, driverCooled, hn]

end Clears

/-- Settles O38: what each command of an output runs to, and what that state shows. -/
theorem portOutputs : Obligations.PortOutputs := by
  unfold Obligations.PortOutputs
  refine ⟨?_, ?_, ?_, ?_, ?_, ?_, ?_⟩
  · intro n s hi hn hm he hd ho hw
    obtain ⟨-, -, hstart, hat, htold⟩ := boundaryPassed_port s hn
    have hlen := nextLength_pos s n
    exact ⟨_, runs_pwmPeriodBoundary hi hn hm he hd ho, by omega, le_ref_boundaryPassed s n, hstart, htold,
      fun h => by rw [hat, nextLength_of_undithered h],
      fun ht hf v hv => boundaryPassed_of_due hn hw ((dutyDue_of_staged ht hf).trans hv),
      fun h => boundaryPassed_of_held hn (dutyDue_of_held h),
      fun k => portAt_boundaryPassed_ne s, onlyEntries_boundaryPassed s n, boundaryPassed_conds s n⟩
  · intro n on s hu hn hm hl hw
    exact ⟨_, runs_currentLimitActs hu hn hm hl, holds_limitFollowed hw, limitSince_limitFollowed s on hn,
      onlyEntries_limitFollowed s n on, raised_limitFollowed s n on⟩
  · rintro c n t k s hu hn (⟨rfl, rfl, hm, hl, ht⟩ | ⟨rfl, rfl, hm, hr, hf, hh⟩ | ⟨rfl, rfl, ho, hh⟩)
    · exact ⟨_, runs_outputOverloadTimeout hu hn hm hl ht, raised_setFault_same .., onlyConds_setFault s n 3 (by simp)⟩
    · exact ⟨_, runs_switchOvercurrent hu hn hm hr hf hh, raised_overload_overcurrentTaken s n, onlyConds_overcurrentTaken s n⟩
    · exact ⟨_, runs_driverOverTemperature hu hn ho hh, raised_setFault_same .., onlyConds_driverHeated s (by simp)⟩
  · intro n s hu hn hm hr hf hh hw
    exact ⟨_, runs_switchOvercurrent hu hn hm hr hf hh, retryRun_overcurrentTaken s hn, overcurrentTaken_of_no_retry hn hf,
      overcurrentTaken_of_retry hn hf hw, overcurrentTaken_of_last_retry hn hw⟩
  · intro n t s hu hn hm hr ht
    exact ⟨_, runs_switchRetry hu hn hm hr ht, by simp [hn], by simp [hn], rfl, rfl⟩
  · rintro c n t k s hu hn hw (⟨rfl, rfl, hm, hh, hr, ht⟩ | ⟨rfl, rfl, hh, ht⟩ | ⟨rfl, h1, h8, hc⟩)
    · obtain ⟨ha, hc, he, hown⟩ := cleared_retrySucceeded s n
      exact ⟨_, runs_switchRetrySuccess hu hn hm hh hr ht, ha, hc, he, hown,
        fun _ => ⟨holds_retrySucceeded hw, retryRun_retrySucceeded s hn⟩, nofun⟩
    · obtain ⟨ha, hc, he, hown⟩ := cleared_driverOn_driverCooled s n
      exact ⟨_, runs_driverRestart hu hn hh ht, ha, hc, he, hown, nofun, fun _ => hot_driverOn_driverCooled s hn⟩
    · obtain ⟨ha, hcs, he, hown⟩ := cleared_clearFault s n k
      exact ⟨_, runs_portFaultClear hu hn h1 h8 hc, ha, hcs, he, hown, nofun, nofun⟩
  · intro n t s hi hn hm ht
    refine ⟨fun hl => ?_, fun hl hp => ?_, fun hl hp => ?_, fun hl => ?_⟩
    · obtain ⟨he, hs⟩ := homed_port s hn
      exact ⟨_, he, hs, runs_actuatorRunEnd_homing hi hn hm ht hl⟩
    · obtain ⟨he, hs⟩ := runEnded_port s 100000 hn
      exact ⟨_, he, hs, rfl, runs_actuatorRunEnd_opening hi hn hm ht hl hp⟩
    · obtain ⟨he, hs⟩ := runEnded_port s 0 hn
      exact ⟨_, he, hs, rfl, runs_actuatorRunEnd_closing hi hn hm ht hl hp⟩
    · exact ⟨_, line_deadTimeEnded s hn, rfl, runs_actuatorRunEnd_dead hi hn hm ht hl⟩

end Sys2Proof.Machine

namespace Sys2Proof.Machine

/-! ## Lanes and their entries -/

theorem keyOf_ne_of_index {i j a b : Nat} (hj : j < 256) (hb : b < 256) (h : i ≠ a) : keyOf i j ≠ keyOf a b := by
  unfold keyOf; omega

theorem laneAt_of_lanes {s t : State} (h : t.lanes = s.lanes) (j : Nat) : laneAt t j = laneAt s j := by
  unfold laneAt; rw [h]

/-- What a change of a lane leaves of every lane, within the bank or not. -/
theorem laneAt_updLane_field {α : Type} (g : LaneSt → α) {f : LaneSt → LaneSt} (hf : ∀ l, g (f l) = g l) (s : State) (k j : Nat) :
    g (laneAt (updLane s k f) j) = g (laneAt s j) := by
  by_cases e : j = k
  · subst e
    by_cases h : j < 8
    · rw [laneAt_updLane_same s j f h, hf]
    · simp [laneAt, updLane, vUpd, h]
  · rw [laneAt_updLane_ne s k j f e]

/-- The values of a flow result are binary32 numbers. -/
theorem entSize_laneValue {k j : Nat} (hk : k < 8) (hj : j = 4 ∨ j = 5 ∨ j = 6) : entSize (0x2120 + k) j = 4 := by
  have h : ∀ k, k < 8 → entSize (0x2120 + k) 4 = 4 ∧ entSize (0x2120 + k) 5 = 4 ∧ entSize (0x2120 + k) 6 = 4 := by decide
  obtain ⟨h4, h5, h6⟩ := h k hk
  rcases hj with rfl | rfl | rfl
  · exact h4
  · exact h5
  · exact h6

/-- The status word of a result has 16 bits. -/
theorem entSize_laneStatus {k : Nat} (hk : k < 8) : entSize (0x2120 + k) 0x0A = 2 := by
  have h : ∀ k, k < 8 → entSize (0x2120 + k) 0x0A = 2 := by decide
  exact h k hk

theorem getF_of_ents {s t : State} (h : t.ents = s.ents) (i j : Nat) : getF t i j = getF s i j := by
  rw [getF, getN_of_ents h, getF]

theorem getF_of_holds {s : State} {i j : Nat} {x : F32} (h : holds s i j x.toNat) (he : entSize i j = 4) : getF s i j = x := by
  have hx : x.toNat % 256 ^ 4 = x.toNat := Nat.mod_eq_of_lt x.isLt
  rw [getF, h.read, he, hx, BitVec.ofNat_toNat, BitVec.setWidth_eq]

/-! ## Status words: sums of the weights of their bits -/

section Bits
variable {n i j : Nat}

theorem add_bitVal_lt (b : Bool) (h : n < 2 ^ i) : n + bitVal b i < 2 ^ (i + 1) := by
  unfold bitVal
  rw [Nat.pow_succ]
  split <;> omega

theorem testBit_add_bitVal_same (b : Bool) (h : n < 2 ^ i) : (n + bitVal b i).testBit i = b := by
  cases b
  · exact Nat.testBit_lt_two_pow h
  · show (n + 2 ^ i).testBit i = true
    rw [Nat.add_comm, Nat.testBit_two_pow_add_eq, Nat.testBit_lt_two_pow h]
    rfl

theorem testBit_add_bitVal_of_lt (b : Bool) (h : j < i) : (n + bitVal b i).testBit j = n.testBit j := by
  cases b
  · rfl
  · show (n + 2 ^ i).testBit j = _
    rw [Nat.add_comm, Nat.testBit_two_pow_add_gt h]

end Bits

/-! ## An abandoned zero-flow capture (R161) -/

section Abandon
variable (s : State) (k : Nat)

theorem abandonZero_ents : (abandonZero s k).ents = s.ents := (law_abandonZero s k).ents_eq rfl

theorem onlyConds_abandonZero : onlyConds [0x3060 + k] s (abandonZero s k) := by
  unfold abandonZero
  split
  · intro c hc
    simp [raised_raiseHeld, mt List.mem_singleton.mpr hc, raised_of_conds (updLane_conds ..)]
  · exact .refl _ s

theorem laneAt_abandonZero_field {α : Type} (g : LaneSt → α) (hg : ∀ l, g { l with capture := none } = g l) (j : Nat) :
    g (laneAt (abandonZero s k) j) = g (laneAt s j) := by
  unfold abandonZero
  split
  · rw [laneAt_of_lanes (raiseHeld_lanes ..)]
    exact laneAt_updLane_field g hg s k j
  · rfl

theorem laneAt_abandonZero_ne {j : Nat} (h : j ≠ k) : laneAt (abandonZero s k) j = laneAt s j := by
  unfold abandonZero
  split
  · rw [laneAt_of_lanes (raiseHeld_lanes ..), laneAt_updLane_ne _ _ _ _ h]
  · rfl

end Abandon

/-! ## The start of a measurement (R152, R160 to R162) -/

/-- Lane k with the start at this tick noted, and counted by a zero-flow capture in progress (log 105). -/
def startNoted (s : State) (k : Nat) : State :=
  updLane s k fun l => { l with lastStart := some s.clock.tick, capture := l.capture.map fun c => { c with periods := c.periods + 1 } }

/-- The state in which the start is noted and a capture past its last period abandoned. -/
def captureJudged (s : State) (k : Nat) : State :=
  match (laneAt (startNoted s k) k).capture with
  | some c => if 10 * c.wanted < c.periods then abandonZero (startNoted s k) k else startNoted s k
  | none => startNoted s k

/-- The state in which lane k has skipped a measurement. -/
def measurementSkipped (s : State) (k : Nat) : State :=
  raise (addN (updLane (captureJudged s k) k fun l => { l with skipped := true }) (0x2120 + k) 0x0C 1) (0x3050 + k)

/-- The state in which lane k has begun a measurement. -/
def measurementBegun (s : State) (k : Nat) : State :=
  updLane (takeLane (captureJudged s k) k) k fun l => { l with meas := some (measRest (refMs * s.clock.tick)) }

section Start
variable {s : State} {k : Nat}

theorem runs_laneMeasurementStart (hi : islandsRun s = true) (hk : k < 8) (hr : laneRun s k = true) (hm : (laneAt s k).meas = none)
    (hl : (laneAt s k).lastStart ≠ some s.clock.tick) (ht : (laneAt s k).runTick ≤ s.clock.tick)
    (hp : (s.clock.tick - (laneAt s k).runTick) % max 1 (getN s (0x2120 + k) 0x03) = 0) :
    runs (.laneMeasurementStart k) s (if (laneAt s k).handed.isSome then measurementSkipped s k else measurementBegun s k) :=
  runs_doneIf _ rfl (by simp [hi, hk, hr, hm, hl, ht, hp])

theorem captureJudged_cases (s : State) (k : Nat) :
    captureJudged s k = startNoted s k ∨ captureJudged s k = abandonZero (startNoted s k) k := by
  unfold captureJudged
  split
  · split
    · exact .inr rfl
    · exact .inl rfl
  · exact .inl rfl

theorem captureJudged_ents (s : State) (k : Nat) : (captureJudged s k).ents = s.ents := by
  obtain h | h := captureJudged_cases s k <;> rw [h]
  · rfl
  · exact abandonZero_ents ..

theorem onlyConds_captureJudged (s : State) (k : Nat) : onlyConds [0x3060 + k] s (captureJudged s k) := by
  obtain h | h := captureJudged_cases s k <;> rw [h]
  · exact (onlyConds.refl _ s).of_conds rfl
  · exact onlyConds_abandonZero (startNoted s k) k

theorem laneAt_captureJudged_ne {j : Nat} (hj : j ≠ k) : laneAt (captureJudged s k) j = laneAt s j := by
  have hn : laneAt (startNoted s k) j = laneAt s j := laneAt_updLane_ne _ _ _ _ hj
  obtain h | h := captureJudged_cases s k <;> rw [h]
  · exact hn
  · rw [laneAt_abandonZero_ne _ _ hj, hn]

/-- Of a lane the noted start touches nothing but itself and the capture. -/
theorem laneAt_captureJudged_field {α : Type} (g : LaneSt → α) (hg : ∀ l a c, g { l with lastStart := a, capture := c } = g l)
    (s : State) (k j : Nat) : g (laneAt (captureJudged s k) j) = g (laneAt s j) := by
  have hn : g (laneAt (startNoted s k) j) = g (laneAt s j) := laneAt_updLane_field g (fun l => hg l _ _) s k j
  obtain h | h := captureJudged_cases s k <;> rw [h]
  · exact hn
  · rw [laneAt_abandonZero_field _ _ g (fun l => hg l _ _), hn]

theorem laneAt_measurementSkipped_ne {j : Nat} (hj : j ≠ k) : laneAt (measurementSkipped s k) j = laneAt s j := by
  rw [measurementSkipped, laneAt_of_lanes ((raise_lanes ..).trans (addN_lanes ..)), laneAt_updLane_ne _ _ _ _ hj,
    laneAt_captureJudged_ne hj]

theorem laneAt_measurementSkipped (hk : k < 8) :
    laneAt (measurementSkipped s k) k = { laneAt (captureJudged s k) k with skipped := true } := by
  rw [measurementSkipped, laneAt_of_lanes ((raise_lanes ..).trans (addN_lanes ..)), laneAt_updLane_same _ _ _ hk]

/-- What a skipped measurement makes of its own lane. -/
theorem measurementSkipped_lane (hk : k < 8) : (laneAt (measurementSkipped s k) k).meas = (laneAt s k).meas ∧
    (laneAt (measurementSkipped s k) k).handed = (laneAt s k).handed ∧ (laneAt (measurementSkipped s k) k).skipped = true := by
  rw [laneAt_measurementSkipped hk]
  exact ⟨laneAt_captureJudged_field LaneSt.meas (fun _ _ _ => rfl) s k k,
    laneAt_captureJudged_field LaneSt.handed (fun _ _ _ => rfl) s k k, rfl⟩

/-- A skipped measurement is counted. -/
theorem holds_measurementSkipped (hw : s.entriesWf) : holds (measurementSkipped s k) (0x2120 + k) 0x0C (getN s (0x2120 + k) 0x0C + 1) := by
  have hw' : (captureJudged s k).entriesWf := by rwa [State.entriesWf, captureJudged_ents]
  rw [measurementSkipped, holds_raise, ← getN_of_ents (captureJudged_ents s k)]
  exact holds_addN (updLane (captureJudged s k) k _) _ _ _ hw'

theorem raised_measurementSkipped (s : State) (k : Nat) : raised (measurementSkipped s k) (0x3050 + k) = true := by
  simp [measurementSkipped, raised_raise]

theorem onlyConds_measurementSkipped (s : State) (k : Nat) : onlyConds [0x3050 + k, 0x3060 + k] s (measurementSkipped s k) := by
  have hj : onlyConds [0x3050 + k, 0x3060 + k] s (captureJudged s k) := (onlyConds_captureJudged s k).mono (by simp)
  refine hj.trans fun c hc => ?_
  have hne : c ≠ 0x3050 + k := fun e => hc (by simp [e])
  simp [measurementSkipped, raised_raise, hne, raised_of_conds (updLane_conds ..)]

theorem laneAt_measurementBegun_ne {j : Nat} (hj : j ≠ k) : laneAt (measurementBegun s k) j = laneAt s j := by
  rw [measurementBegun, laneAt_updLane_ne _ _ _ _ hj]
  exact laneAt_captureJudged_ne hj

theorem meas_measurementBegun (hk : k < 8) : (laneAt (measurementBegun s k) k).meas = some (measRest (24000 * s.clock.tick)) := by
  rw [measurementBegun, laneAt_updLane_same _ _ _ hk]
  rfl

theorem measurementBegun_ents (s : State) (k : Nat) : (measurementBegun s k).ents = s.ents := captureJudged_ents s k

theorem onlyConds_measurementBegun (s : State) (k : Nat) : onlyConds [0x3060 + k] s (measurementBegun s k) :=
  (onlyConds_captureJudged s k).of_conds rfl

end Start

/-! ## Shots (R147 to R155, R165) -/

section Stops
variable {s : State} {k : Nat} {i : ShotIn}

/-- A stop event is a crossing before the window end that the lane can time. -/
theorem mem_stopHits {x : Nat × Nat} (h : x ∈ stopHits s k i) :
    x ∈ i.hits ∧ hitTime i x < getN s (0x2128 + k) 0x0A ∧ hitTime i x ≤ 4000000000 := by
  unfold stopHits at h
  split at h
  · cases h
  · simp only [List.mem_filter, Bool.and_eq_true, decide_eq_true_eq, timed] at h
    obtain ⟨hx, ⟨-, he⟩, ht⟩ := h
    exact ⟨hx, he, ht⟩

theorem stopHits_of_no_echo (h : firstEcho s k i = none) : stopHits s k i = [] := by
  simp [stopHits, h]

end Stops

section Shot
variable {s : State} {k t : Nat} {m : Meas} {i : ShotIn}

/-- A burst shot is counted within its measurement, and a failed calibration pair is noted. -/
theorem burstShot_counts (s : State) (k : Nat) (m : Meas) (i : ShotIn) (t : Nat) : (burstShot s k m i t).shots = m.shots + 1 ∧
    (burstShot s k m i t).start = m.start ∧ (burstShot s k m i t).calFault = (m.calFault || !pairGood i) := by
  unfold burstShot
  dsimp only
  split
  · exact ⟨rfl, rfl, rfl⟩
  · split <;> exact ⟨rfl, rfl, rfl⟩

/-- A shot whose calibration pair fails, or with too few stop events, adds no time. -/
theorem burstShot_of_bad (h : pairGood i = false ∨ (stopHits s k i).length < max 1 (getN s (0x2128 + k) 0x0C)) :
    (burstShot s k m i t).up = m.up ∧ (burstShot s k m i t).down = m.down := by
  have hok : (pairGood i && decide (max 1 (getN s (0x2128 + k) 0x0C) ≤ (stopHits s k i).length)) = false := by
    rcases h with h | h
    · rw [h, Bool.false_and]
    · rw [decide_eq_false (Nat.not_le.mpr h), Bool.and_false]
  simp only [burstShot, hok, Bool.not_false, if_true, and_self]

section
variable (hp : pairGood i = true) (hh : max 1 (getN s (0x2128 + k) 0x0C) ≤ (stopHits s k i).length)
include hp hh

/-- A good shot after an even number of shots went upstream. -/
theorem burstShot_upstream (he : m.shots % 2 = 0) : (burstShot s k m i t).up = m.up ++
    [shotTime { i with hits := stopHits s k i } (max 1 (getN s (0x2128 + k) 0x0C)) (getN s (0x2128 + k) 0x06)] ∧
    (burstShot s k m i t).down = m.down := by
  simp only [burstShot, hp, hh, he, decide_true, Bool.and_self, Bool.not_true, Bool.false_eq_true, if_false, if_true, and_self]

/-- A good shot after an odd number of shots went downstream. -/
theorem burstShot_downstream (ho : m.shots % 2 = 1) : (burstShot s k m i t).up = m.up ∧ (burstShot s k m i t).down = m.down ++
    [shotTime { i with hits := stopHits s k i } (max 1 (getN s (0x2128 + k) 0x0C)) (getN s (0x2128 + k) 0x06)] := by
  simp only [burstShot, hp, hh, ho, decide_true, Bool.and_self, Bool.not_true, Bool.false_eq_true, if_false, Nat.one_ne_zero, and_self]

end

/-- A capacitance shot is counted within its measurement, and a failed calibration pair is noted. -/
theorem chargeShot_counts (s : State) (k : Nat) (m : Meas) (i : ShotIn) (t : Nat) : (chargeShot s k m i t).1.shots = m.shots + 1 ∧
    (chargeShot s k m i t).1.start = m.start ∧ (chargeShot s k m i t).1.calFault = (m.calFault || !pairGood i) := by
  unfold chargeShot
  dsimp only
  split
  · split <;> exact ⟨rfl, rfl, rfl⟩
  · exact ⟨rfl, rfl, rfl⟩

theorem laneAt_chargeShot (s : State) (k : Nat) (m : Meas) (i : ShotIn) (t j : Nat) :
    laneAt (chargeShot s k m i t).2 j = laneAt s j := laneAt_of_lanes ((law_chargeShot s k m i t).lanes_eq rfl) j

/-- The state after a burst shot. -/
def burstTaken (s : State) (k : Nat) (m : Meas) (i : ShotIn) (t : Nat) : State :=
  updLane (advance s t) k fun l => { l with meas := some (burstShot s k m i t), burst := some (burstOf s k m.shots t) }

/-- The state after a capacitance shot. -/
def chargeTaken (s : State) (k : Nat) (m : Meas) (i : ShotIn) (t : Nat) : State :=
  updLane (chargeShot (advance s t) k m i t).2 k fun l =>
    { l with meas := some (chargeShot (advance s t) k m i t).1, charge := some (chargeOf s k m.shots t) }

theorem runs_laneShot (hi : islandsRun s = true) (hk : k < 8) (hm : (laneAt s k).meas = some m) (hs : m.shots < shotTotal s k)
    (hd : dueRef s (shotStart s k m) = true) :
    runs (.laneShot k i) s
      (if laneMode s k = 1 then burstTaken s k m i (shotStart s k m) else chargeTaken s k m i (shotStart s k m)) := by
  refine runs_doneIf (islandsRun s && decide (k < 8) && decide (m.shots < shotTotal s k) && dueRef s (shotStart s k m)) ?_
    (by simp [hi, hk, hs, hd])
  show execLaneShot k i s = _
  simp only [execLaneShot, hm]
  rfl

theorem meas_burstTaken (hk : k < 8) : (laneAt (burstTaken s k m i t) k).meas = some (burstShot s k m i t) := by
  simp [burstTaken, hk]

theorem laneAt_burstTaken_ne {j : Nat} (hj : j ≠ k) : laneAt (burstTaken s k m i t) j = laneAt s j :=
  laneAt_updLane_ne _ _ _ _ hj

theorem meas_chargeTaken (hk : k < 8) :
    (laneAt (chargeTaken s k m i t) k).meas = some (chargeShot (advance s t) k m i t).1 := by
  simp [chargeTaken, hk]

theorem laneAt_chargeTaken_ne {j : Nat} (hj : j ≠ k) : laneAt (chargeTaken s k m i t) j = laneAt s j := by
  rw [chargeTaken, laneAt_updLane_ne _ _ _ _ hj, laneAt_chargeShot]
  rfl

end Shot

/-! ## The end of a measurement (R162) -/

/-- The state in which lane k has handed its measurement over. -/
def measurementEnded (s : State) (k : Nat) (m : Meas) : State :=
  addN (updLane s k fun l => { l with meas := none, handed := some m }) (0x2120 + k) 0x0D 1

section Ended
variable {s : State} {k : Nat} {m : Meas}

theorem runs_laneMeasurementEnd (hi : islandsRun s = true) (hk : k < 8) (hm : (laneAt s k).meas = some m)
    (hs : shotTotal s k ≤ m.shots) : runs (.laneMeasurementEnd k) s (measurementEnded s k m) := by
  refine runs_doneIf (islandsRun s && decide (k < 8) && decide (shotTotal s k ≤ m.shots)) ?_ (by simp [hi, hk, hs])
  show execLaneMeasurementEnd k s = _
  simp only [execLaneMeasurementEnd, hm]
  rfl

theorem laneAt_measurementEnded (hk : k < 8) :
    laneAt (measurementEnded s k m) k = { laneAt s k with meas := none, handed := some m } := by
  rw [measurementEnded, laneAt_of_lanes (addN_lanes ..), laneAt_updLane_same _ _ _ hk]

theorem laneAt_measurementEnded_ne {j : Nat} (hj : j ≠ k) : laneAt (measurementEnded s k m) j = laneAt s j := by
  rw [measurementEnded, laneAt_of_lanes (addN_lanes ..), laneAt_updLane_ne _ _ _ _ hj]

theorem holds_measurementEnded (hw : s.entriesWf) :
    holds (measurementEnded s k m) (0x2120 + k) 0x0D (getN s (0x2120 + k) 0x0D + 1) :=
  holds_addN (updLane s k _) _ _ _ hw

theorem onlyEntries_measurementEnded (s : State) (k : Nat) (m : Meas) :
    onlyEntries [(0x2120 + k, 0x0D)] s (measurementEnded s k m) :=
  onlyEntries_addN _ _ _ (by simp) (onlyEntries_of_ents rfl _)

theorem measurementEnded_conds (s : State) (k : Nat) (m : Meas) : (measurementEnded s k m).conds = s.conds := addN_conds ..

end Ended

/-! ## What a stored coefficient leaves (R180, R183, R309) -/

theorem storageOnly_writeNow (s : State) (t : Target) : StorageOnly s (writeNow s t) := by
  unfold writeNow applyTarget
  split
  · exact (storageOnly_drainTo ..).trans (storageOnly_writePlaced ..)
  · exact .refl s

theorem storageOnly_markDirty (s : State) (index : Nat) : StorageOnly s (markDirty s index) := by
  unfold markDirty
  dsimp only
  split
  · exact .refl s
  · exact storageOnly_writeNow ..

theorem onlyEntries_auditAdvance (s : State) (b : Bytes) (lost : Bool) : onlyEntries [(0x2C20, 8)] s (auditAdvance s b lost) := by
  have h : onlyEntries [(0x2C20, 8)] s (addN { s with audit := ⟨s.audit.count + 1, sha256 b⟩ } 0x2C20 8 1) :=
    onlyEntries_addN _ _ _ (by simp) (onlyEntries_of_ents rfl _)
  unfold auditAdvance
  dsimp only
  split
  · exact h.of_ents (raiseHeld_ents ..)
  · exact h

theorem onlyConds_auditAdvance (s : State) (b : Bytes) (lost : Bool) : onlyConds [0x9020] s (auditAdvance s b lost) := by
  have h : onlyConds [0x9020] s (addN { s with audit := ⟨s.audit.count + 1, sha256 b⟩ } 0x2C20 8 1) :=
    (onlyConds.refl _ s).of_conds (addN_conds ..)
  unfold auditAdvance
  dsimp only
  split
  · refine h.trans fun c hc => ?_
    simp [raised_raiseHeld, mt List.mem_singleton.mpr hc]
  · exact h

section Audit
variable (s : State) (who : Requester) (kind index sub flags : Nat) (value : Bytes)

/-- The entries that an audit entry writes. -/
theorem onlyEntries_appendAudit : onlyEntries ((0x2C20, 8) :: storageEntries) s (appendAudit s who kind index sub flags value) := by
  unfold appendAudit
  dsimp only
  split
  · exact ((storageOnly_writeNow ..).entries.mono fun _ => List.mem_cons_of_mem _).step (onlyEntries_auditAdvance _ _ _) (by simp)
  · exact .refl _ s

/-- The conditions that an audit entry raises and clears. -/
theorem onlyConds_appendAudit : onlyConds (0x9020 :: storageConds) s (appendAudit s who kind index sub flags value) := by
  unfold appendAudit
  dsimp only
  split
  · exact ((storageOnly_writeNow ..).conds.mono fun _ => List.mem_cons_of_mem _).trans ((onlyConds_auditAdvance _ _ _).mono (by simp))
  · exact .refl _ s

end Audit

theorem onlyEntries_stageCoefficient (s : State) (index sub : Nat) (v : Bytes) (now : Bool) :
    onlyEntries [(index, sub), (0x2180, 6)] s (stageCoefficient s index sub v now) :=
  onlyEntries_setN _ _ _ (by simp) (onlyEntries_setBytes _ _ _ (by simp) (onlyEntries_of_ents rfl _))

theorem stageCoefficient_conds (s : State) (index sub : Nat) (v : Bytes) (now : Bool) :
    (stageCoefficient s index sub v now).conds = s.conds := (setN_conds ..).trans (setBytes_conds ..)

section Computed
variable (s : State) (index sub : Nat) (now : Bool) (v : Int)

theorem onlyEntries_stageComputed :
    onlyEntries ((index, sub) :: (0x2180, 6) :: (0x2C20, 8) :: storageEntries) s (stageComputed s index sub now v) := by
  have hstorage : ∀ e ∈ storageEntries, e ∈ (index, sub) :: (0x2180, 6) :: (0x2C20, 8) :: storageEntries := by simp +contextual
  have hd := (storageOnly_markDirty s index).entries.mono hstorage
  have ha := hd.step (onlyEntries_appendAudit _ .device 2 index sub 0 (leBytes 4 (ofSigned 32 v))) (by simp +contextual)
  exact (ha.step (storageOnly_writeNow ..).entries hstorage).step (onlyEntries_stageCoefficient _ _ _ _ _) (by simp)

theorem onlyConds_stageComputed : onlyConds (0x9020 :: storageConds) s (stageComputed s index sub now v) := by
  have hstorage : ∀ c ∈ storageConds, c ∈ 0x9020 :: storageConds := fun _ => List.mem_cons_of_mem _
  have hd := (storageOnly_markDirty s index).conds.mono hstorage
  have ha := hd.trans (onlyConds_appendAudit _ .device 2 index sub 0 (leBytes 4 (ofSigned 32 v)))
  exact (ha.trans ((storageOnly_writeNow ..).conds.mono hstorage)).of_conds (stageCoefficient_conds ..)

end Computed

/-! ## What a valid measurement brings to a zero-flow capture (R161) -/

/-- The entries that a capture of lane k may write at its end: its coefficient, and what storing and auditing it shows. -/
def zeroEntries (k : Nat) : List (Nat × Nat) := (0x2128 + k, 0x15) :: (0x2180, 6) :: (0x2C20, 8) :: storageEntries

/-- The conditions that it may raise and clear. -/
def zeroConds (k : Nat) : List Nat := (0x3060 + k) :: 0x9020 :: storageConds

section Zero
variable (s : State) (k : Nat) (dt : F64)

/-- What a valid measurement comes to: nothing, a capture that ends with a result or without one, or a capture that goes on. -/
theorem feedZero_cases : feedZero s k dt = s ∨ (∃ ds, feedZero s k dt = zeroResult s k ds) ∨ feedZero s k dt = abandonZero s k ∨
    ∃ c, feedZero s k dt = updLane s k fun l => { l with capture := some c } := by
  unfold feedZero
  split
  · exact .inl rfl
  · dsimp only
    split
    · split
      · exact .inr (.inl ⟨_, rfl⟩)
      · exact .inr (.inr (.inl rfl))
    · exact .inr (.inr (.inr ⟨_, rfl⟩))

theorem onlyEntries_feedZero : onlyEntries (zeroEntries k) s (feedZero s k dt) := by
  obtain h | ⟨ds, h⟩ | h | ⟨c, h⟩ := feedZero_cases s k dt <;> rw [h]
  · exact .refl _ s
  · exact (onlyEntries_of_ents (updLane_ents ..) _).trans (onlyEntries_stageComputed _ _ _ _ _)
  · exact onlyEntries_of_ents (abandonZero_ents ..) _
  · exact onlyEntries_of_ents rfl _

theorem onlyConds_feedZero : onlyConds (zeroConds k) s (feedZero s k dt) := by
  have hr : onlyConds (zeroConds k) s s := .refl _ s
  obtain h | ⟨ds, h⟩ | h | ⟨c, h⟩ := feedZero_cases s k dt <;> rw [h]
  · exact hr
  · exact (hr.of_conds (updLane_conds ..)).trans ((onlyConds_stageComputed _ _ _ _ _).mono fun _ => List.mem_cons_of_mem _)
  · exact (onlyConds_abandonZero s k).mono (by simp [zeroConds])
  · exact hr.of_conds rfl

theorem handed_feedZero (j : Nat) : (laneAt (feedZero s k dt) j).handed = (laneAt s j).handed := by
  obtain h | ⟨ds, h⟩ | h | ⟨c, h⟩ := feedZero_cases s k dt <;> rw [h]
  · rw [zeroResult, laneAt_of_lanes ((law_stageComputed ..).lanes_eq rfl)]
    exact laneAt_updLane_field LaneSt.handed (fun _ => by rfl) s k j
  · exact laneAt_abandonZero_field s k LaneSt.handed (fun _ => rfl) j
  · exact laneAt_updLane_field LaneSt.handed (fun _ => by rfl) s k j

end Zero

/-! ## The result of a flow measurement (R155 to R159, R163) -/

/-- A flow measurement is valid: enough echoes, the spreads within the limit, the speed of sound plausible (R155, R156). -/
def flowValid (f : FlowCalc) : Bool := f.echo && f.spread && f.sound

/-- A valid velocity below the cut-off of lane k reads 0. -/
def flowCut (s : State) (k : Nat) (f : FlowCalc) : Bool := flowValid f && dlt (dabs f.v) (laneF s k 0x16)

/-- A value of a flow result as it is shown: NaN where it is not valid, 0 where it is cut. -/
def flowShown (valid cut : Bool) (x : F64) : F32 := if !valid then nan32 else if cut then f32 0 else toF32 x

/-- The flow of lane k as it is shown. -/
def flowQ (s : State) (k : Nat) (f : FlowCalc) : F32 := flowShown (flowValid f) (flowCut s k f) f.q

/-- The status word of a flow result. -/
def flowStatus (s : State) (k : Nat) (m : Meas) (f : FlowCalc) : Nat :=
  bitVal (flowValid f) 0 + bitVal (flowCut s k f) 1 + bitVal (flt (flowQ s k f) (f32 0)) 2 + bitVal (!f.echo) 3 + bitVal (!f.spread) 4
    + bitVal (!f.sound) 5 + bitVal m.calFault 6 + bitVal (laneAt s k).capture.isSome 7 + bitVal (laneAt s k).skipped 8

/-- The state in which flow, velocity and speed of sound are stored. -/
def flowValuesStored (s : State) (k : Nat) (m : Meas) (f : FlowCalc) : State :=
  setF (setF (setF (laneStamp s m).2 (0x2120 + k) 0x04 (flowQ s k f)) (0x2120 + k) 0x05 (flowShown (flowValid f) (flowCut s k f) f.v))
    (0x2120 + k) 0x06 (if flowValid f then toF32 f.c else nan32)

/-- The state in which the transit times are stored too. -/
def flowTimesStored (s : State) (k : Nat) (m : Meas) (f : FlowCalc) : State :=
  setI (setI (setI (flowValuesStored s k m f) (0x2120 + k) 0x07 (droundAway f.tup)) (0x2120 + k) 0x08 (droundAway f.tdn))
    (0x2120 + k) 0x09 (droundAway f.dt)

/-- The state in which every entry of the result is stored. -/
def flowStored (s : State) (k : Nat) (m : Meas) (f : FlowCalc) : State :=
  setF (setF (setN (setN (flowTimesStored s k m f) (0x2120 + k) 0x0A (flowStatus s k m f)) (0x2120 + k) 0x0B (laneStamp s m).1)
    (0x2120 + k) 0x0E (meanPeak m.peakUp)) (0x2120 + k) 0x0F (meanPeak m.peakDown)

/-- The state in which the conditions of the result are judged. -/
def flowJudged (s : State) (k : Nat) (m : Meas) (f : FlowCalc) : State :=
  judge (judge (judge (flowStored s k m f) (0x3010 + k) (!f.echo)) (0x3020 + k) (f.echo && !f.spread)) (0x3030 + k)
    (f.echo && f.spread && !f.sound)

section Flow
variable {s t : State} {k j n : Nat} {m : Meas}

theorem flowResult_eq (s : State) (k : Nat) (m : Meas) : flowResult s k m =
    let f := flowCalc s k m
    feedLane (if flowValid f then feedZero (flowJudged s k m f) k f.dt else flowJudged s k m f) k (flowQ s k f) (laneInstant s k m) := rfl

theorem laneF_congr (he : t.ents = s.ents) (hc : t.cal = s.cal) (k sub : Nat) : laneF t k sub = laneF s k sub := by
  unfold laneF
  rw [hc, getF_of_ents he]

theorem coefficient_congr (he : t.ents = s.ents) (hc : t.cal = s.cal) (i j : Nat) : coefficient t i j = coefficient s i j := by
  unfold coefficient getI
  rw [hc, getN_of_ents he]

/-- The flow equations read entries and the coefficients in effect alone. -/
theorem flowCalc_congr (he : t.ents = s.ents) (hc : t.cal = s.cal) (k : Nat) (m : Meas) : flowCalc t k m = flowCalc s k m := by
  unfold flowCalc laneShots
  simp only [getN_of_ents he, getF_of_ents he, laneF_congr he hc, coefficient_congr he hc]

theorem holds_flowStored_status (hw : s.entriesWf) (f : FlowCalc) : holds (flowStored s k m f) (0x2120 + k) 0x0A (flowStatus s k m f) := by
  have hwv : (flowValuesStored s k m f).entriesWf :=
    entriesWf_setF _ _ _ _ (entriesWf_setF _ _ _ _ (entriesWf_setF _ _ _ _ ((law_laneStamp s m).wf hw)))
  have hwt : (flowTimesStored s k m f).entriesWf := entriesWf_setI _ _ _ _ (entriesWf_setI _ _ _ _ (entriesWf_setI _ _ _ _ hwv))
  have ho : onlyEntries [(0x2120 + k, 0x0B), (0x2120 + k, 0x0E), (0x2120 + k, 0x0F)]
      (setN (flowTimesStored s k m f) (0x2120 + k) 0x0A (flowStatus s k m f)) (flowStored s k m f) :=
    onlyEntries_setF _ _ _ (by simp) (onlyEntries_setF _ _ _ (by simp) (onlyEntries_setN _ _ _ (by simp) (.refl _ _)))
  exact (ho.holds_iff (by simp) _ _).mpr (holds_setN _ _ _ _ hwt)

/-- The entries stored after the values are others. -/
theorem holds_flowStored_value (f : FlowCalc) (hj : j = 4 ∨ j = 5 ∨ j = 6) :
    holds (flowStored s k m f) (0x2120 + k) j n ↔ holds (flowValuesStored s k m f) (0x2120 + k) j n := by
  have ht : onlyEntries ([7, 8, 9, 0x0A, 0x0B, 0x0E, 0x0F].map fun a => (0x2120 + k, a)) (flowValuesStored s k m f)
      (flowTimesStored s k m f) :=
    onlyEntries_setI _ _ _ (by simp) (onlyEntries_setI _ _ _ (by simp) (onlyEntries_setI _ _ _ (by simp) (.refl _ _)))
  have ho := onlyEntries_setF (0x2120 + k) 0x0F (meanPeak m.peakDown) (by simp) (onlyEntries_setF (0x2120 + k) 0x0E (meanPeak m.peakUp)
    (by simp) (onlyEntries_setN (0x2120 + k) 0x0B (laneStamp s m).1 (by simp)
      (onlyEntries_setN (0x2120 + k) 0x0A (flowStatus s k m f) (by simp) ht)))
  exact ho.holds_iff (by rcases hj with rfl | rfl | rfl <;> simp) _ _

/-- Where the measurement is not valid, its values are NaN. -/
theorem holds_flowValuesStored (hw : s.entriesWf) {f : FlowCalc} (hv : flowValid f = false) (hj : j = 4 ∨ j = 5 ∨ j = 6) :
    holds (flowValuesStored s k m f) (0x2120 + k) j nan32.toNat := by
  have hw0 : (laneStamp s m).2.entriesWf := (law_laneStamp s m).wf hw
  have e : flowValuesStored s k m f =
      setF (setF (setF (laneStamp s m).2 (0x2120 + k) 4 nan32) (0x2120 + k) 5 nan32) (0x2120 + k) 6 nan32 := by
    simp [flowValuesStored, flowQ, flowShown, hv]
  rw [e]
  rcases hj with rfl | rfl | rfl
  · rw [holds_setF_ne _ _ _ _ _ _ _ (keyOf_ne_of_sub (by decide)), holds_setF_ne _ _ _ _ _ _ _ (keyOf_ne_of_sub (by decide))]
    exact holds_setF _ _ _ _ hw0
  · rw [holds_setF_ne _ _ _ _ _ _ _ (keyOf_ne_of_sub (by decide))]
    exact holds_setF _ _ _ _ (entriesWf_setF _ _ _ _ hw0)
  · exact holds_setF _ _ _ _ (entriesWf_setF _ _ _ _ (entriesWf_setF _ _ _ _ hw0))

/-- What follows the stored entries writes at most what ends a zero-flow capture. -/
theorem onlyEntries_flowResult (s : State) (k : Nat) (m : Meas) :
    onlyEntries (zeroEntries k) (flowStored s k m (flowCalc s k m)) (flowResult s k m) := by
  have hj : (flowJudged s k m (flowCalc s k m)).ents = (flowStored s k m (flowCalc s k m)).ents := by simp [flowJudged]
  rw [flowResult_eq]
  refine onlyEntries.of_ents ?_ ((law_feedLane ..).ents_eq rfl)
  split
  · exact (onlyEntries_of_ents hj _).trans (onlyEntries_feedZero _ _ _)
  · exact onlyEntries_of_ents hj _

/-- None of that is an entry of the lane's result. -/
theorem holds_flowResult (hk : k < 8) (hj : j < 256) :
    holds (flowResult s k m) (0x2120 + k) j n ↔ holds (flowStored s k m (flowCalc s k m)) (0x2120 + k) j n := by
  have hne : ∀ e ∈ zeroEntries k, keyOf e.1 e.2 ≠ keyOf (0x2120 + k) j := by
    intro e he
    have hi : e.1 ≠ 0x2120 + k ∧ e.2 < 256 := by
      simp only [zeroEntries, storageEntries, List.cons_append, List.nil_append, List.mem_cons, List.mem_map, List.mem_range] at he
      rcases he with rfl | rfl | rfl | rfl | rfl | rfl | rfl | rfl | rfl | ⟨r, hr, rfl⟩ <;> dsimp only <;> omega
    exact keyOf_ne_of_index hi.2 hj hi.1
  unfold holds
  rw [onlyEntries_flowResult s k m _ _ hne]

theorem getF_flowResult_of_invalid (hw : s.entriesWf) (hk : k < 8) (hv : flowValid (flowCalc s k m) = false)
    (hj : j = 4 ∨ j = 5 ∨ j = 6) : getF (flowResult s k m) (0x2120 + k) j = nan32 := by
  refine getF_of_holds ?_ (entSize_laneValue hk hj)
  rw [holds_flowResult hk (by omega), holds_flowStored_value _ hj]
  exact holds_flowValuesStored hw hv hj

/-- Bits 0 and 3 to 5 of the status word of a flow result. -/
theorem flowStatus_bits (s : State) (k : Nat) (m : Meas) (f : FlowCalc) : (flowStatus s k m f).testBit 0 = flowValid f ∧
    (flowStatus s k m f).testBit 3 = !f.echo ∧ (flowStatus s k m f).testBit 4 = !f.spread ∧
    (flowStatus s k m f).testBit 5 = !f.sound := by
  have h0 : bitVal (flowValid f) 0 < 2 ^ 1 := by cases flowValid f <;> decide
  have h1 := add_bitVal_lt (flowCut s k f) h0
  have h2 := add_bitVal_lt (flt (flowQ s k f) (f32 0)) h1
  have h3 := add_bitVal_lt (!f.echo) h2
  have h4 := add_bitVal_lt (!f.spread) h3
  unfold flowStatus
  refine ⟨?_, ?_, ?_, ?_⟩
  · iterate 8 rw [testBit_add_bitVal_of_lt _ (by decide)]
    cases flowValid f <;> rfl
  · iterate 5 rw [testBit_add_bitVal_of_lt _ (by decide)]
    exact testBit_add_bitVal_same _ h2
  · iterate 4 rw [testBit_add_bitVal_of_lt _ (by decide)]
    exact testBit_add_bitVal_same _ h3
  · iterate 3 rw [testBit_add_bitVal_of_lt _ (by decide)]
    exact testBit_add_bitVal_same _ h4

/-- Bits of the status entry after a flow result. -/
theorem testBit_flowResult (hw : s.entriesWf) (hk : k < 8) {b : Nat} (hb : b < 16) :
    (getN (flowResult s k m) (0x2120 + k) 0x0A).testBit b = (flowStatus s k m (flowCalc s k m)).testBit b := by
  have h : holds (flowResult s k m) (0x2120 + k) 0x0A (flowStatus s k m (flowCalc s k m)) :=
    (holds_flowResult hk (by decide)).mpr (holds_flowStored_status hw _)
  rw [h.read, entSize_laneStatus hk]
  exact (Nat.testBit_mod_two_pow _ 16 b).trans (by simp [hb])

/-- A flow result keeps a raised condition that no end of a capture clears. -/
theorem raised_flowResult {c : Nat} (hc : c ∉ zeroConds k) (h : raised s c = true) : raised (flowResult s k m) c = true := by
  have hs : raised (flowStored s k m (flowCalc s k m)) c = true := by
    simp only [flowStored, flowTimesStored, flowValuesStored, raised_setF, raised_setI, raised_setN]
    rwa [raised_of_conds ((law_laneStamp s m).conds_eq rfl)]
  have hj : raised (flowJudged s k m (flowCalc s k m)) c = true := by
    simp only [flowJudged, raised_judge, hs, Bool.or_true]
  rw [flowResult_eq, raised_of_conds ((law_feedLane ..).conds_eq rfl)]
  split
  · rw [onlyConds_feedZero _ _ _ c hc, hj]
  · exact hj

theorem handed_flowResult (s : State) (k : Nat) (m : Meas) (j : Nat) : (laneAt (flowResult s k m) j).handed = (laneAt s j).handed := by
  have hs : (flowJudged s k m (flowCalc s k m)).lanes = s.lanes := by
    simp only [flowJudged, flowStored, flowTimesStored, flowValuesStored, judge_lanes, setF_lanes, setI_lanes, setN_lanes]
    exact (law_laneStamp s m).lanes_eq rfl
  rw [flowResult_eq, laneAt_of_lanes ((law_feedLane ..).lanes_eq rfl)]
  split
  · rw [handed_feedZero, laneAt_of_lanes hs]
  · rw [laneAt_of_lanes hs]

end Flow

/-! ## The result of a capacitance measurement (R165 to R167) -/

section Capacitance
variable {s : State} {k c : Nat} {m : Meas}

theorem raised_judgeFault (n t : Nat) (cause : Bool) (h : raised s c = true) : raised (judgeFault s n t cause) c = true := by
  unfold judgeFault
  split <;> simp [h]

/-- The result of a port clears no condition. -/
theorem raised_capPort (p : Nat) (h : raised s c = true) : raised (capPort s k m p).1 c = true := by
  unfold capPort
  simp only [raised_setF, raised_updPort, raised_setPv]
  split
  · exact raised_judgeFault _ _ _ (raised_judgeFault _ _ _ h)
  · exact h

theorem raised_capResult (h : raised s c = true) : raised (capResult s k m) c = true := by
  have h0 : raised (laneStamp s m).2 c = true := by rwa [raised_of_conds ((law_laneStamp s m).conds_eq rfl)]
  unfold capResult
  simp only [raised_setN]
  refine List.foldlRecOn (motive := fun a : State × Bool => raised a.1 c = true) _ _ h0 fun a ha p _ => ?_
  split
  · exact raised_capPort p ha
  · simpa using ha

end Capacitance

/-! ## The metrology engine takes a result (R162) -/

/-- The state in which the handed result is taken and its calibration pairs are judged. -/
def handedTaken (s : State) (k : Nat) (m : Meas) : State :=
  judge (updLane s k fun l => { l with handed := none }) (0x3040 + k) m.calFault

/-- The state in which the result is stored. -/
def resultStored (s : State) (k : Nat) (m : Meas) : State :=
  if laneMode s k = 2 then capResult (handedTaken s k m) k m else flowResult (handedTaken s k m) k m

/-- The state after the result is taken. -/
def resultTaken (s : State) (k : Nat) (m : Meas) : State :=
  updLane (resultStored s k m) k fun l => { l with skipped := false, valueStart := m.start }

section Taken
variable {s : State} {k : Nat} {m : Meas}

theorem runs_laneResultTaken (hu : isUp s = true) (hk : k < 8) (hm : (laneAt s k).handed = some m) :
    runs (.laneResultTaken k) s (resultTaken s k m) := by
  refine runs_doneIf (isUp s && decide (k < 8)) ?_ (by simp [hu, hk])
  show execLaneResultTaken k s = _
  simp only [execLaneResultTaken, hm]
  rfl

theorem handedTaken_ents (s : State) (k : Nat) (m : Meas) : (handedTaken s k m).ents = s.ents := judge_ents ..

theorem entriesWf_handedTaken (hw : s.entriesWf) : (handedTaken s k m).entriesWf := by
  rwa [State.entriesWf, handedTaken_ents]

theorem flowCalc_handedTaken (s : State) (k : Nat) (m : Meas) : flowCalc (handedTaken s k m) k m = flowCalc s k m :=
  flowCalc_congr (handedTaken_ents s k m) (judge_cal ..) k m

theorem resultStored_of_flow (h : laneMode s k ≠ 2) : resultStored s k m = flowResult (handedTaken s k m) k m := if_neg h

theorem handed_resultStored (hk : k < 8) : (laneAt (resultStored s k m) k).handed = none := by
  have h : (laneAt (handedTaken s k m) k).handed = none := by
    rw [handedTaken, laneAt_of_lanes (judge_lanes ..), laneAt_updLane_same _ _ _ hk]
  unfold resultStored
  split
  · rwa [laneAt_of_lanes ((law_capResult ..).lanes_eq rfl)]
  · rwa [handed_flowResult]

/-- What taking a result makes of its lane. -/
theorem resultTaken_lane (hk : k < 8) :
    (laneAt (resultTaken s k m) k).handed = none ∧ (laneAt (resultTaken s k m) k).skipped = false := by
  rw [resultTaken, laneAt_updLane_same _ _ _ hk]
  exact ⟨handed_resultStored hk, rfl⟩

/-- A failed calibration pair is raised, and what stores the result does not clear it. -/
theorem raised_resultTaken (hk : k < 8) (hc : m.calFault = true) : raised (resultTaken s k m) (0x3040 + k) = true := by
  have h : raised (handedTaken s k m) (0x3040 + k) = true := by simp [handedTaken, raised_judge, hc]
  have hn : 0x3040 + k ∉ zeroConds k := by
    simp only [zeroConds, storageConds, List.mem_cons, List.not_mem_nil, or_false]
    omega
  show raised (resultStored s k m) _ = true
  unfold resultStored
  split
  · exact raised_capResult h
  · exact raised_flowResult hn h

theorem getF_resultTaken_of_invalid (hw : s.entriesWf) (hk : k < 8) (hm : laneMode s k ≠ 2) (hv : flowValid (flowCalc s k m) = false)
    {j : Nat} (hj : j = 4 ∨ j = 5 ∨ j = 6) : getF (resultTaken s k m) (0x2120 + k) j = nan32 := by
  show getF (resultStored s k m) _ _ = _
  rw [resultStored_of_flow hm]
  exact getF_flowResult_of_invalid (entriesWf_handedTaken hw) hk (by rwa [flowCalc_handedTaken]) hj

theorem testBit_resultTaken (hw : s.entriesWf) (hk : k < 8) (hm : laneMode s k ≠ 2) {b : Nat} (hb : b < 16) :
    (getN (resultTaken s k m) (0x2120 + k) 0x0A).testBit b = (flowStatus (handedTaken s k m) k m (flowCalc s k m)).testBit b := by
  show (getN (resultStored s k m) _ _).testBit b = _
  rw [resultStored_of_flow hm, testBit_flowResult (entriesWf_handedTaken hw) hk hb, flowCalc_handedTaken]

end Taken

/-- Settles O43: what each command of a lane runs to, and what that state shows. -/
theorem laneMeasurements : Obligations.LaneMeasurements := by
  unfold Obligations.LaneMeasurements
  refine ⟨?_, ?_, ?_, ?_⟩
  · intro k s hi hw hk hr hm hl ht hp
    have hrun := runs_laneMeasurementStart hi hk hr hm hl ht hp
    cases hh : (laneAt s k).handed with
    | none =>
      rw [hh] at hrun
      exact ⟨measurementBegun s k, hrun, fun _ => laneAt_measurementBegun_ne,
        fun _ => ⟨meas_measurementBegun hk, getBytes_of_ents (measurementBegun_ents s k) _ _, onlyConds_measurementBegun s k⟩, nofun⟩
    | some r =>
      rw [hh] at hrun
      obtain ⟨hmeas, hhand, hskip⟩ := measurementSkipped_lane (s := s) hk
      exact ⟨measurementSkipped s k, hrun, fun _ => laneAt_measurementSkipped_ne, nofun,
        fun _ => ⟨hmeas.trans hm, hhand.trans hh, hskip, holds_measurementSkipped hw, raised_measurementSkipped s k,
          onlyConds_measurementSkipped s k⟩⟩
  · intro k i m s hi hk hm hs hd
    have hrun := runs_laneShot (i := i) hi hk hm hs hd
    by_cases hmode : laneMode s k = 1
    · rw [if_pos hmode] at hrun
      obtain ⟨hshots, hstart, hcal⟩ := burstShot_counts s k m i (shotStart s k m)
      exact ⟨_, _, hrun, meas_burstTaken hk, hshots, hstart, hcal, fun _ => laneAt_burstTaken_ne,
        fun _ => ⟨rfl, rfl, fun _ => mem_stopHits, stopHits_of_no_echo, burstShot_of_bad,
          fun hp hh => ⟨burstShot_upstream hp hh, burstShot_downstream hp hh⟩⟩⟩
    · rw [if_neg hmode] at hrun
      obtain ⟨hshots, hstart, hcal⟩ := chargeShot_counts (advance s (shotStart s k m)) k m i (shotStart s k m)
      exact ⟨_, _, hrun, meas_chargeTaken hk, hshots, hstart, hcal, fun _ => laneAt_chargeTaken_ne, fun h => absurd h hmode⟩
  · intro k m s hi hw hk hm hs
    have hl : laneAt (measurementEnded s k m) k = { laneAt s k with meas := none, handed := some m } := laneAt_measurementEnded hk
    exact ⟨_, runs_laneMeasurementEnd hi hk hm hs, by rw [hl], by rw [hl], holds_measurementEnded hw,
      onlyEntries_measurementEnded s k m, measurementEnded_conds s k m, fun _ => laneAt_measurementEnded_ne⟩
  · intro k m s hu hw hk hm
    obtain ⟨hhand, hskip⟩ := resultTaken_lane (s := s) (m := m) hk
    refine ⟨_, runs_laneResultTaken hu hk hm, hhand, hskip, raised_resultTaken hk, fun hmode hv => ?_, fun hmode => ?_⟩
    · have hnan {j : Nat} (hj : j = 4 ∨ j = 5 ∨ j = 6) : getF (resultTaken s k m) (0x2120 + k) j = nan32 :=
        getF_resultTaken_of_invalid hw hk hmode hv hj
      exact ⟨hnan (by decide), hnan (by decide), hnan (by decide)⟩
    · obtain ⟨h0, h3, h4, h5⟩ := flowStatus_bits (handedTaken s k m) k m (flowCalc s k m)
      have hbit {b : Nat} (hb : b < 16) := testBit_resultTaken (m := m) hw hk hmode hb
      exact ⟨(hbit (by decide)).trans h0, (hbit (by decide)).trans h3, (hbit (by decide)).trans h4, (hbit (by decide)).trans h5⟩

end Sys2Proof.Machine

namespace Sys2Proof.Machine

/-! ## What a journalled operation leaves (R413) -/

theorem StorageOnly.foldl {α : Type} {s t : State} {f : State → α → State} (h : StorageOnly s t) (k : ∀ a x, StorageOnly a (f a x))
    (l : List α) : StorageOnly s (l.foldl f t) := by
  induction l generalizing t with
  | nil => exact h
  | cons x l ih => exact ih (h.trans (k t x))

theorem storageOnly_of_writePlaced {s y : State} {p : Placed} {b : Bool} (h : writePlaced s p = (b, y)) : StorageOnly s y := by
  have k := storageOnly_writePlaced s p
  rwa [h] at k

/-- The target list and the images of an operation are counted, and their pages written afresh. -/
theorem StorageOnly.imagesCounted {s t : State} (h : StorageOnly s t) (lists n : Nat) :
    StorageOnly s (pagesRewritten (pagesRewritten (countWrites t 2 (lists + n)) 65538 lists) 65546 n) :=
  ((h.trans (storageOnly_countWrites _ _ (by decide))).trans (storageOnly_pagesRewritten ..)).trans (storageOnly_pagesRewritten ..)

theorem storageOnly_journalRun (s : State) (ps : List Placed) (pages : List (Nat × Bytes)) : StorageOnly s (journalRun s ps pages) := by
  unfold journalRun
  dsimp only
  split
  next s1 e1 => exact storageOnly_of_programRun e1
  next s1 e1 =>
    split
    next s2 e2 => exact (storageOnly_of_programRun e1).trans (storageOnly_of_programRun e2)
    next s2 e2 =>
      have h2 := (storageOnly_of_programRun e1).trans (storageOnly_of_programRun e2)
      split
      next s4 e4 =>
        refine .trans (.imagesCounted ?_ _ _) (storageOnly_of_writePlaced e4)
        exact h2.same rfl rfl
      next s4 e4 =>
        refine .trans (.foldl (.trans (.imagesCounted ?_ _ _) (storageOnly_of_writePlaced e4)) storageOnly_writePlaced ps)
          (storageOnly_writePlaced _ _)
        exact h2.same rfl rfl

/-- The writes issued before an operation are done, where the Hamper takes them. -/
theorem storageOnly_issuedDone (s : State) : StorageOnly s (if hamperFree s then drainTo s 4 else s) := by
  split
  · exact storageOnly_drainTo ..
  · exact .refl s

theorem storageOnly_journalOp (s : State) (is : List Image) : StorageOnly s (journalOp s is) := by
  have hd := storageOnly_issuedDone s
  unfold journalOp
  split
  · dsimp only
    generalize (if hamperFree s then drainTo s 4 else s) = d at hd ⊢
    split
    · exact hd
    · exact hd.trans (storageOnly_journalRun ..)
  · split
    · exact storageOnly_refuseWrite ..
    · exact .refl s

theorem getBytes_foldl_setBytes_ne {s : State} {es : List (Nat × Nat × Bytes)} {i j : Nat}
    (h : ∀ e ∈ es, keyOf e.1 e.2.1 ≠ keyOf i j) : getBytes (es.foldl (fun a e => setBytes a e.1 e.2.1 e.2.2) s) i j = getBytes s i j := by
  induction es generalizing s with
  | nil => rfl
  | cons e es ih =>
    rw [List.foldl_cons, ih fun x hx => h x (List.mem_cons_of_mem e hx)]
    exact getBytes_setBytes_ne _ _ _ _ _ _ (h e List.mem_cons_self)

/-- The first entry of a journalled operation holds its value, where none of the others is that entry. -/
theorem getBytes_journalPut_cons {s : State} {i j : Nat} {v : Bytes} {es : List (Nat × Nat × Bytes)} (is : List Image)
    (hw : s.entriesWf) (h : ∀ e ∈ es, keyOf e.1 e.2.1 ≠ keyOf i j) : getBytes (journalPut s ((i, j, v) :: es) is) i j = v := by
  rw [journalPut, List.foldl_cons, getBytes_foldl_setBytes_ne h]
  exact getBytes_setBytes _ _ _ _ ((law_journalOp _ _).wf hw)

/-! ## A new metrology epoch (R182) -/

theorem onlyEntries_setQueue (s : State) (q : List SealReq) : onlyEntries [(0x2B20, 2), (0x2B20, 4)] s (setQueue s q) :=
  onlyEntries_setN _ _ _ (by simp) (onlyEntries_setN _ _ _ (by simp) (onlyEntries_of_ents rfl _))

theorem onlyEntries_requestEvent (s : State) (reason : Nat) :
    onlyEntries ((0x2B20, 2) :: (0x2B20, 4) :: storageEntries) s (requestEvent s reason) :=
  ((onlyEntries_setQueue s _).mono (by simp +contextual)).step (storageOnly_writeNow ..).entries (by simp +contextual)

/-- What an owner keeps of a calibration lies in the calibration objects. -/
theorem index_of_mem_ownerEntries {s : State} {bits epoch t : Nat} {e : Nat × Nat × Bytes} (h : e ∈ ownerEntries s bits epoch t) :
    0x2190 ≤ e.1 := by
  simp only [ownerEntries, List.mem_flatten, List.mem_map] at h
  obtain ⟨l, ⟨b, -, rfl⟩, he⟩ := h
  split at he
  · simp only [List.mem_cons, List.not_mem_nil, or_false] at he
    obtain rfl | rfl | rfl := he <;> exact Nat.le_add_right ..
  · cases he

theorem index_of_mem_pointEntries {p : CalPoint} {e : Nat × Nat × Bytes} (h : e ∈ pointEntries p) : 0x2190 ≤ e.1 := by
  unfold pointEntries at h
  dsimp only at h
  split at h
  · simp only [List.mem_cons, List.not_mem_nil, or_false] at h
    obtain rfl | rfl := h <;> exact Nat.le_add_right ..
  · split at h
    · simp only [List.mem_cons, List.not_mem_nil, or_false] at h
      obtain rfl | rfl := h <;> exact Nat.le_add_right ..
    · cases h

/-- The traceability values lie there as well. -/
theorem index_of_mem_traceEntries {s : State} {keys : List Nat} {e : Nat × Nat × Bytes} (h : e ∈ traceEntries s keys) : 0x2190 ≤ e.1 := by
  simp only [traceEntries, List.mem_flatten, List.mem_map] at h
  obtain ⟨l, ⟨p, -, rfl⟩, he⟩ := h
  exact index_of_mem_pointEntries he

theorem keyOf_ne_epoch {i j : Nat} (h : 0x2190 ≤ i) : keyOf i j ≠ keyOf 0x2180 8 := by
  unfold keyOf; omega

/-- The entries that a new epoch writes beside its own number: its time, the count of calibrations (R448), those of its owners, and the
traceability values. -/
def epochRest (s : State) (bits t : Nat) (more : List (Nat × Nat × Bytes)) : List (Nat × Nat × Bytes) :=
  (0x2180, 0x09, leBytes 8 t) :: (0x2F10, 0x07, leBytes 4 (getN s 0x2F10 0x07 + 1)) ::
    (ownerEntries s bits (getN s 0x2180 0x08 + 1) t ++ more)

theorem newEpoch_eq (s : State) (bits t : Nat) (more : List (Nat × Nat × Bytes)) : newEpoch s bits t more =
    requestEvent (recFlag (journalPut s ((0x2180, 0x08, leBytes 4 (getN s 0x2180 0x08 + 1)) :: epochRest s bits t more)
      [recordImage recDirty (leBytes 2 0)]) 0) 0 := by
  simp only [newEpoch, epochRest, List.cons_append, List.nil_append]

theorem keyOf_ne_epoch_of_mem_epochRest {s : State} {bits t : Nat} {more : List (Nat × Nat × Bytes)} (hm : ∀ e ∈ more, 0x2190 ≤ e.1)
    {e : Nat × Nat × Bytes} (he : e ∈ epochRest s bits t more) : keyOf e.1 e.2.1 ≠ keyOf 0x2180 8 := by
  simp only [epochRest, List.mem_cons, List.mem_append] at he
  obtain rfl | rfl | he | he := he
  · exact keyOf_ne_of_sub (show 9 % 256 ≠ 8 % 256 by decide)
  · exact keyOf_ne_of_sub (show 7 % 256 ≠ 8 % 256 by decide)
  · exact keyOf_ne_epoch (index_of_mem_ownerEntries he)
  · exact keyOf_ne_epoch (hm e he)

/-- A new epoch is one more than the present one. -/
theorem holds_newEpoch {s : State} {bits t : Nat} {more : List (Nat × Nat × Bytes)} (hw : s.entriesWf) (hm : ∀ e ∈ more, 0x2190 ≤ e.1) :
    holds (newEpoch s bits t more) 0x2180 8 (getN s 0x2180 8 + 1) := by
  have hsize : entSize 0x2180 8 = 4 := by decide
  rw [holds, newEpoch_eq, onlyEntries_requestEvent _ _ _ _ (by decide), recFlag, getBytes_setBit_ne _ _ _ _ _ _ _ (by decide), hsize]
  exact getBytes_journalPut_cons _ hw fun _ => keyOf_ne_epoch_of_mem_epochRest hm

/-! ## Captures abandoned at the closing of a session (R161, R172) -/

/-- The state in which every capture, of a port or of a lane, is abandoned. -/
def capturesAbandoned (s : State) : State := (List.range 8).foldl abandonZero (abandonCapture s)

section Captures
variable (s : State)

theorem law_foldl_abandonZero (l : List Nat) : Law 0x20008200 s (l.foldl abandonZero s) := .foldl (.refl _ s) law_abandonZero

theorem law_capturesAbandoned : Law 0x68008208 s (capturesAbandoned s) :=
  ((law_abandonCapture s).mono rfl).step (law_foldl_abandonZero _ _) rfl

theorem abandonCapture_cal : (abandonCapture s).cal = { s.cal with capture := none } := by
  unfold abandonCapture
  split
  next h => rw [← h]
  · simp

theorem onlyEntries_abandonCapture : onlyEntries [(0x2181, 7)] s (abandonCapture s) := by
  unfold abandonCapture
  split
  · exact .refl _ s
  · exact (onlyEntries_setN _ _ 4 (List.mem_singleton_self _) (onlyEntries_of_ents rfl _)).of_ents (updConv_ents ..)

theorem capturesAbandoned_cal : (capturesAbandoned s).cal = { s.cal with capture := none } :=
  ((law_foldl_abandonZero _ _).cal_eq rfl).trans (abandonCapture_cal s)

theorem onlyEntries_capturesAbandoned : onlyEntries [(0x2181, 7)] s (capturesAbandoned s) :=
  (onlyEntries_abandonCapture s).of_ents ((law_foldl_abandonZero _ _).ents_eq rfl)

end Captures

/-- An abandoned capture leaves the coefficients, and with them those that differ from their opening values. -/
theorem changedKeys_capturesAbandoned {s : State} (h : ∀ e ∈ s.cal.opening, e.1 / 256 ≠ 0x2181) :
    changedKeys (capturesAbandoned s) = changedKeys s := by
  have hcal : (capturesAbandoned s).cal.opening = s.cal.opening := by rw [capturesAbandoned_cal]
  unfold changedKeys
  rw [hcal]
  refine congrArg (List.map _) (List.filter_congr fun e he => ?_)
  have hne : keyOf 0x2181 7 ≠ keyOf (e.1 / 256) (e.1 % 256) :=
    keyOf_ne_of_index (by decide) (Nat.mod_lt _ (by decide)) (Ne.symm (h e he))
  rw [onlyEntries_capturesAbandoned s _ _ (by simpa using hne)]

/-! ## The closing of a session (R172, R182) -/

/-- The state in which the coefficients have been compared with their opening values: a new epoch where one differs, else the
session-dirty marker cleared. -/
def epochJudged (s : State) (t : Nat) : State :=
  if (changedKeys s).isEmpty then (if dirtyBits s = 0 then s else writeNow s (.record recDirty (leBytes 2 0)))
  else newEpoch s (ownerBits (changedKeys s)) t (traceEntries s (changedKeys s))

/-- The state in which the reason and the time of the closing are shown. -/
def closingShown (s : State) (reason t : Nat) : State := putN (putN s 0x2180 0x0A reason) 0x2180 0x0B t

/-- The state in which no requester owns the session, and none of its values is kept. -/
def latchReleased (s : State) : State :=
  setN (setN { s with cal := { s.cal with owner := none, opening := [], points := [] } } 0x2180 0x04 0) 0x2180 0x06 0

theorem sessionClose_eq (s : State) (reason : Nat) : sessionClose s reason =
    dropCond (latchReleased (closingShown (epochJudged (capturesAbandoned s) (devTime s)) reason (devTime s))) 0x4001 := rfl

section Epoch
variable {s : State} {t : Nat}

theorem law_epochJudged (s : State) (t : Nat) : Law 0x8004083f8 s (epochJudged s t) := by
  unfold epochJudged
  exact .ite (.ite (.refl _ s) ((law_writeNow ..).mono rfl)) (law_newEpoch ..)

theorem onlyEntries_epochJudged_of_unchanged (h : changedKeys s = []) : onlyEntries storageEntries s (epochJudged s t) := by
  rw [epochJudged, h, if_pos List.isEmpty_nil]
  split
  · exact .refl _ s
  · exact (storageOnly_writeNow ..).entries

theorem holds_epochJudged_of_changed (hw : s.entriesWf) (h : changedKeys s ≠ []) :
    holds (epochJudged s t) 0x2180 8 (getN s 0x2180 8 + 1) := by
  rw [epochJudged, if_neg (by simpa using h)]
  exact holds_newEpoch hw fun _ => index_of_mem_traceEntries

end Epoch

section Shown
variable (s : State) (i j n reason t : Nat)

theorem putN_ents : (putN s i j n).ents = (setN s i j n).ents := (law_queueWrite ..).ents_eq rfl

theorem onlyEntries_putN : onlyEntries [(i, j)] s (putN s i j n) :=
  (onlyEntries_setN _ _ _ (List.mem_singleton_self _) (.refl _ s)).of_ents (putN_ents ..)

theorem holds_putN (hw : s.entriesWf) : holds (putN s i j n) i j n := (holds_of_ents (putN_ents ..) i j n).mpr (holds_setN s i j n hw)

theorem onlyEntries_closingShown : onlyEntries [(0x2180, 0x0A), (0x2180, 0x0B)] s (closingShown s reason t) :=
  ((onlyEntries_putN s 0x2180 0x0A reason).mono (by simp)).step (onlyEntries_putN _ _ _ t) (by simp)

theorem holds_closingShown (hw : s.entriesWf) :
    holds (closingShown s reason t) 0x2180 0x0A reason ∧ holds (closingShown s reason t) 0x2180 0x0B t :=
  ⟨(onlyEntries_putN _ _ _ t _ _ (by decide)).trans (holds_putN s _ _ reason hw), holds_putN _ _ _ t ((law_putN ..).wf hw)⟩

theorem closingShown_cal : (closingShown s reason t).cal = s.cal := ((law_putN ..).cal_eq rfl).trans ((law_putN ..).cal_eq rfl)

theorem onlyEntries_latchReleased : onlyEntries [(0x2180, 0x04), (0x2180, 0x06)] s (latchReleased s) :=
  onlyEntries_setN _ _ _ (by simp) (onlyEntries_setN _ _ _ (by simp) (onlyEntries_of_ents rfl _))

theorem holds_latchReleased (hw : s.entriesWf) : holds (latchReleased s) 0x2180 0x04 0 ∧ holds (latchReleased s) 0x2180 0x06 0 :=
  ⟨(holds_setN_ne _ _ _ _ _ _ _ (by decide)).mpr (holds_setN _ _ _ _ hw), holds_setN _ _ _ _ (entriesWf_setN _ _ _ _ hw)⟩

theorem latchReleased_cal : (latchReleased s).cal = { s.cal with owner := none, opening := [], points := [] } := by
  simp [latchReleased]

end Shown

section Close
variable {s : State} {reason : Nat}

theorem sessionClose_cal (s : State) (reason : Nat) :
    (sessionClose s reason).cal = { s.cal with capture := none, owner := none, opening := [], points := [] } := by
  rw [sessionClose_eq, (law_dropCond ..).cal_eq rfl, latchReleased_cal, closingShown_cal, (law_epochJudged ..).cal_eq rfl,
    capturesAbandoned_cal]

theorem raised_sessionClose (s : State) (reason : Nat) : raised (sessionClose s reason) 0x4001 = false := by
  rw [sessionClose_eq, raised_dropCond]
  rfl

theorem entriesWf_epochJudged (hw : s.entriesWf) : (epochJudged (capturesAbandoned s) (devTime s)).entriesWf :=
  (law_epochJudged ..).wf ((law_capturesAbandoned s).wf hw)

/-- What 2180 shows of a session that has been closed. -/
theorem holds_sessionClose (hw : s.entriesWf) :
    holds (sessionClose s reason) 0x2180 0x04 0 ∧ holds (sessionClose s reason) 0x2180 0x06 0 ∧
    holds (sessionClose s reason) 0x2180 0x0A reason ∧ holds (sessionClose s reason) 0x2180 0x0B (devTime s) := by
  have hj := entriesWf_epochJudged hw
  obtain ⟨hreason, htime⟩ := holds_closingShown _ reason (devTime s) hj
  obtain ⟨howner, hchanged⟩ := holds_latchReleased (closingShown _ reason (devTime s)) ((law_putN ..).wf ((law_putN ..).wf hj))
  simp only [sessionClose_eq, holds_dropCond]
  exact ⟨howner, hchanged, (onlyEntries_latchReleased _ _ _ (by decide)).trans hreason,
    (onlyEntries_latchReleased _ _ _ (by decide)).trans htime⟩

/-- The closing shows the epoch as it has been judged. -/
theorem getBytes_epoch_sessionClose (s : State) (reason : Nat) : getBytes (sessionClose s reason) 0x2180 8 =
    getBytes (epochJudged (capturesAbandoned s) (devTime s)) 0x2180 8 := by
  rw [sessionClose_eq, getBytes_dropCond, onlyEntries_latchReleased _ _ _ (by decide),
    onlyEntries_closingShown _ _ _ _ _ (by decide)]

theorem getBytes_epoch_capturesAbandoned (s : State) : getBytes (capturesAbandoned s) 0x2180 8 = getBytes s 0x2180 8 :=
  onlyEntries_capturesAbandoned s _ _ (by decide)

/-- Without a change of a coefficient the epoch stays. -/
theorem getBytes_epoch_sessionClose_of_unchanged (ho : ∀ e ∈ s.cal.opening, e.1 / 256 ≠ 0x2181) (h : changedKeys s = []) :
    getBytes (sessionClose s reason) 0x2180 8 = getBytes s 0x2180 8 := by
  rw [getBytes_epoch_sessionClose,
    onlyEntries_epochJudged_of_unchanged ((changedKeys_capturesAbandoned ho).trans h) _ _ (by decide),
    getBytes_epoch_capturesAbandoned]

/-- A change of a coefficient begins the next epoch. -/
theorem holds_epoch_sessionClose_of_changed (hw : s.entriesWf) (ho : ∀ e ∈ s.cal.opening, e.1 / 256 ≠ 0x2181)
    (h : changedKeys s ≠ []) : holds (sessionClose s reason) 0x2180 8 (getN s 0x2180 8 + 1) := by
  rw [holds, getBytes_epoch_sessionClose, ← getN_of_bytes (getBytes_epoch_capturesAbandoned s)]
  refine holds_epochJudged_of_changed ((law_capturesAbandoned s).wf hw) ?_
  rwa [changedKeys_capturesAbandoned ho]

end Close

/-! ## The audit log (R309) -/

theorem count_auditAdvance (s : State) (b : Bytes) (lost : Bool) : (auditAdvance s b lost).audit.count = s.audit.count + 1 := by
  unfold auditAdvance
  dsimp only
  split
  · rw [raiseHeld_audit, addN_audit]
  · rw [addN_audit]

/-- An audit entry is counted where the Hamper takes it. -/
theorem count_appendAudit {s : State} (hf : hamperFree s = true) (who : Requester) (kind index sub flags : Nat) (value : Bytes) :
    (appendAudit s who kind index sub flags value).audit.count = s.audit.count + 1 := by
  rw [appendAudit, if_pos hf, count_auditAdvance, (law_writeNow ..).audit_eq rfl]

theorem hamperFree_of_power {s t : State} (h : t.power = s.power) : hamperFree t = hamperFree s := by
  rw [hamperFree, h, hamperFree]

/-! ## The commands of a session -/

theorem runs_calNChange {on : Bool} {s : State} (hu : isUp s = true) :
    runs (.calNChange on) s { s with cal := { s.cal with calN := on } } := runs_doneIf _ rfl hu

theorem runs_sessionTimeout {s : State} (hu : isUp s = true) (hf : hamperFree s = true) (hp : modePending s = false)
    (ho : s.cal.owner.isSome = true) (ht : s.cal.openedTick + 1800000 ≤ s.clock.tick) :
    runs .sessionTimeout s (raiseHeld (appendAudit (sessionClose s 2) .device 3 0x2180 0x01 0 [2]) 0x4002) :=
  runs_doneIf _ rfl (by simp [hu, hf, hp, ht, CalSt.open_, ho])

/-- A younger session stays open. -/
theorem sessionTimeout_of_young {s : State} (h : s.clock.tick < s.cal.openedTick + 1800000) : exec .sessionTimeout s = .next s :=
  still_doneIf _ rfl (by simp [h])

/-- Settles O44: the level of CAL_N, what the closing of a session of 30 minutes shows, and that a younger one stays open. -/
theorem calibrationSession : Obligations.CalibrationSession := by
  unfold Obligations.CalibrationSession
  refine ⟨fun on s hu => ⟨_, runs_calNChange hu, rfl, rfl, rfl, rfl⟩, fun s hu hf hp ho ht hw => ?_, fun s => sessionTimeout_of_young⟩
  have hlaw := law_sessionClose s 2
  have hcal := sessionClose_cal s 2
  have haudit : (sessionClose s 2).audit = s.audit := hlaw.audit_eq rfl
  have hfree : hamperFree (sessionClose s 2) = true := (hamperFree_of_power (hlaw.power_eq rfl)).trans hf
  obtain ⟨howner, hchanged, hreason, htime⟩ := holds_sessionClose (reason := 2) hw
  exact ⟨sessionClose s 2, by rw [hcal], by rw [hcal], raised_sessionClose s 2, howner, hchanged, hreason, htime,
    getBytes_epoch_sessionClose_of_unchanged, holds_epoch_sessionClose_of_changed hw, haudit, runs_sessionTimeout hu hf hp ho ht,
    by simp [raised_raiseHeld], by rw [count_appendAudit hfree, haudit]⟩

end Sys2Proof.Machine

namespace Sys2Proof.Machine

/-! ## Metrology becomes valid (R209, R488) -/

/-- Step 8 of the start-up has ended. -/
def step8Ended (s : State) : State := { s with power := { s.power with step8 := true } }

section Valid
variable {s : State}

theorem runs_metrologyValid (hi : islandsRun s = true) (h8 : s.power.step8 = false) (hr : referencesSettled s = true) :
    runs .metrologyValid s (if hamperFree s then metrologyStarts (step8Ended s) else step8Ended s) :=
  runs_doneIf _ rfl (by simp [hi, h8, hr])

theorem metrologyStarts_power (s : State) :
    (metrologyStarts s).power = { s.power with metrologyValid := true, validAt := none, limitJudged := true } := by
  unfold metrologyStarts
  dsimp only
  split
  · rfl
  · rw [(law_applyTarget ..).power_eq rfl, (law_startInterval ..).power_eq rfl]
    rfl

theorem startInterval_running (s : State) (t len tariff flags : Nat) : (startInterval s t len tariff flags).interval.running = true := by
  rw [startInterval, (law_keepSoFar _).interval_eq rfl]

/-- Where no interval was running, one begins, and every meter waits for the next boundary. -/
theorem metrologyStarts_of_no_interval (h : s.interval.running = false) : (metrologyStarts s).interval.running = true ∧
    ∀ m, m < 16 → (meterAt (metrologyStarts s) m).start = none ∧ (meterAt (metrologyStarts s) m).enabledAt = devTime s := by
  unfold metrologyStarts
  rw [if_neg (by simp [h])]
  refine ⟨?_, fun m hm => ?_⟩
  · rw [(law_applyTarget ..).interval_eq rfl, startInterval_running]
  · rw [meterAt, vAt_map _ _ _ meterRest _ hm]
    exact ⟨rfl, rfl⟩

theorem onlyConds_raiseHeld (s : State) (c : Nat) : onlyConds [c] s (raiseHeld s c) := fun d hd => by
  simp [raised_raiseHeld, mt List.mem_singleton.mpr hd]

theorem runs_metrologyValidTimeout {lead : Nat} (hu : isUp s = true) (hj : s.power.limitJudged = false) (h3 : 3 ≤ lead)
    (h16 : lead ≤ 16) (ht : 2000 ≤ s.clock.tick + lead) :
    runs (.metrologyValidTimeout lead) s (raiseHeld { s with power := { s.power with limitJudged := true } } 0x0020) :=
  runs_doneIf _ rfl (by simp [hu, hj, h3, h16, ht])

end Valid

/-- Settles O17: step 8 ends at once, validity follows where the Hamper takes writes, and the limit of 2 s raises 0x0020. -/
theorem metrologyBecomesValid : Obligations.MetrologyBecomesValid := by
  unfold Obligations.MetrologyBecomesValid
  refine ⟨fun s hi h8 hr => ?_, fun lead s hu hj h3 h16 ht => ?_⟩
  · have hrun := runs_metrologyValid hi h8 hr
    cases hf : hamperFree s with
    | true =>
      rw [hf, if_pos rfl] at hrun
      have hp := metrologyStarts_power (step8Ended s)
      refine ⟨_, hrun, ?_, fun _ => ⟨?_, ?_, fun h => metrologyStarts_of_no_interval (s := step8Ended s) h⟩, nofun⟩ <;> rw [hp]
      rfl
    | false =>
      rw [hf] at hrun
      exact ⟨_, hrun, rfl, nofun, fun _ => ⟨rfl, rfl, rfl⟩⟩
  · refine ⟨_, runs_metrologyValidTimeout hu hj h3 h16 ht, by simp [raised_raiseHeld],
      onlyConds_raiseHeld _ _, raiseHeld_ents .., ?_⟩
    rw [raiseHeld_power]

/-! ## Entries written by number in turn -/

/-- Several entries take numbers, in turn. -/
def numbersSet (s : State) (cs : List (Nat × Nat × Nat)) : State := cs.foldl (fun a c => setN a c.1 c.2.1 c.2.2) s

section Numbers
variable {s : State} {cs : List (Nat × Nat × Nat)} {i j n : Nat}

theorem numbersSet_cons (s : State) (c : Nat × Nat × Nat) (cs : List (Nat × Nat × Nat)) :
    numbersSet s (c :: cs) = numbersSet (setN s c.1 c.2.1 c.2.2) cs := rfl

theorem getBytes_numbersSet_ne (h : ∀ c ∈ cs, keyOf c.1 c.2.1 ≠ keyOf i j) : getBytes (numbersSet s cs) i j = getBytes s i j := by
  induction cs generalizing s with
  | nil => rfl
  | cons c cs ih =>
    obtain ⟨hc, hcs⟩ := List.forall_mem_cons.mp h
    rw [numbersSet_cons, ih hcs, getBytes_setN_ne _ _ _ _ _ _ hc]

/-- An entry that the list names once holds its number. -/
theorem holds_numbersSet (hw : s.entriesWf) (hd : cs.Pairwise fun a b => keyOf a.1 a.2.1 ≠ keyOf b.1 b.2.1) (hm : (i, j, n) ∈ cs) :
    holds (numbersSet s cs) i j n := by
  induction cs generalizing s with
  | nil => cases hm
  | cons c cs ih =>
    obtain ⟨hc, hcs⟩ := List.pairwise_cons.mp hd
    rw [numbersSet_cons]
    rcases List.mem_cons.mp hm with rfl | hm
    · rw [holds, getBytes_numbersSet_ne fun x hx => (hc x hx).symm]
      exact holds_setN _ _ _ _ hw
    · exact ih (entriesWf_setN _ _ _ _ hw) hcs hm

theorem leBytes_mod (k n : Nat) : leBytes k (n % 256 ^ k) = leBytes k n := by
  induction k generalizing n with
  | zero => rfl
  | succ k ih =>
    have hd : 2 ^ 8 ∣ 256 ^ (k + 1) := Nat.dvd_mul_left 256 (256 ^ k)
    have hb : byte (n % 256 ^ (k + 1)) = byte n :=
      BitVec.eq_of_toNat_eq (by rw [byte, byte, BitVec.toNat_ofNat, BitVec.toNat_ofNat, Nat.mod_mod_of_dvd _ hd])
    have hr : n % 256 ^ (k + 1) / 256 = n / 256 % 256 ^ k := by rw [Nat.pow_succ', Nat.mod_mul_right_div_self]
    rw [leBytes, leBytes, hb, hr, ih]

/-- An entry holds numbers modulo its size. -/
theorem holds_mod {k : Nat} (h : entSize i j = k) : holds s i j (n % 256 ^ k) ↔ holds s i j n := by
  rw [holds, holds, h, leBytes_mod]

end Numbers

/-! ## Period updates (R417) -/

/-- The storage after a period update, before its values are published. -/
def limbsStored (s : State) (kind owner pe : Nat) (cs : List (Nat × Nat × Nat)) : State :=
  let limbs := (cs.map (changedLimbs s)).flatten
  let com := committedEnd s
  let s1 := noteUpdate (applyTarget (drainTo s Writer.metrology.cls) (.record recMarker (markerBytes 1 kind owner pe limbs com))) limbs
  applyTarget (limbs.foldl (fun a l => applyTarget a (.record l.1 (leBytes 4 l.2))) s1)
    (.record recMarker (markerBytes 0 kind owner pe limbs (max com pe)))

theorem periodUpdate_eq (s : State) (kind owner pe : Nat) (cs : List (Nat × Nat × Nat)) :
    periodUpdate s kind owner pe cs = numbersSet (limbsStored s kind owner pe cs) cs := rfl

theorem storageOnly_applyTarget (s : State) (t : Target) : StorageOnly s (applyTarget s t) := storageOnly_writePlaced ..

theorem law_limbsStored (s : State) (kind owner pe : Nat) (cs : List (Nat × Nat × Nat)) :
    Law 0x8000083f8 s (limbsStored s kind owner pe cs) := by
  refine Law.step (T := 0x800008338) (.foldl ?_ fun a l => (law_applyTarget a _).mono rfl) (law_applyTarget ..) rfl
  exact (((law_drainTo ..).mono rfl).step (law_applyTarget ..) rfl).step (law_noteUpdate ..) rfl

theorem storageOnly_limbsStored (s : State) (kind owner pe : Nat) (cs : List (Nat × Nat × Nat)) :
    StorageOnly s (limbsStored s kind owner pe cs) := by
  have h0 := (storageOnly_drainTo s Writer.metrology.cls).trans (storageOnly_applyTarget _ (.record recMarker
    (markerBytes 1 kind owner pe (cs.map (changedLimbs s)).flatten (committedEnd s))))
  have h1 : StorageOnly s (noteUpdate _ (cs.map (changedLimbs s)).flatten) := h0.same rfl rfl
  exact (h1.foldl (fun a l => storageOnly_applyTarget a _) _).trans (storageOnly_applyTarget ..)

/-- The entries of meters, counters and intervals show no page write. -/
theorem keyOf_ne_storage {i j : Nat} (hi : i < 0x2E00) (hj : j < 256) : ∀ k ∈ storageEntries, keyOf k.1 k.2 ≠ keyOf i j := by
  have hk : ∀ k ∈ storageEntries, 0x2E00 ≤ k.1 ∧ k.2 < 256 := by decide
  intro k m
  obtain ⟨h1, h2⟩ := hk k m
  exact keyOf_ne_of_index h2 hj (by omega)

theorem StorageOnly.getBytes_eq {s t : State} (h : StorageOnly s t) {i j : Nat} (hi : i < 0x2E00) (hj : j < 256) :
    getBytes t i j = getBytes s i j := h.entries i j (keyOf_ne_storage hi hj)

theorem storageOnly_keepSoFar (s : State) : StorageOnly s (keepSoFar s) := by
  unfold keepSoFar
  dsimp only
  split
  · exact storageOnly_writeNow ..
  · exact .refl s

/-- A period update leaves the entries that it does not list. -/
theorem getBytes_periodUpdate_ne {s : State} {kind owner pe i j : Nat} {cs : List (Nat × Nat × Nat)} (hi : i < 0x2E00) (hj : j < 256)
    (h : ∀ c ∈ cs, keyOf c.1 c.2.1 ≠ keyOf i j) : getBytes (periodUpdate s kind owner pe cs) i j = getBytes s i j := by
  rw [periodUpdate_eq, getBytes_numbersSet_ne h, (storageOnly_limbsStored ..).getBytes_eq hi hj]

theorem holds_periodUpdate {s : State} {kind owner pe i j n : Nat} {cs : List (Nat × Nat × Nat)} (hw : s.entriesWf)
    (hd : cs.Pairwise fun a b => keyOf a.1 a.2.1 ≠ keyOf b.1 b.2.1) (hm : (i, j, n) ∈ cs) :
    holds (periodUpdate s kind owner pe cs) i j n :=
  holds_numbersSet ((law_limbsStored ..).wf hw) hd hm

/-! ## What a period adds (R197 to R199; log 55) -/

/-- Which of a meter's registers takes energy of direction d: that of the interval's tariff. -/
def register (s : State) (d : Nat) : Nat := 4 * d + getN s 0x2240 0x05 % 4

/-- The error time after a faulted period. -/
def errorAdd (s : State) (m b : Nat) : Nat × Nat × Nat :=
  (0x2200 + m, 0x0B, (getN s (0x2200 + m) 0x0B + errorSeconds s m b) % 2 ^ 32)

/-- The volume total after a period whose volume counts. -/
def volumeAdd (s : State) (m : Nat) (c : PeriodCalc) : Nat × Nat × Nat :=
  (0x2200 + m, 0x0C, (getN s (0x2200 + m) 0x0C + (wholeUnits (dmul c.volume (f64 1000000)) (meterAt s m).volRest).1) % 2 ^ 64)

/-- The energy total of direction d after a period whose energy it takes. -/
def energyAdd (s : State) (m : Nat) (c : PeriodCalc) (d : Nat) : Nat × Nat × Nat :=
  (0x2200 + m, 0x30 + register s d, (getN s (0x2200 + m) (0x30 + register s d) +
    (wholeUnits (dmul (if d = 1 then dneg c.energy else c.energy) (f64 1000)) (vAt (meterAt s m).rest (register s d) 0)).1) % 2 ^ 128)

section Adds
variable {s : State} {m b d : Nat} {c : PeriodCalc}

theorem periodAdds_fst (s : State) (m b : Nat) (c : PeriodCalc) : (periodAdds s m b c).1 =
    (if c.faulted then [errorAdd s m b] else []) ++ (if c.counts then [volumeAdd s m c] else []) ++
      (energyTo s m c).toList.map (energyAdd s m c) := by
  unfold periodAdds
  cases energyTo s m c <;> cases c.counts <;> rfl

theorem mem_periodAdds {x : Nat × Nat × Nat} : x ∈ (periodAdds s m b c).1 ↔ (c.faulted = true ∧ x = errorAdd s m b) ∨
    (c.counts = true ∧ x = volumeAdd s m c) ∨ ∃ d, energyTo s m c = some d ∧ x = energyAdd s m c d := by
  rw [periodAdds_fst]
  cases c.faulted <;> cases c.counts <;> simp [eq_comm]

theorem energyTo_cases (h : energyTo s m c = some d) : d = 0 ∨ d = 1 := by
  unfold energyTo at h
  dsimp only at h
  repeat' split at h
  all_goals cases h
  · exact .inl rfl
  · exact .inr rfl

theorem energyTo_of_faulted (h : c.faulted = true) : energyTo s m c = none := by
  simp [energyTo, h]

section Sound
variable (hf : c.faulted = false)
include hf

/-- A sound period with at least the threshold heats, where the meter's direction allows it. -/
theorem energyTo_of_heating (h : dle (toF64 (getF s (0x2210 + m) 0x09)) (dsub c.sup c.ret) = true)
    (hd : getN s (0x2200 + m) 0x02 = 0 ∨ getN s (0x2200 + m) 0x02 = 2) : energyTo s m c = some 0 := by
  simp [energyTo, hf, h, hd]

theorem energyTo_of_cooling (h : dle (toF64 (getF s (0x2210 + m) 0x09)) (dsub c.sup c.ret) = false)
    (hc : dle (dsub c.sup c.ret) (dneg (toF64 (getF s (0x2210 + m) 0x09))) = true)
    (hd : getN s (0x2200 + m) 0x02 = 1 ∨ getN s (0x2200 + m) 0x02 = 2) : energyTo s m c = some 1 := by
  simp [energyTo, hf, h, hc, hd]

theorem energyTo_of_between (h : dle (toF64 (getF s (0x2210 + m) 0x09)) (dsub c.sup c.ret) = false)
    (hc : dle (dsub c.sup c.ret) (dneg (toF64 (getF s (0x2210 + m) 0x09))) = false) : energyTo s m c = none := by
  simp [energyTo, hf, h, hc]

end Sound

theorem counts_iff : c.counts = true ↔ (c.invalid || c.session || c.flowFault) = false := by
  simp [PeriodCalc.counts, and_assoc]

theorem register_lt (h : energyTo s m c = some d) : register s d < 8 := by
  have := Nat.mod_lt (getN s 0x2240 0x05) (show 0 < 4 by decide)
  unfold register
  obtain rfl | rfl := energyTo_cases h <;> omega

/-- A period changes each of its counters once. -/
theorem pairwise_periodAdds : (periodAdds s m b c).1.Pairwise fun x y => keyOf x.1 x.2.1 ≠ keyOf y.1 y.2.1 := by
  suffices h : (periodAdds s m b c).1.Pairwise fun x y => x.2.1 % 256 ≠ y.2.1 % 256 from h.imp keyOf_ne_of_sub
  rw [periodAdds_fst]
  cases he : energyTo s m c with
  | none => cases c.faulted <;> cases c.counts <;> simp [errorAdd, volumeAdd]
  | some d =>
    have := register_lt he
    cases c.faulted <;> cases c.counts <;> simp [errorAdd, volumeAdd, energyAdd] <;> omega

end Adds

/-! ## The end of a period (R193, R211, R212) -/

/-- The totals of meter m after its period that ends at b. -/
def periodAdded (s : State) (m b : Nat) : State :=
  let p := periodAdds s m b (periodCalc s m b)
  periodUpdate p.2 0 m b p.1

/-- The state in which the results of that period are shown. -/
def periodShown (s : State) (m b : Nat) : State :=
  showPeriod (periodAdded s m b) m (periodCalc s m b) (energyTo s m (periodCalc s m b))

/-- The state after that period. -/
def periodEnded (s : State) (m b : Nat) : State :=
  let c := periodCalc s m b
  startPeriod (periodConds (keepSoFar (slotPeriod (periodShown s m b) m b c (energyTo s m c))) m c) m b

section Ended
variable {s : State} {m b t0 i j n : Nat}

theorem runs_meteringPeriodEnd (hr : meterRuns s = true) (hm : m < 16) (he : getB s (0x2200 + m) 0x01 = true)
    (hs : (meterAt s m).start = some t0) (hb : boundary s t0 (periodMs s m) = some b) (ht : resultsTaken s m b = true) :
    runs (.meteringPeriodEnd m) s (periodEnded s m b) := by
  refine runs_doneIf (meterRuns s && decide (m < 16) && getB s (0x2200 + m) 0x01 && resultsTaken s m b) ?_ (by simp [hr, hm, he, ht])
  show execMeteringPeriodEnd m s = _
  simp only [execMeteringPeriodEnd, hs, Option.getD_some, hb]
  rfl

theorem start_periodEnded (hm : m < 16) : (meterAt (periodEnded s m b) m).start = some b := by
  simp [periodEnded, startPeriod, hm]

/-- From the shown results to the end of the period only the storage shows anything in entries. -/
theorem getBytes_periodEnded (hi : i < 0x2E00) (hj : j < 256) : getBytes (periodEnded s m b) i j = getBytes (periodShown s m b) i j := by
  unfold periodEnded
  dsimp only
  rw [getBytes_of_ents ((law_startPeriod ..).ents_eq rfl), getBytes_of_ents ((law_periodConds ..).ents_eq rfl),
    (storageOnly_keepSoFar _).getBytes_eq hi hj, getBytes_of_ents ((law_slotPeriod ..).ents_eq rfl)]

theorem onlyEntries_showPeriod (s : State) (m : Nat) (c : PeriodCalc) (dest : Option Nat) :
    onlyEntries ([3, 4, 5, 6, 7, 8, 9].map fun j => (0x2200 + m, j)) s (showPeriod s m c dest) := by
  unfold showPeriod
  dsimp only
  refine onlyEntries_setN _ _ _ (by simp) ?_
  repeat refine onlyEntries_setF _ _ _ (by simp) ?_
  exact .refl _ s

/-- The thermal power of a faulted period is NaN. -/
theorem holds_power_showPeriod {c : PeriodCalc} (hw : s.entriesWf) (hf : c.faulted = true) (m : Nat) (dest : Option Nat) :
    holds (showPeriod s m c dest) (0x2200 + m) 7 nan32.toNat := by
  unfold showPeriod
  dsimp only
  rw [if_pos hf, holds_setN_ne _ _ _ _ _ _ _ (keyOf_ne_of_sub (by decide)), holds_setF_ne _ _ _ _ _ _ _ (keyOf_ne_of_sub (by decide))]
  refine holds_setF _ _ _ _ ?_
  repeat refine entriesWf_setF _ _ _ _ ?_
  exact hw

theorem getBytes_periodAdds (s : State) (m b i j : Nat) (c : PeriodCalc) : getBytes (periodAdds s m b c).2 i j = getBytes s i j :=
  getBytes_of_ents ((law_periodAdds ..).ents_eq rfl) i j

theorem entriesWf_periodAdded (hw : s.entriesWf) : (periodAdded s m b).entriesWf :=
  (law_periodUpdate ..).wf ((law_periodAdds ..).wf hw)

theorem power_periodEnded (hw : s.entriesWf) (hm : m < 16) (hf : (periodCalc s m b).faulted = true) :
    getF (periodEnded s m b) (0x2200 + m) 7 = nan32 := by
  have h : ∀ m, m < 16 → entSize (0x2200 + m) 7 = 4 := by decide
  refine getF_of_holds ?_ (h m hm)
  rw [holds, getBytes_periodEnded (by omega) (by decide)]
  exact holds_power_showPeriod (entriesWf_periodAdded hw) hf _ _

/-- A meter's counters are not among its results. -/
theorem getBytes_periodEnded_of_counter (hi : i < 0x2E00) (hj : j < 256) (h9 : 9 < j) :
    getBytes (periodEnded s m b) i j = getBytes (periodAdded s m b) i j := by
  rw [getBytes_periodEnded hi hj]
  refine onlyEntries_showPeriod _ _ _ _ _ _ fun k hk => keyOf_ne_of_sub ?_
  simp only [List.mem_map, List.mem_cons, List.not_mem_nil, or_false] at hk
  obtain ⟨a, ha, rfl⟩ := hk
  omega

/-- A counter that the period does not add to stays. -/
theorem getBytes_periodEnded_of_not_added (hi : i < 0x2E00) (hj : j < 256) (h9 : 9 < j)
    (h : ∀ x ∈ (periodAdds s m b (periodCalc s m b)).1, keyOf x.1 x.2.1 ≠ keyOf i j) : getBytes (periodEnded s m b) i j = getBytes s i j := by
  rw [getBytes_periodEnded_of_counter hi hj h9, periodAdded, getBytes_periodUpdate_ne hi hj h, getBytes_periodAdds]

theorem holds_periodEnded_of_added (hw : s.entriesWf) (hi : i < 0x2E00) (hj : j < 256) (h9 : 9 < j)
    (h : (i, j, n) ∈ (periodAdds s m b (periodCalc s m b)).1) : holds (periodEnded s m b) i j n := by
  rw [holds, getBytes_periodEnded_of_counter hi hj h9]
  exact holds_periodUpdate ((law_periodAdds ..).wf hw) pairwise_periodAdds h

end Ended

/-- The sizes of a meter's counters. -/
theorem entSize_meter {m r : Nat} (hm : m < 16) (hr : r < 8) :
    entSize (0x2200 + m) 0x0B = 4 ∧ entSize (0x2200 + m) 0x0C = 8 ∧ entSize (0x2200 + m) (0x30 + r) = 16 := by
  have h : ∀ m, m < 16 → ∀ r, r < 8 → entSize (0x2200 + m) 0x0B = 4 ∧ entSize (0x2200 + m) 0x0C = 8 ∧
      entSize (0x2200 + m) (0x30 + r) = 16 := by decide +kernel
  exact h m hm r hr

section Totals
variable {s : State} {m b r : Nat}

/-- Another energy total than that of the period's direction and tariff stays. -/
theorem energy_periodEnded_of_other {j : Nat} (hj : j < 16) (hr : r < 8)
    (h : j ≠ m ∨ ∀ d, energyTo s m (periodCalc s m b) = some d → r ≠ register s d) :
    getBytes (periodEnded s m b) (0x2200 + j) (0x30 + r) = getBytes s (0x2200 + j) (0x30 + r) := by
  refine getBytes_periodEnded_of_not_added (by omega) (by omega) (by omega) fun x hx => ?_
  obtain ⟨-, rfl⟩ | ⟨-, rfl⟩ | ⟨d, hd, rfl⟩ := mem_periodAdds.mp hx
  · exact keyOf_ne_of_sub (by simp only [errorAdd]; omega)
  · exact keyOf_ne_of_sub (by simp only [volumeAdd]; omega)
  · have := register_lt hd
    rcases h with h | h
    · exact keyOf_ne_of_index (by simp only [energyAdd]; omega) (by omega) (by simp only [energyAdd]; omega)
    · have := h d hd
      exact keyOf_ne_of_sub (by simp only [energyAdd]; omega)

theorem energy_periodEnded {d : Nat} (hw : s.entriesWf) (hm : m < 16) (hd : energyTo s m (periodCalc s m b) = some d) :
    holds (periodEnded s m b) (0x2200 + m) (0x30 + register s d) (getN s (0x2200 + m) (0x30 + register s d) +
      (wholeUnits (dmul (if d = 1 then dneg (periodCalc s m b).energy else (periodCalc s m b).energy) (f64 1000))
        (vAt (meterAt s m).rest (register s d) 0)).1) := by
  have hr := register_lt hd
  rw [← holds_mod (entSize_meter hm hr).2.2]
  exact holds_periodEnded_of_added hw (by omega) (by omega) (by omega) (mem_periodAdds.mpr (.inr (.inr ⟨d, hd, rfl⟩)))

theorem error_periodEnded (hw : s.entriesWf) (hm : m < 16) (hf : (periodCalc s m b).faulted = true) :
    holds (periodEnded s m b) (0x2200 + m) 0x0B (getN s (0x2200 + m) 0x0B + errorSeconds s m b) := by
  rw [← holds_mod (entSize_meter hm (Nat.zero_lt_succ 7)).1]
  exact holds_periodEnded_of_added hw (by omega) (by decide) (by decide) (mem_periodAdds.mpr (.inl ⟨hf, rfl⟩))

theorem error_periodEnded_of_sound (hm : m < 16) (hf : (periodCalc s m b).faulted = false) :
    getN (periodEnded s m b) (0x2200 + m) 0x0B = getN s (0x2200 + m) 0x0B := by
  refine getN_of_bytes (getBytes_periodEnded_of_not_added (by omega) (by decide) (by decide) fun x hx => ?_)
  obtain ⟨h, -⟩ | ⟨-, rfl⟩ | ⟨d, hd, rfl⟩ := mem_periodAdds.mp hx
  · simp [hf] at h
  · exact keyOf_ne_of_sub (by simp [volumeAdd])
  · have := register_lt hd
    exact keyOf_ne_of_sub (by simp only [energyAdd]; omega)

theorem volume_periodEnded (hw : s.entriesWf) (hm : m < 16) (hc : (periodCalc s m b).counts = true) :
    holds (periodEnded s m b) (0x2200 + m) 0x0C (getN s (0x2200 + m) 0x0C +
      (wholeUnits (dmul (periodCalc s m b).volume (f64 1000000)) (meterAt s m).volRest).1) := by
  rw [← holds_mod (entSize_meter hm (Nat.zero_lt_succ 7)).2.1]
  exact holds_periodEnded_of_added hw (by omega) (by decide) (by decide) (mem_periodAdds.mpr (.inr (.inl ⟨hc, rfl⟩)))

theorem volume_periodEnded_of_not_counted (hm : m < 16) (hc : (periodCalc s m b).counts = false) :
    getN (periodEnded s m b) (0x2200 + m) 0x0C = getN s (0x2200 + m) 0x0C := by
  refine getN_of_bytes (getBytes_periodEnded_of_not_added (by omega) (by decide) (by decide) fun x hx => ?_)
  obtain ⟨-, rfl⟩ | ⟨h, -⟩ | ⟨d, hd, rfl⟩ := mem_periodAdds.mp hx
  · exact keyOf_ne_of_sub (by simp [errorAdd])
  · simp [hc] at h
  · have := register_lt hd
    exact keyOf_ne_of_sub (by simp only [energyAdd]; omega)

theorem errorSeconds_of_not_stepped {t0 : Nat} (hs : (meterAt s m).start = some t0) (h : (meterAt s m).stepped = false) :
    errorSeconds s m b = (b - t0) / 1000 := by
  simp [errorSeconds, hs, h]

/-- A period that ends one length after its start has as many seconds as its meter's setting. -/
theorem seconds_of_one_period {t0 : Nat} (hb : b = t0 + periodMs s m) (h1 : 1 ≤ getN s (0x2210 + m) 0x08) :
    (b - t0) / 1000 = getN s (0x2210 + m) 0x08 := by
  unfold periodMs at hb
  omega

end Totals

/-- Settles O45: what each counter of the meter holds, by where the period's energy and volume go. -/
theorem meteringPeriods : Obligations.MeteringPeriods := by
  unfold Obligations.MeteringPeriods
  intro m b t0 s hr hw hm he hs hb ht c t d th
  have hother {r : Nat} (h8 : r < 8) (h : ∀ d, energyTo s m c = some d → r ≠ register s d) :
      getN (periodEnded s m b) (0x2200 + m) (0x30 + r) = getN s (0x2200 + m) (0x30 + r) :=
    getN_of_bytes (energy_periodEnded_of_other hm h8 (.inr h))
  have hnone (h : energyTo s m c = none) : ∀ r, r < 8 →
      getN (periodEnded s m b) (0x2200 + m) (0x30 + r) = getN s (0x2200 + m) (0x30 + r) := fun r h8 => hother h8 (by simp [h])
  have herror (hf : c.faulted = true) (hn : (meterAt s m).stepped = false) :
      holds (periodEnded s m b) (0x2200 + m) 0x0B (getN s (0x2200 + m) 0x0B + (b - t0) / 1000) := by
    rw [← errorSeconds_of_not_stepped hs hn]
    exact error_periodEnded hw hm hf
  refine ⟨periodEnded s m b, runs_meteringPeriodEnd hr hm he hs hb ht, start_periodEnded hm,
    fun j r hj hne h8 => energy_periodEnded_of_other hj h8 (.inl hne), fun hf => ?_, error_periodEnded_of_sound hm,
    fun hf hh hd => ?_, fun hf hh hc hd => ?_, fun hf hh hc => hnone (energyTo_of_between hf hh hc), fun hc => ?_, fun hc => ?_⟩
  · refine ⟨hnone (energyTo_of_faulted hf), power_periodEnded hw hm hf, herror hf, fun hn h1 hT => ?_⟩
    rw [← seconds_of_one_period h1 hT]
    exact herror hf hn
  · have hto := energyTo_of_heating hf hh hd
    have ht0 : register s 0 = t := Nat.zero_add t
    have hadd := energy_periodEnded hw hm hto
    rw [ht0] at hadd
    exact ⟨hadd, fun r h8 hne => hother h8 (by simp [hto, ht0, hne])⟩
  · have hto := energyTo_of_cooling hf hh hc hd
    have ht1 : register s 1 = 4 + t := rfl
    have hadd := energy_periodEnded hw hm hto
    rw [ht1, ← Nat.add_assoc] at hadd
    exact ⟨hadd, fun r h8 hne => hother h8 (by simp [hto, ht1, hne])⟩
  · exact volume_periodEnded_of_not_counted hm (by simpa [hc] using counts_iff (c := c))
  · exact volume_periodEnded hw hm (counts_iff.mpr hc)

/-! ## The bytes of memory under writes of records (R34, R408, R413) -/

theorem programRun_mem {n page : Nat} {s y : State} {b : Bool} (h : programRun n s page = (b, y)) : y.stor.mem = s.stor.mem :=
  (Law.of_snd h (law_programRun n s page)).mem_eq rfl

theorem programPlaced_mem {s y : State} {p : Placed} {b : Bool} (h : programPlaced s p = (b, y)) : y.stor.mem = s.stor.mem := by
  obtain e | ⟨s1, id, k, c, -, e, rfl⟩ := programPlaced_cases h
  · exact programRun_mem e
  · exact programRun_mem (y := s1) e

/-- A copy of a record is no byte of memory. -/
theorem writePlaced_copy_mem (s : State) (id k : Nat) (c : Copy) : (writePlaced s (.copy id k c)).2.stor.mem = s.stor.mem := by
  unfold writePlaced
  split
  next s1 e =>
    rw [place, (law_pagesRewritten ..).mem_eq rfl, (law_countWrites ..).mem_eq rfl]
    exact programPlaced_mem (y := s1) e
  next s1 e => exact programPlaced_mem e

theorem drainTo_of_no_pend {s : State} (h : s.stor.pend = []) (cls : Nat) : drainTo s cls = s := by
  have hs : ({ s with stor := { s.stor with pend := [] } } : State) = s := by rw [← h]
  have hl (l : List Nat) : (l.map fun _ => ([] : List PendWrite)).flatten = [] := by
    induction l with
    | nil => rfl
    | cons c l ih => exact ih
  simp only [drainTo, h, List.filter_nil, hs, hl, List.foldl_nil]

theorem writeNow_record_mem {s : State} (h : s.stor.pend = []) (id : Nat) (d : Bytes) :
    (writeNow s (.record id d)).stor.mem = s.stor.mem := by
  unfold writeNow applyTarget
  rw [drainTo_of_no_pend h]
  split
  · exact writePlaced_copy_mem ..
  · rfl

/-- An operation on too many pages changes no byte of memory, and leaves no page write waiting. -/
theorem journalOp_stor_of_too_many {s : State} {is : List Image} (h : s.stor.pend = [])
    (hn : 246 < ((is.map fun i => resolve s i.target).map (pageImages s)).flatten.length) :
    (journalOp s is).stor.mem = s.stor.mem ∧ (journalOp s is).stor.pend = [] := by
  have hd : (if hamperFree s then drainTo s 4 else s) = s := by rw [drainTo_of_no_pend h, ite_self]
  unfold journalOp
  split
  · simp only [hd, if_pos hn, h, and_self]
  · split
    next i _ =>
      have hr := law_refuseWrite s i.writer 0 (targetAddr s i.target)
      exact ⟨hr.mem_eq rfl, (hr.pend_eq rfl).trans h⟩
    next => exact ⟨rfl, h⟩

theorem length_pageImages_copy (s : State) (id k : Nat) (c : Copy) : (pageImages s (.copy id k c)).length = recPages c.data.length := by
  simp [pageImages]

/-- An operation on a record with more data than the journal has pages for has too many. -/
theorem lt_pages_of_long_record {s : State} {is : List Image} {id : Nat} {d : Bytes} (hm : recordImage id d ∈ is)
    (hd : 31488 ≤ d.length) : 246 < ((is.map fun i => resolve s i.target).map (pageImages s)).flatten.length := by
  have hl : (pageImages s (resolve s (recordImage id d).target)).length = recPages d.length := length_pageImages_copy ..
  have hs : recPages d.length ≤ ((is.map fun i => resolve s i.target).map (pageImages s)).flatten.length := by
    have hp : pageImages s (resolve s (recordImage id d).target) ∈ (is.map fun i => resolve s i.target).map (pageImages s) :=
      List.mem_map.mpr ⟨_, List.mem_map.mpr ⟨_, hm, rfl⟩, rfl⟩
    rw [← hl]
    exact (List.sublist_flatten_of_mem hp).length_le
  unfold recPages at hs
  omega

/-! ## An interval's end in a state whose totals are longer than their type -/

theorem keepSoFar_mem {s : State} (h : s.stor.pend = []) : (keepSoFar s).stor.mem = s.stor.mem := by
  unfold keepSoFar
  dsimp only
  split
  · exact writeNow_record_mem h ..
  · rfl

/-- The images of the operation that appends a record. -/
def recordImages (s : State) (r starts dates : Bytes) : List Image :=
  [⟨.metrology, .bytes (recordAddr (recordCount s)) r⟩, recordImage recChain (sha256 r), recordImage recStart starts,
    recordImage recDates dates, keptImage s.kiln.queue, entryImage 0x2243 0x02 (leBytes 8 (recordCount s + 1))]

/-- Of the storage, appending a record changes what its operation changes. -/
theorem appendRecord_stor (s : State) (r starts dates : Bytes) :
    (appendRecord s r starts dates).stor = (journalOp s (recordImages s r starts dates)).stor := by
  refine (apply_ite State.stor _ _ _).trans ?_
  simp only [raiseHeld_stor, addN_stor, setN_stor, ite_self]
  rfl

/-- A record whose starting values find no room in the journal leaves the bytes of memory. -/
theorem appendRecord_stor_of_long_starts {s : State} {r starts dates : Bytes} (h : s.stor.pend = []) (hl : 31488 ≤ starts.length) :
    (appendRecord s r starts dates).stor.mem = s.stor.mem ∧ (appendRecord s r starts dates).stor.pend = [] := by
  rw [appendRecord_stor]
  exact journalOp_stor_of_too_many h (lt_pages_of_long_record (id := recStart) (by simp [recordImages]) hl)

theorem foldl_stor {α : Type} {f : State → α → State} (h : ∀ a x, (f a x).stor = a.stor) (l : List α) (s : State) :
    (l.foldl f s).stor = s.stor := by
  induction l generalizing s with
  | nil => rfl
  | cons x l ih => rw [List.foldl_cons, ih, h]

/-- The state in which an interval has begun at t, before it is kept. -/
def intervalBegun (s : State) (t len tariff flags : Nat) : State :=
  let s1 := (List.range 16).foldl (fun a m => updMeter a m fun x => { x with errTime := 0, slotFlags := 0 }) s
  let s2 := (List.range 32).foldl (fun a q => setN a (0x2220 + q) 0x07 0)
    ((List.range 16).foldl (fun a m => setN a (0x2200 + m) 0x0A tariff) s1)
  let s3 := setN (setN (setN s2 0x2243 0x01 t) 0x2240 0x05 tariff) 0x2243 0x03 (flags + bitVal (!timeTrusted s) 2 + bitVal s.cal.open_ 5)
  { s3 with interval := ⟨true, len, pulseFlagsNow s3, metersNow s3⟩ }

theorem startInterval_eq (s : State) (t len tariff flags : Nat) :
    startInterval s t len tariff flags = keepSoFar (intervalBegun s t len tariff flags) := rfl

theorem intervalBegun_stor (s : State) (t len tariff flags : Nat) : (intervalBegun s t len tariff flags).stor = s.stor := by
  unfold intervalBegun
  simp only [setN_stor, foldl_stor, implies_true]
  exact foldl_stor (by intro _ _; rfl) _ _

theorem startInterval_mem {s : State} (h : s.stor.pend = []) (t len tariff flags : Nat) :
    (startInterval s t len tariff flags).stor.mem = s.stor.mem := by
  rw [startInterval_eq, keepSoFar_mem] <;> rw [intervalBegun_stor]
  exact h

/-- The starting values hold the first energy total. -/
theorem length_total_le_startBytes (s : State) (on : Bool) (start len tariff : Nat) :
    (getBytes s 0x2200 0x30).length ≤ (startBytes s on start len tariff).length := by
  have hr : (getBytes s 0x2200 0x30).Sublist ((List.range 8).map fun r => getBytes s 0x2200 (0x30 + r)).flatten :=
    List.sublist_flatten_of_mem (List.mem_map.mpr ⟨0, by simp, rfl⟩)
  have hm := List.sublist_flatten_of_mem (List.mem_map.mpr ⟨0, List.mem_range.mpr (by decide : 0 < 16), rfl⟩
    : _ ∈ (List.range 16).map fun m =>
      ((List.range 8).map fun r => getBytes s (0x2200 + m) (0x30 + r)).flatten ++ getBytes s (0x2200 + m) 0x0C)
  have hle := (hr.trans ((List.sublist_append_left _ _).trans hm)).length_le
  simp only [startBytes, List.length_append]
  omega

/-- The state at an interval's end whose totals, tariff and saturated increments the record finds. -/
def totalsShown (s : State) : State := showTariff (showSaturated s (startRecord s) s.interval.meterMask)

theorem law_totalsShown (s : State) : Law 0x8208 s (totalsShown s) :=
  ((law_showSaturated ..).mono rfl).step (law_showTariff _) rfl

theorem getBytes_totalsShown {s : State} {i j : Nat} (h : keyOf 0x2240 6 ≠ keyOf i j) : getBytes (totalsShown s) i j = getBytes s i j :=
  (getBytes_setN_ne _ _ _ _ _ _ h).trans (getBytes_of_ents ((law_showSaturated ..).ents_eq rfl) i j)

/-- Without a billing date and a new local date, an interval's end appends its record and starts the next one. -/
theorem runs_intervalEnd_of_no_new_date {s : State} {b : Nat} (hr : meterRuns s = true)
    (hb : boundary s (getN s 0x2243 0x01) (60000 * max 1 s.interval.length) = some b) (hp : periodsEnded s b = true)
    (hm : minuteSettled s = true) (hbill : lastBilling s (localDate s b) = none) (hday : localDate s b ≤ lastDate s) :
    ∃ r dates len tariff flags, runs .intervalEnd s (showBilling (startInterval
      (appendRecord (totalsShown s) r (startBytes (totalsShown s) true b len tariff) dates) b len tariff flags)) := by
  have he : exec .intervalEnd s = execIntervalEnd s := rfl
  simp only [execIntervalEnd, hb, hbill, decide_eq_false (Nat.not_lt.mpr hday), Bool.false_eq_true, if_false] at he
  exact ⟨_, _, _, _, _, runs_doneIf _ he (by simp [hr, hp, hm])⟩

/-- What a command's run leaves of memory, whatever events fire. -/
theorem mem_of_runs {c : Instr} {s u v : State} (hu : runs c s u) (hv : runs c s v) : u.stor.mem = v.stor.mem := by
  have he : flushEvents u = flushEvents v := by simpa using hu.symm.trans hv
  rw [← (law_flushEvents u).mem_eq rfl, he, (law_flushEvents v).mem_eq rfl]

/-- A minute after the reset an interval of one minute ends, in a state in which the first energy total has 31 488 bytes: they fill the
246 pages that one operation may change. -/
def longTotal : State :=
  { State.reset with
    power := { State.reset.power with phase := .up }
    thermos := { State.reset.thermos with secs := 60 }
    clock := { State.reset.clock with lastMinute := 1 }
    interval := ⟨true, 1, 0, 0⟩
    ents := [(keyOf 0x2200 0x30, List.replicate 31488 0)] }

theorem longTotal_ends : meterRuns longTotal = true ∧ mapWf longTotal.ents = true ∧ (chainHead longTotal).length = 32 ∧
    boundary longTotal (getN longTotal 0x2243 0x01) (60000 * max 1 longTotal.interval.length) = some 60000 ∧
    periodsEnded longTotal 60000 = true ∧ minuteSettled longTotal = true ∧
    lastBilling longTotal (localDate longTotal 60000) = none ∧ localDate longTotal 60000 ≤ lastDate longTotal := by
  decide +kernel

theorem length_longTotal : (getBytes longTotal 0x2200 0x30).length = 31488 := List.length_replicate

/-- The end of that interval writes no byte. -/
theorem mem_of_runs_longTotal {u : State} (hu : runs .intervalEnd longTotal u) : u.stor.mem = [] := by
  obtain ⟨hr, -, -, hb, he, hm, hbill, hday⟩ := longTotal_ends
  obtain ⟨r, dates, len, tariff, flags, hv⟩ := runs_intervalEnd_of_no_new_date hr hb he hm hbill hday
  have hp : (totalsShown longTotal).stor.pend = [] := (law_totalsShown longTotal).pend_eq rfl
  have hl := length_total_le_startBytes (totalsShown longTotal) true 60000 len tariff
  rw [getBytes_totalsShown (by decide), length_longTotal] at hl
  obtain ⟨hmem, hpend⟩ := appendRecord_stor_of_long_starts (r := r) (dates := dates) hp hl
  rw [mem_of_runs hu hv, (law_showBilling _).mem_eq rfl, startInterval_mem hpend, hmem]
  exact (law_totalsShown longTotal).mem_eq rfl

/-- Refutes O46: the statement bounds the length of the chain head, but of no other value that the record's operation stores. In
`longTotal` the table of entries is in canonical form, but an energy total has 31 488 bytes in place of 16; the next starting values then
need more than the 246 pages of an operation (R413), and the record is not written. -/
theorem not_pulsesAndIntervals : ¬ Obligations.PulsesAndIntervals := by
  unfold Obligations.PulsesAndIntervals
  rintro ⟨-, hends⟩
  obtain ⟨hr, hw, hc, hb, he, hm, -, -⟩ := longTotal_ends
  obtain ⟨u, r, hu, hmem, hl, hmagic, -⟩ := hends 60000 longTotal hr hw hc hb he hm (fun _ hp => absurd hp List.not_mem_nil)
    rfl (Nat.zero_le 40)
  have hlen : 0 < r.length := by omega
  have hread := memRead_writes_in [] (recordAddr (recordCount longTotal)) r 0 hlen rfl
  have hmem' : memWrites [] (recordAddr (recordCount longTotal)) r = [] := hmem.symm.trans (mem_of_runs_longTotal hu)
  have hfirst : r[0] = 0x54 := by
    have h := congrArg (·[0]?) hmagic
    simpa [hlen, leBytes, byte] using h
  rw [hmem', hfirst] at hread
  exact absurd hread (by decide)

end Sys2Proof.Machine

namespace Sys2Proof.Machine

/-! ## Entries under the event triggers (R72) -/

section Flush
variable {s : State} {j : Nat} (hj : j % 256 ≠ 0x0C ∧ j % 256 ≠ 0x20) (i n : Nat)
include hj

/-- A publication that finds no place is counted in subindex 0C of its path; queueing one writes no entry. -/
theorem getBytes_pushPub (k : Nat) (f : Frame) : getBytes (pushPub s k n f) i j = getBytes s i j := by
  unfold pushPub
  dsimp only
  split
  · rfl
  · split
    · exact (getBytes_of_ents (raise_ents ..) i j).trans (getBytes_setN_ne _ _ _ _ _ _ (keyOf_ne_of_sub hj.1.symm))
    · rfl

theorem getBytes_pubSend : getBytes (pubSend s n) i j = getBytes s i j := by
  have hp : getBytes (pushPub s 0 n (pubFrame s n (.publication n) true)) i j = getBytes s i j := getBytes_pushPub hj i n 0 _
  unfold pubSend
  dsimp only
  split
  · split
    · exact (getBytes_of_ents ((law_pushCopy ..).ents_eq rfl) i j).trans hp
    · exact hp
  · exact hp

theorem getBytes_pubFire : getBytes (pubFire s n) i j = getBytes s i j := by
  unfold pubFire
  split
  · rfl
  · split
    · exact getBytes_setN_ne _ _ _ _ _ _ (keyOf_ne_of_sub hj.2.symm)
    · exact getBytes_pubSend hj i n

/-- Event triggers write no entry but subindices 0C and 20. -/
theorem getBytes_flushEvents : getBytes (flushEvents s) i j = getBytes s i j := by
  have hfold (l : List Nat) (a : State) :
      getBytes (l.foldl (fun a n => if eventHits s n then pubFire a n else a) a) i j = getBytes a i j := by
    induction l generalizing a with
    | nil => rfl
    | cons n l ih =>
      rw [List.foldl_cons, ih]
      split
      · exact getBytes_pubFire hj i n
      · rfl
  unfold flushEvents
  split
  · rfl
  · exact hfold _ s

/-- What a command's run leaves of such an entry, whatever events fire. -/
theorem getF_of_runs {c : Instr} {u v : State} (hu : runs c s u) (hv : runs c s v) : getF u i j = getF v i j := by
  have he : flushEvents u = flushEvents v := by simpa using hu.symm.trans hv
  unfold getF getN
  rw [← getBytes_flushEvents hj i (s := u), he, getBytes_flushEvents hj i (s := v)]

end Flush

/-! ## A zone's evaluation in a state whose trip mode is longer than its type -/

/-- The state after an evaluation of zone z, before events fire. -/
def zoneEvaluated (s : State) (z : Nat) : State :=
  evaluateZone (updZone s z fun x => { x with lastSecond := some (devTime s / 1000) }) z

theorem runs_zoneEvaluation {s : State} {z : Nat} (hu : isUp s = true) (hz : z < 32) (hon : zoneOn s z = true)
    (hs : (zoneAt s z).lastSecond ≠ some (devTime s / 1000)) : runs (.zoneEvaluation z) s (zoneEvaluated s z) :=
  runs_doneIf _ rfl (by simp [hu, hz, hon, hs])

/-- Zone 0 is tripped and its request has expired. The trip mode has three bytes: with it, the heating setpoint 2820.(02 + mode) has the
key of 2C20.08, the sequence of the latest audit entry. -/
def longTripMode : State :=
  { State.reset with
    power := { State.reset.power with phase := .up }
    thermos := { State.reset.thermos with secs := 60 }
    conds := [⟨0x7060, true, 0⟩]
    ents := [(keyOf 0x2800 0x01, [1]), (keyOf 0x2800 0x02, [1]), (keyOf 0x2800 0x10, leBytes 8 5),
      (keyOf 0x2820 0x1C, leBytes 3 0x40006), (keyOf 0x2C20 0x08, leBytes 4 5)] }

theorem longTripMode_evaluates : isUp longTripMode = true ∧ mapWf longTripMode.ents = true ∧ zoneOn longTripMode 0 = true ∧
    (zoneAt longTripMode 0).lastSecond ≠ some (devTime longTripMode / 1000) ∧ zoneTripped longTripMode 0 = true ∧
    getN longTripMode 0x2820 0x1C = 0x40006 ∧ getF longTripMode 0x2820 (0x02 + 0x40006) = 5#32 := by
  decide +kernel

/-- The end of the request is an audited write, and the setpoint shown is the sequence after it. -/
theorem heating_zoneEvaluated_longTripMode : getF (zoneEvaluated longTripMode 0) 0x2800 0x08 = 6#32 := by
  decide +kernel

/-- Refutes O49: the statement reads the setpoints in the state before the evaluation, and bounds no entry's length. In `longTripMode`
the table of entries is in canonical form, but the trip mode is no mode (R261): the entry taken as its heating setpoint is one that the
end of the expired request changes (R263, R309) before the setpoints are shown. -/
theorem not_zoneModes : ¬ Obligations.ZoneModes := by
  unfold Obligations.ZoneModes
  rintro ⟨hz, -⟩
  obtain ⟨hup, hw, hon, hsec, htrip, hmode, hbefore⟩ := longTripMode_evaluates
  obtain ⟨u, m, why, hu, -, -, hheat, -, hm, -⟩ := hz 0 longTripMode hup hw (by decide) hon hsec
  have hm6 : m = 0x40006 := (hm htrip).1.trans hmode
  have hafter : getF u 0x2800 0x08 = 6#32 :=
    (getF_of_runs (by decide) 0x2800 hu (runs_zoneEvaluation hup (by decide) hon hsec)).trans heating_zoneEvaluated_longTripMode
  rw [hm6, if_neg (by decide)] at hheat
  exact absurd (hafter.symm.trans (hheat.trans hbefore)) (by decide)

/-! ## The request's expiry under two names of one key -/

/-- Two names of one key read one value, unless it is the default that the first name has. -/
theorem getBytes_of_keyOf_eq {s : State} {i j a b : Nat} {v : Bytes} (hk : keyOf i j = keyOf a b) (h : getBytes s i j = v)
    (hv : v ≠ dfltBytes i j) : getBytes s a b = v := by
  unfold getBytes at h ⊢
  rw [← hk]
  cases hg : mapGet s.ents (keyOf i j) with
  | none => rw [hg] at h; exact absurd h.symm hv
  | some x => rwa [hg] at h

/-- The request of zone 0 is Protect (R261), and its expiry at 5 ms has passed. -/
def requestPast : State :=
  { State.reset with
    power := { State.reset.power with phase := .up }
    thermos := { State.reset.thermos with secs := 60 }
    ents := [(keyOf 0x2800 0x02, [1]), (keyOf 0x2800 0x10, leBytes 8 5)] }

theorem requestPast_expired : isUp requestPast = true ∧ mapWf requestPast.ents = true ∧ requestExpired requestPast 0 = true ∧
    getBytes requestPast 0x27FF 0x102 = [1] ∧ [(1 : Byte)] ≠ dfltBytes 0x27FF 0x102 ∧ leBytes (entSize 0x2800 0x02) 255 ≠ [1] := by
  decide +kernel

/-- Refutes O50: REQUEST_EXPIRY is said to leave every entry below 2C00 whose index and subindex are not those of three entries, for
every number as subindex. The name 27FF.102 has the key of 2800.02 (`keyOf`), which the same clause says becomes 255: in `requestPast`
it would have to stay 1. -/
theorem not_zonePresence : ¬ Obligations.ZonePresence := by
  unfold Obligations.ZonePresence
  rintro ⟨-, -, -, hexpiry, -, -, -⟩
  obtain ⟨hup, hw, hx, hone, hdflt, hne⟩ := requestPast_expired
  obtain ⟨u, -, hnone, -, -, hframe, -⟩ := hexpiry 0 requestPast hup hw (by decide) hx
  have halias : getBytes u 0x27FF 0x102 = [1] := (hframe 0x27FF 0x102 (by decide) (by decide)).trans hone
  exact hne (hnone.symm.trans (getBytes_of_keyOf_eq (i := 0x27FF) (j := 0x102) rfl halias hdflt))

end Sys2Proof.Machine

namespace Sys2Proof.Machine

/-! ## The end of a brown-out (R463) -/

/-- At instant t the warning is over and no page write is cut by it any more; metrology waits for the next whole second where step 8 of
the start-up was done. -/
def warningOver (s : State) (t : Nat) : State :=
  let s1 := advance s t
  { s1 with stor := { s1.stor with cut := none }, power := { s1.power with
    warning := none, validAt := if s1.power.step8 then some (devRef s1 / refSec + 1) else none } }

/-- The brown-out since w is counted in both counters and its duration shown (R449); the cause of 0xF001 is absent. -/
def brownOutCounted (s : State) (t w : Nat) : State :=
  causeGone (setN (addN (addN (warningOver s t) 0x3000 0x0C 1) 0x2F10 0x04 1) 0x3000 0x0D ((t - w) / 24)) 0xF001

section BrownOut
variable {s : State} {t w : Nat}

theorem runs_brownOutEnd (hc : coreRuns s = true) (hw : s.power.warning = some w) (hr : s.clock.ref ≤ t) (hd : dueRef s t = true)
    (ht : t ≤ w + 2400000) : runs (.brownOutEnd t) s (if (brownOutCounted s t w).power.entry.isSome then brownOutCounted s t w
      else commitHeld (displayResume (brownOutCounted s t w))) := by
  have he : exec (.brownOutEnd t) s = execBrownOutEnd t s := rfl
  simp only [execBrownOutEnd, hw, hc, Bool.not_true, Bool.false_eq_true, if_false] at he
  exact runs_doneIf _ he (by simp [hr, hd, ht, refMs])

theorem runs_brownOutEnd_of_no_core (hc : coreRuns s = false) (hw : s.power.warning = some w) :
    runs (.brownOutEnd t) s { s with power := { s.power with warning := none } } := by
  have he : exec (.brownOutEnd t) s = execBrownOutEnd t s := rfl
  simp only [execBrownOutEnd, hw, hc, Bool.not_false, if_true] at he
  exact he

theorem brownOutCounted_power (s : State) (t w : Nat) : (brownOutCounted s t w).power = (warningOver s t).power := by
  simp only [brownOutCounted, causeGone_power, setN_power, addN_power]

theorem brownOutCounted_clock (s : State) (t w : Nat) : (brownOutCounted s t w).clock = (advance s t).clock := by
  simp only [brownOutCounted, causeGone_clock, setN_clock, addN_clock]
  rfl

theorem brownOutCounted_stor (s : State) (t w : Nat) : (brownOutCounted s t w).stor = { s.stor with cut := none } := by
  simp only [brownOutCounted, causeGone_stor, setN_stor, addN_stor]
  rfl

theorem raised_brownOutCounted (s : State) (t w c : Nat) : raised (brownOutCounted s t w) c = raised s c := by
  simp only [brownOutCounted, raised_causeGone, raised_setN, raised_addN]
  rfl

theorem onlyEntries_brownOutCounted (s : State) (t w : Nat) :
    onlyEntries [(0x3000, 0x0C), (0x2F10, 0x04), (0x3000, 0x0D)] s (brownOutCounted s t w) := by
  refine (onlyEntries_setN _ _ _ (by decide) (onlyEntries_addN _ _ _ (by decide) (onlyEntries_addN _ _ _ (by decide) ?_))).of_ents
    (causeGone_ents ..)
  exact onlyEntries_of_ents (s := s) (t := warningOver s t) rfl _

/-- Each of the three entries is written once, so it holds what its own write gave it. -/
theorem holds_brownOutCounted (hw : s.entriesWf) (t w : Nat) :
    holds (brownOutCounted s t w) 0x3000 0x0C (getN s 0x3000 0x0C + 1) ∧
    holds (brownOutCounted s t w) 0x2F10 0x04 (getN s 0x2F10 0x04 + 1) ∧
    holds (brownOutCounted s t w) 0x3000 0x0D ((t - w) / 24) := by
  have h1 : (warningOver s t).entriesWf := hw
  have h2 := entriesWf_addN _ 0x3000 0x0C 1 h1
  have h3 := entriesWf_addN _ 0x2F10 0x04 1 h2
  have hsince := holds_addN (warningOver s t) 0x3000 0x0C 1 h1
  have hlife := holds_addN (addN (warningOver s t) 0x3000 0x0C 1) 0x2F10 0x04 1 h2
  rw [getN_addN_ne _ _ _ _ _ _ (by decide)] at hlife
  simp only [brownOutCounted, holds_causeGone]
  refine ⟨?_, ?_, holds_setN _ _ _ _ h3⟩
  · rw [holds_setN_ne _ _ _ _ _ _ _ (by decide), holds_addN_ne _ _ _ _ _ _ _ (by decide)]
    exact hsince
  · rw [holds_setN_ne _ _ _ _ _ _ _ (by decide)]
    exact hlife

end BrownOut

/-- Settles O11: the state in which the brown-out has been counted is the one from which BROWN_OUT_END completes. -/
theorem brownOutCounts : Obligations.BrownOutCounts := by
  unfold Obligations.BrownOutCounts
  refine ⟨fun t w s hc hw hr hd ht hwf => ?_, fun t w s hc hw => runs_brownOutEnd_of_no_core hc hw⟩
  have hp := brownOutCounted_power s t w
  obtain ⟨hsince, hlife, hlast⟩ := holds_brownOutCounted hwf t w
  refine ⟨brownOutCounted s t w, ?_, ?_, ?_, hsince, hlife, hlast, onlyEntries_brownOutCounted s t w,
    raised_brownOutCounted s t w, brownOutCounted_stor s t w, runs_brownOutEnd hc hw hr hd ht⟩
  · rw [hp]; rfl
  · rw [brownOutCounted_clock]; exact Nat.max_eq_right hr
  · rw [hp]; rfl

end Sys2Proof.Machine

namespace Sys2Proof.Machine

/-! ## The bytes that page writes put in place (R34, R408) -/

theorem memWrites_append (m : List Host.Cell) (a : Nat) (x y : Bytes) :
    memWrites m a (x ++ y) = memWrites (memWrites m a x) (a + x.length) y := by
  induction x generalizing m a with
  | nil => rfl
  | cons b x ih =>
    have ha : a + 1 + x.length = a + (x.length + 1) := by omega
    simp only [List.cons_append, List.length_cons, memWrites, ih, ha]

theorem pageWrites_nil (n : Nat) (m : List Host.Cell) (a : Nat) : pageWrites n m a [] = m := by
  induction n generalizing m a with
  | zero => rfl
  | succ n ih => simp only [pageWrites, rawPageWrite, List.take_nil, List.drop_nil, memWrites, ih]

/-- Page by page the same bytes are written as at once, where there is a raw page write for each page. -/
theorem pageWrites_eq {n a : Nat} {d : Bytes} (m : List Host.Cell) (h : a % 128 + d.length ≤ 128 * n) :
    pageWrites n m a d = memWrites m a d := by
  induction n generalizing m a d with
  | zero =>
    have hd : d = [] := List.eq_nil_of_length_eq_zero (by omega)
    rw [hd]
    rfl
  | succ n ih =>
    unfold pageWrites rawPageWrite
    by_cases hl : d.length ≤ 128 - a % 128
    · simp only [List.take_of_length_le hl, List.drop_length, pageWrites_nil]
    · have hk : (d.take (128 - a % 128)).length = 128 - a % 128 := List.length_take_of_le (by omega)
      dsimp only
      rw [ih _ (by rw [List.length_drop, hk]; omega), hk]
      have happ := memWrites_append m a (d.take (128 - a % 128)) (d.drop (128 - a % 128))
      rw [List.take_append_drop, hk] at happ
      exact happ.symm

/-- Memory after a placed target has been put in place: only bytes at an address are bytes of memory. -/
def placedBytes (m : List Host.Cell) : Placed → List Host.Cell
  | .bytes a d => memWrites m a d
  | _ => m

/-- Memory after a target has been written. -/
def targetBytes (m : List Host.Cell) : Target → List Host.Cell
  | .bytes a d => memWrites m a d
  | _ => m

theorem placedBytes_resolve (s : State) (m : List Host.Cell) (t : Target) : placedBytes m (resolve s t) = targetBytes m t := by
  cases t <;> rfl

theorem targetBytes_of_no_bytes {t : Target} (h : ∀ a d, t ≠ .bytes a d) (m : List Host.Cell) : targetBytes m t = m := by
  cases t with
  | bytes a d => exact absurd rfl (h a d)
  | record | cell | row => rfl

section Place
variable (s : State)

theorem place_mem (p : Placed) : (place s p).stor.mem = placedBytes s.stor.mem p := by
  rw [place, (law_pagesRewritten ..).mem_eq rfl, (law_countWrites ..).mem_eq rfl]
  cases p with
  | bytes a d => exact pageWrites_eq _ (by unfold pagesOf; omega)
  | copy | cell | row => rfl

theorem pagesRewritten_tape (first n : Nat) : (pagesRewritten s first n).stor.tape = s.stor.tape := by
  unfold pagesRewritten
  dsimp only
  split
  · rfl
  · split
    · rw [dropCond_stor, setBit_stor]
    · rfl

theorem place_tape (p : Placed) : (place s p).stor.tape = s.stor.tape := by
  rw [place, pagesRewritten_tape, (law_countWrites ..).tape_eq rfl]
  cases p <;> rfl

end Place

/-! ## Page writes whose read-backs all agree (R405) -/

section NoTape
variable {s : State} (h : s.stor.tape = [])
include h

theorem programPage_of_no_tape (page : Nat) : programPage s page = (true, s) := by
  simp only [programPage, readBack, h]

theorem programRun_of_no_tape (n page : Nat) : programRun n s page = (true, s) := by
  induction n generalizing page with
  | zero => rfl
  | succ n ih => simp only [programRun, programPage_of_no_tape h, ih]

theorem writePlaced_of_no_tape (p : Placed) : writePlaced s p = (true, place s p) := by
  simp only [writePlaced, programPlaced, programRun_of_no_tape h]

/-- The target is put in place, and no read-back is spent. -/
theorem writePlaced_stor (p : Placed) : (writePlaced s p).2.stor.mem = placedBytes s.stor.mem p ∧ (writePlaced s p).2.stor.tape = [] := by
  rw [writePlaced_of_no_tape h]
  exact ⟨place_mem s p, (place_tape s p).trans h⟩

theorem foldl_writePlaced_stor (ps : List Placed) :
    (ps.foldl (fun a p => (writePlaced a p).2) s).stor.mem = ps.foldl placedBytes s.stor.mem ∧
    (ps.foldl (fun a p => (writePlaced a p).2) s).stor.tape = [] := by
  induction ps generalizing s with
  | nil => exact ⟨rfl, h⟩
  | cons p ps ih =>
    obtain ⟨hm, ht⟩ := writePlaced_stor h p
    rw [List.foldl_cons, List.foldl_cons, ← hm]
    exact ih ht

theorem landWrite_stor {p : PendWrite} (hp : ∀ a d, p.target ≠ .bytes a d) :
    (landWrite s p).stor.mem = s.stor.mem ∧ (landWrite s p).stor.tape = [] := by
  unfold landWrite storeTarget
  split
  · have hr := law_refuseWrite s p.writer p.cls (targetAddr s p.target)
    exact ⟨hr.mem_eq rfl, (hr.tape_eq rfl).trans h⟩
  · obtain ⟨hm, ht⟩ := writePlaced_stor h (resolve s p.target)
    rw [placedBytes_resolve, targetBytes_of_no_bytes hp] at hm
    exact ⟨hm, ht⟩

theorem foldl_landWrite_stor {l : List PendWrite} (hl : ∀ p ∈ l, ∀ a d, p.target ≠ .bytes a d) :
    (l.foldl landWrite s).stor.mem = s.stor.mem ∧ (l.foldl landWrite s).stor.tape = [] := by
  induction l generalizing s with
  | nil => exact ⟨rfl, h⟩
  | cons p l ih =>
    obtain ⟨hm, ht⟩ := landWrite_stor h (hl p List.mem_cons_self)
    rw [List.foldl_cons, ← hm]
    exact ih ht fun q hq => hl q (List.mem_cons_of_mem p hq)

/-- An operation writes its list and images, then its targets in list order. -/
theorem journalRun_stor (ps : List Placed) (pages : List (Nat × Bytes)) :
    (journalRun s ps pages).stor.mem = ps.foldl placedBytes s.stor.mem ∧ (journalRun s ps pages).stor.tape = [] := by
  simp only [journalRun, programRun_of_no_tape h]
  generalize hx : pagesRewritten _ _ _ = x
  have hxm : x.stor.mem = s.stor.mem := by
    rw [← hx, (law_pagesRewritten ..).mem_eq rfl, (law_pagesRewritten ..).mem_eq rfl, (law_countWrites ..).mem_eq rfl]
  have hxt : x.stor.tape = [] := by
    rw [← hx, pagesRewritten_tape, pagesRewritten_tape, (law_countWrites ..).tape_eq rfl]
    exact h
  rw [writePlaced_of_no_tape hxt]
  dsimp only
  obtain ⟨hm, ht⟩ := foldl_writePlaced_stor ((place_tape x _).trans hxt) ps
  obtain ⟨hum, hut⟩ := writePlaced_stor ht (resolve _ (.record recCommit _))
  exact ⟨by rw [applyTarget, hum, placedBytes_resolve, hm, place_mem, placedBytes_resolve, hxm]; rfl, hut⟩

end NoTape

/-- No read-back is known to differ, and no page write of bytes waits. -/
structure BytesSettled (s : State) : Prop where
  tape : s.stor.tape = []
  pend : ∀ p ∈ s.stor.pend, ∀ a d, p.target ≠ .bytes a d


namespace BytesSettled
variable {s : State} (h : BytesSettled s)
include h

theorem of_stor {t : State} (e : t.stor = s.stor) : BytesSettled t := by
  constructor <;> rw [e]
  · exact h.tape
  · exact h.pend

/-- The writes that a write of a class waits for leave memory, and it stays settled. -/
theorem after_drainTo (cls : Nat) : (drainTo s cls).stor.mem = s.stor.mem ∧ BytesSettled (drainTo s cls) := by
  have hl : ∀ p ∈ ((List.range (cls + 1)).map fun c => s.stor.pend.filter fun p => p.cls == c).flatten, ∀ a d,
      p.target ≠ .bytes a d := by
    intro p hp
    obtain ⟨_, hl, hp⟩ := List.mem_flatten.mp hp
    obtain ⟨c, -, rfl⟩ := List.mem_map.mp hl
    exact h.pend p (List.mem_filter.mp hp).1
  obtain ⟨hm, ht⟩ := foldl_landWrite_stor
    (s := { s with stor := { s.stor with pend := s.stor.pend.filter fun p => decide (cls < p.cls) } }) h.tape hl
  refine ⟨hm, ht, fun p hp => ?_⟩
  rw [drainTo, (Law.foldl (.refl _ _) law_landWrite).pend_eq rfl] at hp
  exact h.pend p (List.mem_filter.mp hp).1

theorem after_issued : (if hamperFree s then drainTo s 4 else s).stor.mem = s.stor.mem ∧
    BytesSettled (if hamperFree s then drainTo s 4 else s) := by
  split
  · exact h.after_drainTo 4
  · exact ⟨rfl, h⟩

theorem writeNow_record_mem (id : Nat) (d : Bytes) : (writeNow s (.record id d)).stor.mem = s.stor.mem := by
  unfold writeNow
  split
  · obtain ⟨hm, hs⟩ := h.after_drainTo (targetWriter (.record id d)).cls
    rw [applyTarget, (writePlaced_stor hs.tape _).1, placedBytes_resolve, hm]
    rfl
  · rfl

end BytesSettled

/-- Pages that a target's content fills in an operation. -/
def targetPages : Target → Nat
  | .bytes a d => pagesOf a d.length
  | .record _ d => recPages d.length
  | .cell .. | .row .. => 0

theorem length_pageImages_resolve (s : State) (t : Target) : (pageImages s (resolve s t)).length = targetPages t := by
  cases t with
  | bytes a d => simp [resolve, pageImages, targetPages]
  | record id d => exact length_pageImages_copy ..
  | cell | row => rfl

theorem length_pageImages_images (s : State) (is : List Image) :
    ((is.map fun i => resolve s i.target).map (pageImages s)).flatten.length = (is.map fun i => targetPages i.target).sum := by
  simp only [List.length_flatten, List.map_map]
  congr 1
  exact List.map_congr_left fun i _ => length_pageImages_resolve s i.target

theorem foldl_placedBytes_resolve (s : State) (is : List Image) (m : List Host.Cell) :
    (is.map fun i => resolve s i.target).foldl placedBytes m = is.foldl (fun m i => targetBytes m i.target) m := by
  simp only [List.foldl_map, placedBytes_resolve]

/-- An operation of its owners' images on no more pages than it may change puts every image in place. -/
theorem BytesSettled.after_journalOp {s : State} {is : List Image} (h : BytesSettled s) (ho : imagesOwned is = true)
    (hl : (is.map fun i => targetPages i.target).sum ≤ 246) :
    (journalOp s is).stor.mem = is.foldl (fun m i => targetBytes m i.target) s.stor.mem ∧ BytesSettled (journalOp s is) := by
  obtain ⟨hm, hs⟩ := h.after_issued
  simp only [journalOp, if_pos ho, length_pageImages_images, if_neg (Nat.not_lt.mpr hl)]
  generalize (if hamperFree s = true then drainTo s 4 else s) = d at hm hs ⊢
  obtain ⟨hjm, hjt⟩ := journalRun_stor hs.tape (is.map fun i => resolve d i.target)
    ((is.map fun i => resolve d i.target).map (pageImages d)).flatten
  refine ⟨by rw [hjm, foldl_placedBytes_resolve, hm], hjt, ?_⟩
  rw [(law_journalRun ..).pend_eq rfl]
  exact hs.pend

end Sys2Proof.Machine

namespace Sys2Proof.Machine

/-! ## The Kiln's queue (R289, R293) -/

section Queue
variable {q : List SealReq} {i : Nat}

theorem requestAt_of_lt (h : i < q.length) : requestAt q i = q[i] := by
  simp [requestAt, h]

theorem requestAt_modify (f : SealReq → SealReq) (h : i < q.length) : requestAt (q.modify i f) i = f (requestAt q i) := by
  simp [requestAt, h]

/-- Requests that enter the queue keep everything but their place. -/
theorem requestAt_enterPlaces (n : Nat) (q : List SealReq) (i : Nat) :
    ∃ b, requestAt (enterPlaces n q) i = { requestAt q i with placed := b } := by
  induction q generalizing n i with
  | nil => exact ⟨_, rfl⟩
  | cons r t ih =>
    unfold enterPlaces
    cases i with
    | zero =>
      split
      · exact ⟨true, rfl⟩
      · exact ⟨r.placed, rfl⟩
    | succ j =>
      split
      · exact ih (n + 1) j
      · exact ih n j

theorem lt_of_busyPlace (h : busyPlace q = some i) : i < q.length := List.mem_range.mp (List.mem_of_find?_eq_some h)

/-- One more place is looked at for the request that ranks lowest. -/
def takeLower (q : List SealReq) (a : Option (Nat × Nat)) (i : Nat) : Option (Nat × Nat) :=
  match q[i]?, a with
  | some r, none => if r.placed then some (i, r.rank) else none
  | some r, some (_, b) => if r.placed && decide (r.rank < b) then some (i, r.rank) else a
  | none, _ => a

theorem nextRequest_eq (q : List SealReq) : nextRequest q = ((List.range q.length).foldl (takeLower q) none).map (·.1) := rfl

/-- What is taken of the first n places: nothing where none of their requests holds a place of the queue, else the first that ranks
lowest, with its rank. -/
def LowestOf (q : List SealReq) (n : Nat) : Option (Nat × Nat) → Prop
  | none => ∀ j, j < n → (requestAt q j).placed = false
  | some (i, b) => i < n ∧ (requestAt q i).placed = true ∧ (requestAt q i).rank = b ∧
      ∀ j, j < n → (requestAt q j).placed = true → b ≤ (requestAt q j).rank ∧ (j < i → b < (requestAt q j).rank)

theorem lowestOf_takeLower {a : Option (Nat × Nat)} {n : Nat} (hn : n < q.length) (h : LowestOf q n a) :
    LowestOf q (n + 1) (takeLower q a n) := by
  have hq : q[n]? = some (requestAt q n) := by rw [requestAt_of_lt hn, List.getElem?_eq_getElem hn]
  cases a with
  | none =>
    simp only [takeLower, hq]
    split
    next hp =>
      refine ⟨Nat.lt_succ_self n, hp, rfl, fun j hj hpj => ?_⟩
      obtain hj | rfl := Nat.lt_succ_iff_lt_or_eq.mp hj
      · exact absurd (h j hj) (by simp [hpj])
      · exact ⟨Nat.le_refl _, fun hlt => absurd hlt (Nat.lt_irrefl _)⟩
    next hp =>
      intro j hj
      obtain hj | rfl := Nat.lt_succ_iff_lt_or_eq.mp hj
      · exact h j hj
      · simpa using hp
  | some x =>
    obtain ⟨i, b⟩ := x
    obtain ⟨hi, hpi, hri, hall⟩ := h
    simp only [takeLower, hq, Bool.and_eq_true, decide_eq_true_eq]
    split
    next hlow =>
      obtain ⟨hp, hlt⟩ := hlow
      refine ⟨Nat.lt_succ_self n, hp, rfl, fun j hj hpj => ?_⟩
      obtain hj | rfl := Nat.lt_succ_iff_lt_or_eq.mp hj
      · have hb := (hall j hj hpj).1
        omega
      · exact ⟨Nat.le_refl _, fun hlt => absurd hlt (Nat.lt_irrefl _)⟩
    next hlow =>
      refine ⟨by omega, hpi, hri, fun j hj hpj => ?_⟩
      obtain hj | rfl := Nat.lt_succ_iff_lt_or_eq.mp hj
      · exact hall j hj hpj
      · have hb : ¬ (requestAt q j).rank < b := fun hlt => hlow ⟨hpj, hlt⟩
        omega

theorem lowestOf_foldl (q : List SealReq) {n : Nat} (hn : n ≤ q.length) : LowestOf q n ((List.range n).foldl (takeLower q) none) := by
  induction n with
  | zero => exact fun j hj => absurd hj (Nat.not_lt_zero j)
  | succ n ih =>
    rw [List.range_succ, List.foldl_append]
    exact lowestOf_takeLower hn (ih (Nat.le_of_succ_le hn))

/-- The next request is the first that ranks lowest among those that hold a place. -/
theorem nextRequest_lowest (h : nextRequest q = some i) : i < q.length ∧ (requestAt q i).placed = true ∧
    ∀ j, j < q.length → (requestAt q j).placed = true →
      (requestAt q i).rank ≤ (requestAt q j).rank ∧ (j < i → (requestAt q i).rank < (requestAt q j).rank) := by
  have hl := lowestOf_foldl q (Nat.le_refl q.length)
  rw [nextRequest_eq, Option.map_eq_some_iff] at h
  obtain ⟨⟨k, b⟩, hk, rfl⟩ := h
  rw [hk] at hl
  obtain ⟨hi, hp, rfl, hall⟩ := hl
  exact ⟨hi, hp, hall⟩

end Queue

theorem setQueue_queue (s : State) (q : List SealReq) : (setQueue s q).kiln.queue = enterPlaces (contenders q) q := by
  simp only [setQueue, setN_kiln]

/-! ## An attempt begins (R294, R295) -/

theorem updRequest_at (s : State) {i : Nat} (f : SealReq → SealReq) (h : i < s.kiln.queue.length) :
    requestAt (updRequest s i f).kiln.queue i = f (requestAt s.kiln.queue i) := requestAt_modify f h

section Begin
variable {s : State} {i : Nat} (n : Nat) (b : Bytes)

theorem beginSigning_at (h : i < s.kiln.queue.length) :
    (requestAt (beginSigning s i n b).kiln.queue i).phase = .signing n ∧ (requestAt (beginSigning s i n b).kiln.queue i).header = b ∧
      (requestAt (beginSigning s i n b).kiln.queue i).started = s.clock.tick := by
  unfold beginSigning
  dsimp only
  rw [updRequest_at (freshFree (freshFree s).2).2 _ h]
  exact ⟨rfl, rfl, rfl⟩

end Begin

/-- The next request is signed from now on: an attempt begins with the header of this instant, and 2B20.03 shows the kind. -/
def signingStarted (s : State) (i : Nat) : State :=
  let s1 := beginSigning s i 1 (sealHeader s (requestAt s.kiln.queue i))
  setN (setQueue s1 s1.kiln.queue) 0x2B20 0x03 (requestAt s.kiln.queue i).kind

theorem runs_signingStart {s : State} {i : Nat} (hc : canSign s = true) (hb : busyPlace s.kiln.queue = none)
    (hn : nextRequest s.kiln.queue = some i) : runs .signingStart s (signingStarted s i) := by
  have he : exec .signingStart s = execSigningStart s := rfl
  simp only [execSigningStart, hb, hn] at he
  exact runs_doneIf _ he hc

theorem signingStarted_at {s : State} {i : Nat} (h : i < s.kiln.queue.length) :
    (requestAt (signingStarted s i).kiln.queue i).phase = .signing 1 ∧
    (requestAt (signingStarted s i).kiln.queue i).header = sealHeader s (requestAt s.kiln.queue i) ∧
    (requestAt (signingStarted s i).kiln.queue i).started = s.clock.tick := by
  unfold signingStarted
  rw [setN_kiln, setQueue_queue]
  obtain ⟨b, e⟩ := requestAt_enterPlaces (contenders (beginSigning s i 1 (sealHeader s (requestAt s.kiln.queue i))).kiln.queue)
    (beginSigning s i 1 (sealHeader s (requestAt s.kiln.queue i))).kiln.queue i
  rw [e]
  exact beginSigning_at 1 _ h

theorem law_signingStarted (s : State) (i : Nat) : Law 0x40000400008 s (signingStarted s i) :=
  (((law_beginSigning ..).mono rfl).step (law_setQueue ..) rfl).step (law_setN ..) rfl

theorem holds_signingStarted {s : State} (hw : s.entriesWf) (i : Nat) :
    holds (signingStarted s i) 0x2B20 0x03 (requestAt s.kiln.queue i).kind :=
  holds_setN _ _ _ _ ((law_setQueue ..).wf ((law_beginSigning ..).wf hw))

/-! ## An attempt ends (R295) -/

/-- The signing times are shown: of the request that has been signed and, where it is the longest, in 2B20.07. -/
def timesShown (s : State) (i : Nat) : State :=
  let ms := s.clock.tick - (requestAt s.kiln.queue i).started
  setN (setN s 0x2B20 0x06 ms) 0x2B20 0x07 (max ms (getN s 0x2B20 0x07))

theorem law_timesShown (s : State) (i : Nat) : Law 0x8 s (timesShown s i) := (law_setN ..).trans (law_setN ..)

theorem onlyEntries_timesShown (s : State) (i : Nat) : onlyEntries [(0x2B20, 6), (0x2B20, 7)] s (timesShown s i) :=
  onlyEntries_setN _ _ _ (by decide) (onlyEntries_setN _ _ _ (by decide) (onlyEntries.refl _ s))

theorem holds_timesShown {s : State} (hw : s.entriesWf) (i : Nat) :
    holds (timesShown s i) 0x2B20 0x06 (s.clock.tick - (requestAt s.kiln.queue i).started) :=
  (holds_setN_ne _ _ _ _ _ _ _ (by decide)).mpr (holds_setN s _ _ _ hw)

/-- A bad signature is counted in 2B20.09. -/
def badCounted (s : State) (i : Nat) : State := putN (timesShown s i) 0x2B20 0x09 (getN s 0x2B20 0x09 + 1)

theorem law_badCounted (s : State) (i : Nat) : Law 0x88 s (badCounted s i) := ((law_timesShown s i).mono rfl).trans (law_putN ..)

theorem holds_badCounted {s : State} (hw : s.entriesWf) (i : Nat) : holds (badCounted s i) 0x2B20 0x09 (getN s 0x2B20 0x09 + 1) :=
  holds_putN _ _ _ _ ((law_timesShown s i).wf hw)

section Complete
variable {s : State} {i n : Nat} (hu : isUp s = true) (he : s.power.entry = none) (hb : busyPlace s.kiln.queue = some i)
  (hp : (requestAt s.kiln.queue i).phase = .signing n)
include hu he hb hp

theorem runs_signingComplete_good : runs (.signingComplete true) s (if (requestAt s.kiln.queue i).kind = 4 then
    deliverStatement (timesShown s i) i else if s.power.warning.isSome then updRequest (timesShown s i) i fun r => { r with phase := .held }
    else commitSeal (timesShown s i) i) := by
  have h : exec (.signingComplete true) s = execSigningComplete true s := rfl
  simp only [execSigningComplete, hb, hp, if_true] at h
  exact runs_doneIf _ h (by simp [hu, he])

theorem runs_signingComplete_bad : runs (.signingComplete false) s (if n = 1 then
    (if s.kiln.trngHalted.isNone then beginSigning (badCounted s i) i 2 (requestAt s.kiln.queue i).header
      else updRequest (badCounted s i) i fun r => { r with phase := .failedOnce })
    else raiseHeld (updRequest (badCounted s i) i fun r => { r with phase := .retry s.clock.tick }) 0x8040) := by
  have h : exec (.signingComplete false) s = execSigningComplete false s := rfl
  simp only [execSigningComplete, hb, hp, Bool.false_eq_true, if_false] at h
  exact runs_doneIf _ h (by simp [hu, he])

end Complete

theorem runs_signingRetry {s : State} {i t : Nat} (hc : canSign s = true) (hb : busyPlace s.kiln.queue = some i)
    (hp : (requestAt s.kiln.queue i).phase = .retry t) (ht : t + 60000 ≤ s.clock.tick) :
    runs .signingRetry s (beginSigning s i 1 (sealHeader s (requestAt s.kiln.queue i))) := by
  have he : exec .signingRetry s = execSigningRetry s := rfl
  simp only [execSigningRetry, hb, hp] at he
  exact runs_doneIf _ he (by simp [hc, ht])

end Sys2Proof.Machine

namespace Sys2Proof.Machine

/-! ## A signed attestation (R307) -/

/-- The signed attestation at a place stands as the statement of its requester, and has left the queue. -/
def statementStands (s : State) (i : Nat) : State :=
  let r := requestAt s.kiln.queue i
  let s1 := { s with kiln := { s.kiln with
    statements := ⟨r.who, r.header ++ r.sig, s.clock.tick⟩ :: s.kiln.statements.filter (·.who != r.who) } }
  setN (setQueue s1 (s.kiln.queue.eraseIdx i)) 0x2B20 0x03 0xFF

theorem deliverStatement_eq (s : State) (i : Nat) :
    deliverStatement s i = saveN (statementStands s i) 0x2F10 0x06 (getN s 0x2F10 0x06 + 1) := rfl

theorem saveN_mem {s : State} (h : BytesSettled s) (i j n : Nat) : (saveN s i j n).stor.mem = s.stor.mem := by
  have hs : (setBytes s i j (leBytes (entSize i j) n)).stor = s.stor := setBytes_stor ..
  unfold saveN
  rw [(h.of_stor hs).writeNow_record_mem, hs]

theorem statementStands_stor (s : State) (i : Nat) : (statementStands s i).stor = s.stor := by
  simp only [statementStands, setQueue, setN_stor]

theorem deliverStatement_kiln (s : State) (i : Nat) : (deliverStatement s i).kiln = (statementStands s i).kiln :=
  (law_saveN ..).kiln_eq rfl rfl rfl

theorem onlyEntries_deliverStatement (s : State) (i : Nat) :
    onlyEntries ((0x2B20, 2) :: (0x2B20, 3) :: (0x2B20, 4) :: (0x2F10, 6) :: storageEntries) s (deliverStatement s i) := by
  refine .step (onlyEntries_setBytes _ _ _ (by decide) (onlyEntries_setN _ _ _ (by decide)
    (.step ?_ (onlyEntries_setQueue _ _) (by decide)))) (storageOnly_writeNow ..).entries (by decide)
  exact onlyEntries_of_ents rfl _

theorem deliverStatement_queue (s : State) (i : Nat) : (deliverStatement s i).kiln.queue =
    enterPlaces (contenders (s.kiln.queue.eraseIdx i)) (s.kiln.queue.eraseIdx i) := by
  rw [deliverStatement_kiln, statementStands, setN_kiln]
  exact setQueue_queue ..

theorem mem_statements_deliverStatement (s : State) (i : Nat) : ⟨(requestAt s.kiln.queue i).who,
    (requestAt s.kiln.queue i).header ++ (requestAt s.kiln.queue i).sig, s.clock.tick⟩ ∈ (deliverStatement s i).kiln.statements := by
  rw [deliverStatement_kiln]
  simp [statementStands, setQueue]

theorem deliverStatement_mem {s : State} (h : BytesSettled s) (i : Nat) : (deliverStatement s i).stor.mem = s.stor.mem := by
  rw [deliverStatement_eq, saveN_mem (h.of_stor (statementStands_stor s i)), statementStands_stor]

/-! ## The operation that commits a seal (R283, R288, R292, R413) -/

/-- The images of the operation: the slot, the next sequence, the kept requests, the signature count and, of a billing seal, the pinned
slots in use. -/
def commitImages (s : State) (i : Nat) : List Image :=
  let r := requestAt s.kiln.queue i
  [⟨.kiln, .bytes (sealAddr (nextSlot s (r.kind == 1))) (slotImage r.header r.sig)⟩,
    entryImage 0x2B10 0x01 (leBytes 8 (getN s 0x2B10 0x01 + 1)), keptImage (s.kiln.queue.eraseIdx i),
    entryImage 0x2F10 0x06 (leBytes 4 (getN s 0x2F10 0x06 + 1))]
  ++ if r.kind = 1 then [entryImage 0x2B10 0x03 (leBytes 2 (min 320 (getN s 0x2B10 0x03 + 1)))] else []

/-- What the device then knows of the seal. -/
def sealMade (s : State) (i : Nat) : SealMeta :=
  let r := requestAt s.kiln.queue i
  let last := fieldN r.header 56 8
  { slot := nextSlot s (r.kind == 1), seq := getN s 0x2B10 0x01, kind := r.kind, last := if last = noSeq then none else some last,
    auditSeq := fieldN r.header 96 4, digest := sha256 r.header, epoch := fieldN r.header 32 4, reasons := r.reasons,
    header := r.header, valid := true }

/-- The operation is done, and the next sequence stands. -/
def sequenceAdvanced (s : State) (i : Nat) : State := setN (journalOp s (commitImages s i)) 0x2B10 0x01 (getN s 0x2B10 0x01 + 1)

/-- The pinned slots in use stand, the device knows the seal, and the losses that its header shows are told. -/
def sealKnown (s : State) (i : Nat) : State :=
  let r := requestAt s.kiln.queue i
  let used := getN s 0x2B10 0x03
  let flag := (fieldN r.header 38 2).testBit
  let s2 := setN (sequenceAdvanced s i) 0x2B10 0x03 (if r.kind = 1 then min 320 (used + 1) else used)
  { s2 with kiln := { s2.kiln with
    seals := sealMade s i :: s2.kiln.seals.filter (·.slot != nextSlot s (r.kind == 1)), recordsLost := s2.kiln.recordsLost && !flag 6,
    billingOmitted := s2.kiln.billingOmitted && !(r.kind == 1 && flag 9) } }

/-- The request of the seal has left the queue, and the counts of seals and signatures stand. -/
def sealCounted (s : State) (i : Nat) : State :=
  setN (addN (setN (setQueue (sealKnown s i) (s.kiln.queue.eraseIdx i)) 0x2B20 0x03 0xFF) 0x2B10 0x0D 1) 0x2F10 0x06
    (getN s 0x2F10 0x06 + 1)

/-- A seal whose header shows tampering takes the tamper mark away. -/
def markCleared (s : State) (r : SealReq) : State :=
  if (fieldN r.header 38 2).testBit 2 then
    writeNow { s with power := { s.power with tamperMark := false } } (.record recMarks [0])
  else s

/-- A committed seal raises 0x8001, and 0x8020 where it replaces a pinned one, and clears what a stored seal clears. -/
def commitShown (s : State) (r : SealReq) (used : Nat) : State :=
  let s6 := if r.kind = 1 ∧ 320 ≤ used then raise s 0x8020 else s
  let s7 := dropCond (dropCond (dropCond (raise s6 0x8001) 0x8030) 0x9020) 0x8040
  if r.kind = 1 then dropCond s7 0x8050 else s7

theorem commitSeal_eq (s : State) (i : Nat) : commitSeal s i =
    commitShown (markCleared (sealCounted s i) (requestAt s.kiln.queue i)) (requestAt s.kiln.queue i) (getN s 0x2B10 0x03) := rfl

section Images

theorem length_leBytes (k n : Nat) : (leBytes k n).length = k := by
  induction k generalizing n with
  | zero => rfl
  | succ k ih => simp only [leBytes, List.length_cons, ih]

theorem length_slotImage {header sig : Bytes} (hh : header.length = 256) (hs : sig.length = 7856) :
    (slotImage header sig).length = 8192 := by
  simp only [slotImage, List.length_append, length_leBytes, List.length_replicate, hh, hs]

theorem length_keptRecord_le (q : List SealReq) : (keptRecord q).length ≤ 20 * q.length := by
  have hr (r : SealReq) : (keptBytes r).length = 20 := by simp only [keptBytes, List.length_append, length_leBytes]
  have hl (l : List SealReq) : (l.map keptBytes).flatten.length = 20 * l.length := by
    induction l with
    | nil => rfl
    | cons r l ih => simp only [List.map_cons, List.flatten_cons, List.length_append, List.length_cons, ih, hr]; omega
  have hf := List.length_filter_le (fun r : SealReq => r.kind != 4) q
  rw [keptRecord, hl]
  omega

theorem writerOf_sealAddr {slot : Nat} (h : slot < 768) : writerOf (sealAddr slot) = .kiln := by
  have hr : regionOf (sealAddr slot) = 5 := by
    have hlow : ¬ sealAddr slot < 0x3200000 := by unfold sealAddr; omega
    have hhigh : sealAddr slot < 0x3800000 := by unfold sealAddr; omega
    unfold regionOf
    rw [if_neg (by omega), if_neg (by omega), if_neg (by omega), if_neg (by omega), if_neg hlow, if_pos hhigh]
  simp only [writerOf, hr]

variable {s : State} {i : Nat}

theorem imagesOwned_commitImages (h : nextSlot s ((requestAt s.kiln.queue i).kind == 1) < 768) : imagesOwned (commitImages s i) = true := by
  simp only [imagesOwned, commitImages, List.all_append, List.all_cons, List.all_nil, targetWriter, writerOf_sealAddr h, entryImage,
    keptImage, recordImage, decide_true, Bool.and_true, Bool.true_and]
  split <;> simp

/-- The slot's 64 pages, at most 7 of kept requests, and one for each of the entries. -/
theorem targetPages_commitImages (hq : s.kiln.queue.length ≤ 40) (hh : (requestAt s.kiln.queue i).header.length = 256)
    (hs : (requestAt s.kiln.queue i).sig.length = 7856) : ((commitImages s i).map fun x => targetPages x.target).sum ≤ 246 := by
  have hk := length_keptRecord_le (s.kiln.queue.eraseIdx i)
  have he := (List.eraseIdx_sublist s.kiln.queue i).length_le
  have hp : ((if (requestAt s.kiln.queue i).kind = 1 then [entryImage 0x2B10 0x03 (leBytes 2 (min 320 (getN s 0x2B10 0x03 + 1)))]
      else []).map fun x => targetPages x.target).sum ≤ 1 := by
    split
    · simp [entryImage, targetPages, recPages, length_leBytes]
    · exact Nat.zero_le 1
  simp only [commitImages, List.map_append, List.map_cons, List.map_nil, List.sum_append, List.sum_cons, List.sum_nil, targetPages,
    entryImage, keptImage, recordImage, recPages, pagesOf, length_slotImage hh hs, length_leBytes] at hp ⊢
  omega

/-- Of the images only the slot is bytes of memory. -/
theorem foldl_targetBytes_commitImages (m : List Host.Cell) : (commitImages s i).foldl (fun m x => targetBytes m x.target) m =
    memWrites m (sealAddr (nextSlot s ((requestAt s.kiln.queue i).kind == 1)))
      (slotImage (requestAt s.kiln.queue i).header (requestAt s.kiln.queue i).sig) := by
  unfold commitImages
  dsimp only
  split <;> rfl

end Images

/-! ## What a commit changes, and what it leaves -/

section Commit
variable (s : State) (i : Nat)

/-- The entries that a commit gives new values. -/
def commitEntries : List (Nat × Nat) := [(0x2B10, 3), (0x2B10, 0x0D), (0x2B20, 2), (0x2B20, 3), (0x2B20, 4), (0x2F10, 6)]

theorem onlyEntries_sealKnown : onlyEntries commitEntries (sequenceAdvanced s i) (sealKnown s i) :=
  (onlyEntries_setN 0x2B10 0x03 _ (by decide) (onlyEntries.refl _ _)).of_ents rfl

theorem onlyEntries_sealCounted : onlyEntries commitEntries (sequenceAdvanced s i) (sealCounted s i) :=
  onlyEntries_setN _ _ _ (by decide) (onlyEntries_addN _ _ _ (by decide) (onlyEntries_setN _ _ _ (by decide)
    ((onlyEntries_sealKnown s i).step (onlyEntries_setQueue _ _) (by decide))))

theorem storageOnly_markCleared (r : SealReq) : StorageOnly s (markCleared s r) := by
  unfold markCleared
  split
  · refine .trans ?_ (storageOnly_writeNow ..)
    exact (StorageOnly.refl s).same rfl rfl
  · exact .refl s

theorem law_commitShown (r : SealReq) (used : Nat) : Law 0x8200 s (commitShown s r used) := by
  have h6 : Law 0x8200 s (if r.kind = 1 ∧ 320 ≤ used then raise s 0x8020 else s) := .ite (law_raise ..) (.refl _ s)
  have h7 := (((h6.trans (law_raise _ 0x8001)).trans (law_dropCond _ 0x8030)).trans (law_dropCond _ 0x9020)).trans (law_dropCond _ 0x8040)
  exact .ite (h7.trans (law_dropCond ..)) h7

theorem onlyEntries_commitSeal_of_sequenceAdvanced :
    onlyEntries (commitEntries ++ storageEntries) (sequenceAdvanced s i) (commitSeal s i) := by
  rw [commitSeal_eq]
  exact (((onlyEntries_sealCounted s i).mono (by simp +contextual)).step (storageOnly_markCleared ..).entries (by simp +contextual)).of_ents
    ((law_commitShown ..).ents_eq rfl)

theorem onlyEntries_commitSeal : onlyEntries ((0x2B10, 1) :: commitEntries ++ storageEntries) s (commitSeal s i) :=
  .step (onlyEntries_setN _ _ _ (by decide) ((storageOnly_journalOp s (commitImages s i)).entries.mono (by simp +contextual)))
    (onlyEntries_commitSeal_of_sequenceAdvanced s i) (by simp +contextual)

theorem holds_sequence_commitSeal {s : State} (hw : s.entriesWf) (i : Nat) : holds (commitSeal s i) 0x2B10 0x01 (getN s 0x2B10 0x01 + 1) :=
  (onlyEntries_commitSeal_of_sequenceAdvanced s i 0x2B10 1 (by decide)).trans (holds_setN _ _ _ _ ((law_journalOp ..).wf hw))

theorem markCleared_kiln (r : SealReq) : (markCleared s r).kiln = s.kiln := by
  unfold markCleared
  split
  · exact (law_writeNow ..).kiln_eq rfl rfl rfl
  · rfl

theorem commitSeal_kiln : (commitSeal s i).kiln = (sealCounted s i).kiln := by
  rw [commitSeal_eq, (law_commitShown ..).kiln_eq rfl rfl rfl, markCleared_kiln]

theorem commitSeal_queue : (commitSeal s i).kiln.queue =
    enterPlaces (contenders (s.kiln.queue.eraseIdx i)) (s.kiln.queue.eraseIdx i) := by
  rw [commitSeal_kiln, sealCounted, setN_kiln, addN_kiln, setN_kiln, setQueue_queue]

theorem sealMade_mem_commitSeal : sealMade s i ∈ (commitSeal s i).kiln.seals := by
  rw [commitSeal_kiln, sealCounted, setN_kiln, addN_kiln, setN_kiln, (law_setQueue ..).seals_eq rfl]
  exact List.mem_cons_self

theorem raised_commitSeal : raised (commitSeal s i) 0x8001 = true ∧ raised (commitSeal s i) 0x8040 = false ∧
    raised (commitSeal s i) 0x8030 = false ∧ raised (commitSeal s i) 0x9020 = false := by
  rw [commitSeal_eq]
  unfold commitShown
  dsimp only
  split <;> simp [raised_dropCond, raised_raise]

theorem sealCounted_stor : (sealCounted s i).stor = (journalOp s (commitImages s i)).stor := by
  simp only [sealCounted, setQueue, setN_stor, addN_stor]
  exact (setN_stor ..).trans (setN_stor ..)

theorem markCleared_mem {s : State} (h : BytesSettled s) (r : SealReq) : (markCleared s r).stor.mem = s.stor.mem := by
  unfold markCleared
  split
  · exact BytesSettled.writeNow_record_mem (s := { s with power := { s.power with tamperMark := false } }) (h.of_stor rfl) _ _
  · rfl

/-- The slot takes header, signature and CRC, and no other byte changes. -/
theorem commitSeal_mem {s : State} {i : Nat} (h : BytesSettled s) (hslot : nextSlot s ((requestAt s.kiln.queue i).kind == 1) < 768)
    (hq : s.kiln.queue.length ≤ 40) (hh : (requestAt s.kiln.queue i).header.length = 256)
    (hs : (requestAt s.kiln.queue i).sig.length = 7856) : (commitSeal s i).stor.mem =
      memWrites s.stor.mem (sealAddr (nextSlot s ((requestAt s.kiln.queue i).kind == 1)))
        (slotImage (requestAt s.kiln.queue i).header (requestAt s.kiln.queue i).sig) := by
  obtain ⟨hjm, hjs⟩ := h.after_journalOp (imagesOwned_commitImages hslot) (targetPages_commitImages hq hh hs)
  rw [foldl_targetBytes_commitImages] at hjm
  rw [commitSeal_eq, (law_commitShown ..).mem_eq rfl, markCleared_mem (hjs.of_stor (sealCounted_stor s i)), sealCounted_stor, hjm]

end Commit

end Sys2Proof.Machine

namespace Sys2Proof.Machine

/-! ## What an attempt's end leaves as it was -/

section Ended
variable (s : State) (i : Nat)

theorem timesShown_kiln : (timesShown s i).kiln = s.kiln := (law_timesShown s i).kiln_eq rfl rfl rfl

theorem timesShown_stor : (timesShown s i).stor = s.stor := (setN_stor ..).trans (setN_stor ..)

theorem timesShown_clock : (timesShown s i).clock = s.clock := (law_timesShown s i).clock_eq rfl

theorem badCounted_kiln : (badCounted s i).kiln = s.kiln := (law_badCounted s i).kiln_eq rfl rfl rfl

theorem badCounted_conds : (badCounted s i).conds = s.conds := (law_badCounted s i).conds_eq rfl

theorem getN_sequence_timesShown : getN (timesShown s i) 0x2B10 0x01 = getN s 0x2B10 0x01 :=
  (onlyEntries_timesShown s i).getN_eq (by decide) 0x2B10

theorem nextSlot_of_kiln {s t : State} (h : t.kiln = s.kiln) (b : Bool) : nextSlot t b = nextSlot s b := by
  unfold nextSlot latestSlot
  rw [h]

end Ended

section Phases
variable {s : State} {i n : Nat}

/-- The attempt that follows a first bad signature, or the wait for the TRNG, or the wait after a second one, keeps the count of bad
signatures. -/
theorem holds_bad_of_ents {u : State} (hw : s.entriesWf) (h : u.ents = (badCounted s i).ents) :
    holds u 0x2B20 0x09 (getN s 0x2B20 0x09 + 1) := (holds_of_ents h ..).mpr (holds_badCounted hw i)

theorem updRequest_badCounted_phase (ph : SealPhase) (h : i < s.kiln.queue.length) :
    (requestAt (updRequest (badCounted s i) i fun r => { r with phase := ph }).kiln.queue i).phase = ph := by
  rw [updRequest_at _ _ (by rwa [badCounted_kiln])]

end Phases

/-- SIGNING_COMPLETE with a good signature outside a warning: what the commit leaves, in terms of the state before the signing times
were shown. -/
theorem commitSeal_timesShown {s : State} {i : Nat} (hw : s.entriesWf) (hset : BytesSettled s)
    (hslot : nextSlot s ((requestAt s.kiln.queue i).kind == 1) < 768) (hq : s.kiln.queue.length ≤ 40)
    (hh : (requestAt s.kiln.queue i).header.length = 256) (hs : (requestAt s.kiln.queue i).sig.length = 7856) :
    (commitSeal (timesShown s i) i).stor.mem = memWrites s.stor.mem (sealAddr (nextSlot s ((requestAt s.kiln.queue i).kind == 1)))
      (slotImage (requestAt s.kiln.queue i).header (requestAt s.kiln.queue i).sig) ∧
    (commitSeal (timesShown s i) i).kiln.queue = enterPlaces (contenders (s.kiln.queue.eraseIdx i)) (s.kiln.queue.eraseIdx i) ∧
    holds (commitSeal (timesShown s i) i) 0x2B10 0x01 (getN s 0x2B10 0x01 + 1) ∧
    holds (commitSeal (timesShown s i) i) 0x2B20 0x06 (s.clock.tick - (requestAt s.kiln.queue i).started) := by
  have hk := timesShown_kiln s i
  have hn := nextSlot_of_kiln hk
  have hmem := commitSeal_mem (s := timesShown s i) (i := i) (hset.of_stor (timesShown_stor s i)) (by rwa [hn, hk]) (by rwa [hk])
    (by rwa [hk]) (by rwa [hk])
  have hseq := holds_sequence_commitSeal ((law_timesShown s i).wf hw) i
  rw [hn, hk, timesShown_stor] at hmem
  rw [getN_sequence_timesShown] at hseq
  refine ⟨hmem, by rw [commitSeal_queue, hk], hseq, ?_⟩
  exact (onlyEntries_commitSeal _ i 0x2B20 0x06 (by decide)).trans (holds_timesShown hw i)

/-- Settles O51: the next request is the lowest of the fold over the queue; a commit is one journalled operation whose only bytes are the
slot's. -/
theorem sealsAreSigned : Obligations.SealsAreSigned := by
  unfold Obligations.SealsAreSigned
  refine ⟨fun i s hc hw hb hn => ?_, fun i n s hu he hw hb hp hpend htape hq hh hs => ?_, fun i t s hc hb hp ht => ?_⟩
  · obtain ⟨hi, hplaced, hlowest⟩ := nextRequest_lowest hn
    obtain ⟨hphase, hheader, hstarted⟩ := signingStarted_at hi
    refine ⟨hi, hplaced, hlowest, signingStarted s i, runs_signingStart hc hb hn, hphase, hheader, hstarted,
      holds_signingStarted hw i, ?_, (law_signingStarted s i).conds_eq rfl⟩
    simp only [signingStarted, setQueue, setN_stor]
    rfl
  · have hi := lt_of_busyPlace hb
    have hset : BytesSettled s := ⟨htape, hpend⟩
    have hk := timesShown_kiln s i
    have hgood := runs_signingComplete_good hu he hb hp
    have hbad := runs_signingComplete_bad hu he hb hp
    refine ⟨fun h4 hno hslot => ?_, fun h4 hwarn => ?_, fun h4 => ?_, fun h1 ht => ?_, fun h1 ht => ?_, fun h1 => ?_⟩
    · rw [if_neg h4, hno, if_neg (by simp)] at hgood
      obtain ⟨hmem, hqueue, hseq, htime⟩ := commitSeal_timesShown hw hset hslot hq hh hs
      refine ⟨_, hgood, hmem, hqueue, hseq, htime, ⟨_, sealMade_mem_commitSeal .., ?_⟩, raised_commitSeal ..⟩
      simp only [sealMade, nextSlot_of_kiln hk, hk, getN_sequence_timesShown, and_self]
    · rw [if_neg h4, if_pos hwarn] at hgood
      refine ⟨_, hgood, ?_, timesShown_stor s i, (law_timesShown s i).conds_eq rfl⟩
      rw [updRequest_at _ _ (by rwa [hk])]
    · rw [if_pos h4] at hgood
      refine ⟨_, hgood, ?_, ?_, ?_, ?_⟩
      · rw [deliverStatement_mem (hset.of_stor (timesShown_stor s i)), timesShown_stor]
      · rw [deliverStatement_queue, hk]
      · have hm := mem_statements_deliverStatement (timesShown s i) i
        rwa [hk, timesShown_clock] at hm
      · rw [onlyEntries_deliverStatement (timesShown s i) i 0x2B10 1 (by decide), onlyEntries_timesShown s i 0x2B10 1 (by decide)]
    · rw [if_pos h1, if_pos (by simp [ht])] at hbad
      have hb2 := law_beginSigning (badCounted s i) i 2 (requestAt s.kiln.queue i).header
      obtain ⟨hphase, hheader, -⟩ := beginSigning_at (s := badCounted s i) 2 (requestAt s.kiln.queue i).header
        (by rwa [badCounted_kiln])
      exact ⟨_, hbad, hphase, hheader, holds_bad_of_ents hw (hb2.ents_eq rfl), (hb2.conds_eq rfl).trans (badCounted_conds s i)⟩
    · rw [if_pos h1, if_neg (by simpa [Option.isSome_iff_ne_none] using ht)] at hbad
      exact ⟨_, hbad, updRequest_badCounted_phase .failedOnce hi, holds_bad_of_ents hw rfl, badCounted_conds s i⟩
    · rw [if_neg h1] at hbad
      refine ⟨_, hbad, ?_, ?_, ?_, ?_⟩
      · rw [raiseHeld_kiln, updRequest_badCounted_phase (.retry s.clock.tick) hi]
      · exact holds_bad_of_ents hw (raiseHeld_ents ..)
      · simp [raised_raiseHeld]
      · refine .trans ?_ (onlyConds_raiseHeld _ _)
        exact fun c _ => raised_of_conds (badCounted_conds s i) c
  · have hi := lt_of_busyPlace hb
    have hlaw := law_beginSigning s i 1 (sealHeader s (requestAt s.kiln.queue i))
    obtain ⟨hphase, hheader, -⟩ := beginSigning_at 1 (sealHeader s (requestAt s.kiln.queue i)) hi
    exact ⟨_, runs_signingRetry hc hb hp ht, hphase, hheader, hlaw.ents_eq rfl, hlaw.conds_eq rfl⟩

end Sys2Proof.Machine
